-- ==== Sys2Proof/Word.lean ====
section
/-! DEFINITION. The word types of the model and the two container shapes its state is written in. -/

namespace Sys2Proof

/-- One byte. -/
abbrev Byte := BitVec 8

/-- A string of bytes in wire or address order. -/
abbrev Bytes := List (BitVec 8)

/-- A sparse table: entries by number, the numbers rising; an entry not listed has its owner's default value. -/
abbrev Tab (α : Type) := List (Nat × α)

end Sys2Proof
end

