-- ==== Sys2Proof/Syntax.lean ====
section
/-! DEFINITION. The commands the device takes from outside, one constructor per row of the opcode table, and the records
their operands are made of. Every command but the parse engine instructions and the TAP's carries the counter instant `t`
(ns of the 250 MHz counter clock) at which it comes about. -/

namespace Sys2Proof

/-! ### Operands shared by several chapters -/

/-- The transport instance a command packet arrived on, with what the device needs to deliver the reply (R400, R403,
R405, R408, R409). -/
inductive Via where
  /-- PCIe queue pair `q`: the submission entry's index, its reply buffer size and address, and how many host bridge resets
  had happened when it was fetched -/
  | queue (q : Fin 4) (slot : Nat) (replySize : Nat) (replyAddr : Nat) (enabling : Nat)
  /-- the SPI target -/
  | spi
  /-- in-band Ethernet: arrival port, key number, the command frame's source MAC, whether it was tagged, its VID -/
  | inband (port : Fin 12) (key : Fin 2) (mac : Nat) (tagged : Bool) (vid : Nat)
  /-- the fabric: the device that sent it -/
  | fabric (device : Fin 64)
  deriving DecidableEq, Repr

/-- An accepted command's header (Table 16.1) but for the opcode, which the row itself names, and the parameter length,
which is that of the parameters. `flags` bit 1 is `signed`, bit 2 `wait`, bits 4–3 the origin transport. -/
structure Call where
  via : Via
  flags : Nat
  tag : Nat
  dst : Nat
  src : Nat
  seq : Nat
  deriving DecidableEq, Repr

/-- The Announce information of one gPTP port (R17, R18): the priority vector, its steps removed, and the fabric device
at which that grandmaster attaches (0 outside the fabric or unknown). -/
structure Announce where
  priority1 : Nat
  clockQuality : Nat
  priority2 : Nat
  gmIdentity : Nat
  stepsRemoved : Nat
  senderIdentity : Nat
  gmDevice : Nat
  deriving DecidableEq, Repr

/-- A peer-delay message as a port meets it (R17): the request it sends; a request it receives, which it answers; the answer to
its own request, with the responder's turnaround in ns. -/
inductive PdelayMsg where
  | sent
  | request
  | response (turnaround : Nat)
  deriving DecidableEq, Repr

/-- A peer-delay message, and the external port configuration in force with it (none: the best master clock algorithm; else the
slave port it names, if it names one) (R17). -/
structure PeerDelay where
  message : PdelayMsg
  external : Option (Option (Fin 20))
  deriving DecidableEq, Repr

/-! ### CAN operands (chapters 3 and 4) -/

/-- A memory error a lookup finds (R144, R253): table, index (or slot), whether SECDED corrected it. -/
structure MemErr where
  table : Nat
  index : Nat
  corrected : Bool
  deriving DecidableEq, Repr

/-- The instant of a row, and the errors the gateway's memory shows in what the row does (R144). -/
structure GwAt where
  t : Nat
  errors : List MemErr
  deriving DecidableEq, Repr

/-- A CAN frame as it stands on the bus: format 0 CC, 1 FD, 2 XL; identifier (XL: the priority identifier) and its kind;
remote and ESI bits; bit-rate switching; DLC as transmitted (0 for XL); the XL fields; the data bytes in bus order. -/
structure CanFrame where
  fmt : Nat
  id : Nat
  xtd : Bool
  rtr : Bool
  brs : Bool
  esi : Bool
  dlc : Nat
  sec : Bool
  sdt : Nat
  vcid : Nat
  af : Nat
  data : Bytes
  deriving DecidableEq, Repr

/-- A memory error a read of CAN message memory meets (R117): the byte offset of the word, within the channel's memory, and
whether it was corrected. -/
structure MmErr where
  offset : Nat
  corrected : Bool
  deriving DecidableEq, Repr

/-- The instant of a read, and the errors it meets in CAN message memory, offsets from the base of that memory (R117). -/
structure MmAt where
  t : Nat
  errors : List MmErr
  deriving DecidableEq, Repr

/-- A frame at its acceptance instant (R104): the frame, the counter instant of its start-of-frame edge, whether a full
boundary FIFO dropped it (R43), the memory errors that reading the filter list met (R117), and the errors the gateway's own
memory shows it (R144). -/
structure CanRx where
  frame : CanFrame
  sof : Nat
  overrun : Bool
  filterErrors : List MmErr
  gateway : List MemErr
  deriving DecidableEq, Repr

/-- An error the engine detects (R90): its Table code (CAN_STATUS.lec encoding), whether in a data phase, whether the
channel was the transmitter, whether ISO 11898-1 leaves the counter unchanged for it, how many further steps of 8 it
adds, whether the transmit boundary FIFO ran empty (R43), whether the delay measurement exceeded its limit (R75). -/
structure CanError where
  code : Fin 8
  dataPhase : Bool
  transmitter : Bool
  uncounted : Bool
  plus8 : Nat
  underrun : Bool
  delayFail : Bool
  deriving DecidableEq, Repr

/-! ### Ethernet and switch operands (chapters 8 to 11) -/

/-- A frame at the end of its reception on an Ethernet port (R206): the bytes from its destination address to the end of
its FCS, the counter instant of its start, whether the PCS found an error code in it, whether a full boundary FIFO lost
part of it (R43). -/
structure EthRx where
  frame : Bytes
  start : Nat
  code : Bool
  overrun : Bool
  deriving DecidableEq, Repr

/-- A frame still being received at its ready instant (R259): its first 256 bytes, its length, the instant of its start. -/
structure EarlyFrame where
  head : Bytes
  len : Nat
  start : Nat
  deriving DecidableEq, Repr

/-- An error met in a hold buffer (R340): the 256-byte unit it lies in, and whether it was corrected. -/
structure HoldErr where
  unit : Fin 256
  corrected : Bool
  deriving DecidableEq, Repr

/-! ### Fabric operands (chapter 14) -/

/-- What seals a frame of an encrypted link: the frame counter it was sent under, which the header does not carry, and its tag
(R333). -/
structure LinkSeal where
  counter : Nat
  tag : Bytes
  deriving DecidableEq, Repr

/-- A frame on a Tyeth link: the header of Table 14.2 field by field, and its payload in byte order. -/
structure FabFrame where
  typ : Nat
  cls : Nat
  dual : Bool
  hops : Nat
  keyIx : Nat
  src : Nat
  dst : Nat
  flood : Bool
  linkLocal : Bool
  dstPort : Nat
  orgPort : Nat
  vid : Nat
  pcp : Nat
  dei : Bool
  seq : Nat
  init : Nat
  incarnation : Nat
  payload : Bytes
  deriving DecidableEq, Repr

/-- A hello (Table 14.6), without the neighbours a device record adds. -/
structure Hello where
  link : Nat
  coordCapable : Bool
  encCapable : Bool
  transitOnly : Bool
  compat : Nat
  uid : Nat
  id : Nat
  persisted : Nat
  coord : Nat
  routeGen : Nat
  incarnation : Nat
  deriving DecidableEq, Repr

/-- A device record (Table 14.6): a hello's fields and the UID of the neighbour on each of TL0–TL3, 0 for none. -/
structure DevRecord where
  hello : Hello
  neighbours : List Nat
  deriving DecidableEq, Repr

/-- An RRA request or response (Table 14.9) with its header's tag, initiator and incarnation. -/
structure Rra where
  tag : Nat
  init : Nat
  incarnation : Nat
  op : Nat
  width : Nat
  be : Nat
  offset : Nat
  data : Nat
  status : Nat
  deriving DecidableEq, Repr

/-! ### Host operands (chapters 15 and 16) -/

/-- A host frame descriptor as host memory holds it (Table 15.6), 32 bytes, and for a transmit ring the frame at its
address. -/
structure HostDesc where
  desc : Bytes
  frame : Bytes
  deriving DecidableEq, Repr

/-- A submission entry as host memory holds it (Table 16.3), and the packet at its cmd_addr. -/
structure Submission where
  entry : Bytes
  packet : Bytes
  deriving DecidableEq, Repr

/-! ### Operands of the wake die, of starts and of the debug port (chapters 17 to 19) -/

/-- What a selective-wake decoder reads: an erroneous frame, an FD format indication, or an error-free CAN CC frame (R427,
R428). -/
structure SwkFrame where
  error : Bool
  fd : Bool
  rtr : Bool
  xtd : Bool
  id : Nat
  dlc : Nat
  data : Bytes
  deriving DecidableEq, Repr

/-- What has befallen a copy of a two-copy record since it was written: its check value or its data have changed, or the last
write of the record was cut short before it reached this copy (R308, R455). -/
inductive CopyFault where
  | check
  | data
  | notWritten
  deriving DecidableEq, Repr

/-- What has befallen the copies A and B of the two-copy record of a kind. -/
structure TwoCopyRead where
  kind : Nat
  a : Option CopyFault
  b : Option CopyFault
  deriving DecidableEq, Repr

/-- What a start meets outside the device's own state: a step that fails and its reason (Table 18.2); a step that hangs; the
two-copy records whose copies have suffered; how many of the newest life-record pages fail their CRC (R66); and the settings
that a migration makes of the old ones, as register words by address (R469); and the speed indices of the 48 monitors that a return
from Doze samples (R60) or start step 3 takes (R449), where it takes any. -/
structure StartInputs where
  fails : Option (Nat × Nat)
  hangs : Option Nat
  records : List TwoCopyRead
  lostPages : Nat
  migrated : Option (List (Nat × Nat))
  sample : List (BitVec 16)
  deriving DecidableEq, Repr

/-! ### The commands -/

/-- The commands of the opcode table. -/
inductive Instr where
  /-- REGISTER_WRITE: 32 bits written to a local register address (R4, R5). -/
  | registerWrite (t : Nat) (addr : Nat) (data : BitVec 32)
  /-- RC_COUNTER_READ: a read of a local register address, speculative or not (R4). -/
  | rcCounterRead (t : Nat) (addr : Nat) (speculative : Bool)
  /-- SYNC_RECEIVED: a gPTP Sync on a port (0–11 ETH, 16–19 TL) from a grandmaster identity, with the measured offset in
  ns and its steps removed (R24). -/
  | syncReceived (t : Nat) (port : Fin 20) (gm : Nat) (offset : Int) (stepsRemoved : Nat)
  /-- STEP_APPLIED: the sweep ends and the pending step is applied (R26). -/
  | stepApplied (t : Nat)
  /-- RESIDUAL_WITHIN_1US: the residual offset of an ACQUIRING device falls to 1 µs (R24). -/
  | residualWithin1us (t : Nat)
  /-- SYNC_LOSS: three sync intervals without an accepted Sync (R20). -/
  | syncLoss (t : Nat)
  /-- HOLDOVER_LIMIT_EXPIRED (R23). -/
  | holdoverLimitExpired (t : Nat)
  /-- UNCERTAINTY_SATURATED (R23). -/
  | uncertaintySaturated (t : Nat)
  /-- ANNOUNCE_RECEIVED on a port (R18). -/
  | announceReceived (t : Nat) (port : Fin 20) (a : Announce)
  /-- ANNOUNCE_RECEIPT_TIMEOUT on a port (R17). -/
  | announceReceiptTimeout (t : Nat) (port : Fin 20)
  /-- PEER_DELAY_MESSAGE: a peer-delay message on a port, with the port configuration in force (R17). -/
  | peerDelayMessage (t : Nat) (port : Fin 20) (m : PeerDelay)
  /-- SYNC_TRANSMISSION: a port acting as master sends its two-step Sync (R17, R30). -/
  | syncTransmission (t : Nat) (port : Fin 20)
  /-- SI_SAMPLE: the speed indices of the 48 monitors, Q4.12 (R47, R51). -/
  | siSample (t : Nat) (si : List (BitVec 16))
  /-- DERATE_RECOMPUTE (R55). -/
  | derateRecompute (t : Nat)
  /-- PLANNER_LOWER (R51). -/
  | plannerLower (t : Nat)
  /-- AVS_READBACK: whether each Voltage write since the previous readback succeeded, oldest first; the voltage read in mV; whether
  the Status read reports a fault. A read of none failed (R53). -/
  | avsReadback (t : Nat) (writes : List Bool) (mv : Option Nat) (status : Option Bool)
  /-- AVS_RETRY: the same for the retried write and its reads (R53). -/
  | avsRetry (t : Nat) (wrote : Bool) (mv : Option Nat) (status : Option Bool)
  /-- TEMPERATURE_READING: the 16 sensors in 0.1 °C (R48). -/
  | temperatureReading (t : Nat) (tenths : List Int)
  /-- VREQ125_RECORD: V_req125 at 1,000 operating hours, in µV (R57). -/
  | vreq125Record (t : Nat) (microvolts : Nat)
  /-- HEM_REPLAN: σ in thousandths of a permille, the sensitivity in thousandths of a permille per mV, V_req125 in µV
  (R57, R58). -/
  | hemReplan (t : Nat) (sigma : Nat) (sensitivity : Nat) (microvolts : Nat)
  /-- LIFE_RECORD_CHECKPOINT: the checkpoint's cause, and the MRAM pages that fail write verification from now on (R63). -/
  | lifeRecordCheckpoint (t : Nat) (cause : Fin 6) (worn : List Nat)
  /-- CHECKPOINT_PERIOD (R64). -/
  | checkpointPeriod (t : Nat)
  /-- LR_CTRL_CHECKPOINT: a write of 1 to LR_CTRL.checkpoint (R64). -/
  | lrCtrlCheckpoint (t : Nat)
  /-- LR_SNAP_TAKE: a write of 1 to LR_SNAP.take (R68). -/
  | lrSnapTake (t : Nat)
  /-- LR_READ_PAGE: command 0x8010 (R68). -/
  | lrReadPage (t : Nat) (c : Call) (p : Bytes)
  /-- LR_CHECKPOINT: command 0x8011 (R68). -/
  | lrCheckpoint (t : Nat) (c : Call) (p : Bytes)
  /-- CAN_CTRL_MODE_WRITE: the mode written to CAN_CTRL.mode (R78, R79). -/
  | canCtrlModeWrite (t : Nat) (ch : Fin 64) (mode : Fin 8)
  /-- MODE_CHANGE_AT_IDLE (R78). -/
  | modeChangeAtIdle (t : Nat) (ch : Fin 64)
  /-- INTEGRATION_COMPLETE (R78). -/
  | integrationComplete (t : Nat) (ch : Fin 64)
  /-- CAN_FRAME_ACCEPTED: a received frame at its acceptance instant (R104). -/
  | canFrameAccepted (t : Nat) (ch : Fin 64) (rx : CanRx)
  /-- RX_STORE_COMPLETE: the channel's store in progress completes (R104). -/
  | rxStoreComplete (t : Nat) (ch : Fin 64)
  /-- PROTOCOL_EXCEPTION: an XL (or else FD) format indication (R93). -/
  | protocolException (t : Nat) (ch : Fin 64) (xl : Bool)
  /-- SELECTION_POINT: of an intermission, or on an idle bus; the instant at which another node starts a frame before the
  projected start-of-frame, if one does (R85, R86); the memory errors the engine's reads of transmit elements meet (R117). -/
  | selectionPoint (g : GwAt) (ch : Fin 64) (intermission : Bool) (taken : Option Nat) (errors : List MmErr)
  /-- REBUILD_COMPLETE: the rebuild or offer work of the channel is done (R88). -/
  | rebuildComplete (g : GwAt) (ch : Fin 64)
  /-- CAN_TRANSMIT_COMPLETE: the frame on the bus is transmitted; its start-of-frame instant; the delay measured, if one
  was (R84, R75). -/
  | canTransmitComplete (t : Nat) (ch : Fin 64) (sof : Nat) (delay : Option (Fin 256))
  /-- ARBITRATION_LOST (R84). -/
  | arbitrationLost (t : Nat) (ch : Fin 64)
  /-- CAN_ERROR_DETECTED (R90). -/
  | canErrorDetected (t : Nat) (ch : Fin 64) (e : CanError)
  /-- BUSOFF_HOLDOFF_EXPIRED (R91). -/
  | busoffHoldoffExpired (t : Nat) (ch : Fin 64)
  /-- BUSOFF_RECOVERY: the 128th recessive sequence (R91). -/
  | busoffRecovery (t : Nat) (ch : Fin 64)
  /-- CAN_TXBUF_REQ: the bits written, buffer k at bit k (R81). -/
  | canTxbufReq (t : Nat) (ch : Fin 64) (bits : BitVec 64)
  /-- CAN_TXQ_PUT: the slot written (R81). -/
  | canTxqPut (t : Nat) (ch : Fin 64) (slot : Fin 256)
  /-- CAN_TXBUF_CANCEL: the bits written (R89). -/
  | canTxbufCancel (t : Nat) (ch : Fin 64) (bits : BitVec 64)
  /-- CAN_TXQ_CANCEL: the slot written (R89). -/
  | canTxqCancel (t : Nat) (ch : Fin 64) (slot : Fin 256)
  /-- CAN_SET_MODE: command 0x2001 (R97). -/
  | canSetMode (t : Nat) (c : Call) (p : Bytes)
  /-- CAN_TX_ENQUEUE: command 0x2010 (R81). -/
  | canTxEnqueue (t : Nat) (c : Call) (p : Bytes)
  /-- CAN_TX_CANCEL: command 0x2011 (R89). -/
  | canTxCancel (t : Nat) (c : Call) (p : Bytes)
  /-- CAN_GET_STATE: command 0x2020 (R97). -/
  | canGetState (t : Nat) (c : Call) (p : Bytes)
  /-- CAN_RXF_ACK: index and uc written to CAN_RXFn_ACK (R109). -/
  | canRxfAck (t : Nat) (ch : Fin 64) (fifo : Fin 2) (index : Fin 256) (uc : Fin 256)
  /-- CAN_TXEF_ACK: index and uc written to CAN_TXEF_ACK (R116). -/
  | canTxefAck (t : Nat) (ch : Fin 64) (index : Fin 256) (uc : Fin 256)
  /-- CAN_MB_ND_CLEAR: the bits written 1 to CAN_MB_ND (R111). -/
  | canMbNdClear (t : Nat) (ch : Fin 64) (bits : BitVec 64)
  /-- HOST_TX_ELEMENT_WRITE: bytes the host writes into the channel's message memory (R113). -/
  | hostTxElementWrite (t : Nat) (ch : Fin 64) (offset : Nat) (data : Bytes)
  /-- CAN_FLT_WRITE: command 0x2030 (R107). -/
  | canFltWrite (t : Nat) (c : Call) (p : Bytes)
  /-- CAN_FLT_READ: command 0x2031 (R118). -/
  | canFltRead (t : Nat) (c : Call) (p : Bytes)
  /-- CLOAK_IGNORED_FRAME: a start-of-frame seen in Cloak (R94). -/
  | cloakIgnoredFrame (t : Nat) (ch : Fin 64)
  /-- SIGNAL_RECORD_SEND: the record at the head of a destination device's queue is sent (R140). -/
  | signalRecordSend (t : Nat) (device : Fin 64)
  /-- SIGNAL_RECORD_RECEIVED: a signal update record from a device (R141, Table 5.12). -/
  | signalRecordReceived (g : GwAt) (device : Fin 64) (record : Bytes)
  /-- CAN_COPY_RECEIVED: a fabric CAN copy from a device (R349, Table 14.4). -/
  | canCopyReceived (g : GwAt) (device : Fin 64) (payload : Bytes)
  /-- SG_TABLE_WRITE: command 0x3001 (R143). -/
  | sgTableWrite (t : Nat) (c : Call) (p : Bytes)
  /-- SG_TABLE_READ: command 0x3002 (R146). -/
  | sgTableRead (t : Nat) (c : Call) (p : Bytes)
  /-- SG_CANRT_ADD: command 0x3010 (R131). -/
  | sgCanrtAdd (t : Nat) (c : Call) (p : Bytes)
  /-- SG_CANRT_DEL: command 0x3011 (R131). -/
  | sgCanrtDel (t : Nat) (c : Call) (p : Bytes)
  /-- SG_CANRT_FIND: command 0x3012 (R146). -/
  | sgCanrtFind (t : Nat) (c : Call) (p : Bytes)
  /-- SG_SLOT_READ: command 0x3020 (R146). -/
  | sgSlotRead (g : GwAt) (c : Call) (p : Bytes)
  /-- SG_SLOT_WRITE: command 0x3021 (R146). -/
  | sgSlotWrite (g : GwAt) (c : Call) (p : Bytes)
  /-- SG_SLOT_CONFIG: command 0x3022 (R127). -/
  | sgSlotConfig (t : Nat) (c : Call) (p : Bytes)
  /-- SG_ND_CLR: the slot written to SG_ND_CLR (R129). -/
  | sgNdClr (t : Nat) (slot : Fin 65536)
  /-- CYCLE_INSTANT: a template's cycle instant (R162); the errors the gateway's memory shows (R144). -/
  | cycleInstant (t : Nat) (tpl : Fin 16384) (gateway : List MemErr)
  /-- MIN_INTERVAL_EXPIRED: a template's deferred build falls due (R164). -/
  | minIntervalExpired (g : GwAt) (tpl : Fin 16384)
  /-- TOKEN_REFILL: a token of the channel's limiter refills (R168). -/
  | tokenRefill (g : GwAt) (ch : Fin 64)
  /-- SG_CHRATE_WRITE: the word written to SG_CHRATE[n] (R168). -/
  | sgChrateWrite (t : Nat) (ch : Fin 64) (data : BitVec 32)
  /-- SG_TPL_TRIGGER: command 0x3030 (R175). -/
  | sgTplTrigger (g : GwAt) (c : Call) (p : Bytes)
  /-- SG_TPL_EXT: command 0x3031 (R157). -/
  | sgTplExt (t : Nat) (c : Call) (p : Bytes)
  /-- SG_AGE_QUERY: command 0x3032 (R175). -/
  | sgAgeQuery (g : GwAt) (c : Call) (p : Bytes)
  /-- ACF_PDU_SEAL: the open PDU of a transmit stream is sealed (R184, R185). -/
  | acfPduSeal (g : GwAt) (stream : Fin 64)
  /-- SG_MIRROR_N_WRITE: the word written to SG_MIRROR_N[n] (R195). -/
  | sgMirrorNWrite (t : Nat) (ch : Fin 64) (data : BitVec 32)
  /-- ETH_CFG_WRITE: the word written to ETH_CFG of a port (R202). -/
  | ethCfgWrite (t : Nat) (port : Fin 12) (data : BitVec 32)
  /-- ETH_LINK_UP: the conditions of R203 have held for 10 ms; the speed in force (ETH_STATUS.speed encoding). -/
  | ethLinkUp (t : Nat) (port : Fin 12) (speed : Fin 7)
  /-- ETH_LINK_DOWN: a condition of R203 has failed for 100 µs; the cause of Table 8.13 (0 synchronisation, 1 local fault,
  2 remote fault, 3 disabled, 4 half duplex); whether a frame was being received. -/
  | ethLinkDown (t : Nat) (port : Fin 12) (cause : Fin 5) (receiving : Bool)
  /-- ETH_FRAME_RECEIVED: the end of a frame's reception (R205, R206). -/
  | ethFrameReceived (t : Nat) (port : Fin 12) (rx : EthRx)
  /-- OUTPUT_FRAME_START: an output can start a frame (R219); how many requests queue 2 of the cipher engine holds where MACsec
  protects that frame (R315). -/
  | outputFrameStart (t : Nat) (out : Fin 19) (queue2 : Fin 65)
  /-- OUTPUT_FRAME_END: the frame on an output ends; whether the output's boundary FIFO ran empty (R219, R43). -/
  | outputFrameEnd (t : Nat) (out : Fin 19) (underrun : Bool)
  /-- GATE_ENTRY_CHANGE on a port (R221). -/
  | gateEntryChange (t : Nat) (port : Fin 12)
  /-- CONFIG_CHANGE_TIME: the port's CT (R221). -/
  | configChangeTime (t : Nat) (port : Fin 12)
  /-- RECOVERY_RESET_TIMER of a recovery function (R216). -/
  | recoveryResetTimer (t : Nat) (fn : Fin 512)
  /-- SW_MIRROR_N_WRITE: the word written to SW_MIRROR_N[s] (R224). -/
  | swMirrorNWrite (t : Nat) (session : Fin 8) (data : BitVec 32)
  /-- OCTET_COUNTER_LO_READ: a read at the LO offset of a 64-bit counter, of 8 or 4 bytes, speculative or not (R207). -/
  | octetCounterLoRead (t : Nat) (addr : Nat) (wide : Bool) (speculative : Bool)
  /-- ETH_GCL_WRITE: command 0x1400 (R221). -/
  | ethGclWrite (t : Nat) (c : Call) (p : Bytes)
  /-- ETH_GCL_READ: command 0x1401 (R226). -/
  | ethGclRead (t : Nat) (c : Call) (p : Bytes)
  /-- SW_TABLE_WRITE: command 0x1420 (R218). -/
  | swTableWrite (t : Nat) (c : Call) (p : Bytes)
  /-- SW_TABLE_READ: command 0x1421 (R226). -/
  | swTableRead (t : Nat) (c : Call) (p : Bytes)
  /-- LEARN_ENGINE_OPERATION: the insertion engine takes its next queued request (R233). -/
  | learnEngineOperation (t : Nat)
  /-- AGEING_SWEEP: once per second (R239). -/
  | ageingSweep (t : Nat)
  /-- QUARANTINE_EXPIRED of a switch port (R240). -/
  | quarantineExpired (t : Nat) (port : Fin 19)
  /-- FT_PORT_QUAR_RELEASE: 1 written to FT_PORT_QUAR[p].release (R240). -/
  | ftPortQuarRelease (t : Nat) (port : Fin 19)
  /-- FT_LOCK_WRITE: the word written to FT_LOCK (R251). -/
  | ftLockWrite (t : Nat) (data : BitVec 32)
  /-- LOCK_HELD: the learning engine has finished the operation in progress (R251). -/
  | lockHeld (t : Nat)
  /-- LOCK_EXPIRED of a table's lock (R251). -/
  | lockExpired (t : Nat) (table : Fin 32)
  /-- FT_DMA_TAIL_WRITE (R249). -/
  | ftDmaTailWrite (t : Nat) (tail : Fin 4096)
  /-- FT_DMA_CTRL_WRITE: the en bit written (R249). -/
  | ftDmaCtrlWrite (t : Nat) (en : Bool)
  /-- DMA_DESCRIPTOR_COMPLETE: the descriptor at the head as host memory holds it, and for op 1 the data at its address
  (R250). -/
  | dmaDescriptorComplete (t : Nat) (desc : Bytes) (data : Bytes)
  /-- LPM_NODE_FREE: 2 µs after a delete (R245). -/
  | lpmNodeFree (t : Nat)
  /-- FT_TABLE_WRITE: command 0x1001 (R255). -/
  | ftTableWrite (t : Nat) (c : Call) (p : Bytes)
  /-- FT_TABLE_READ: command 0x1002 (R255). -/
  | ftTableRead (t : Nat) (c : Call) (p : Bytes)
  /-- FT_L2_ADD: command 0x1010 (R255). -/
  | ftL2Add (t : Nat) (c : Call) (p : Bytes)
  /-- FT_L2_DEL: command 0x1011 (R255). -/
  | ftL2Del (t : Nat) (c : Call) (p : Bytes)
  /-- FT_L2_FIND: command 0x1012 (R255). -/
  | ftL2Find (t : Nat) (c : Call) (p : Bytes)
  /-- FT_L2_FLUSH: command 0x1013 (R255). -/
  | ftL2Flush (t : Nat) (c : Call) (p : Bytes)
  /-- FT_LPM_ADD: command 0x1020 (R248). -/
  | ftLpmAdd (t : Nat) (c : Call) (p : Bytes)
  /-- FT_LPM_DEL: command 0x1021 (R245). -/
  | ftLpmDel (t : Nat) (c : Call) (p : Bytes)
  /-- FT_LPM_FIND: command 0x1022 (R255). -/
  | ftLpmFind (t : Nat) (c : Call) (p : Bytes)
  /-- FRAME_READY: the next frame of an input is ready, or a frame still being received on an Ethernet input (R259). -/
  | frameReady (t : Nat) (input : Fin 19) (early : Option EarlyFrame)
  /-- PARSE_DISPATCH: a free engine takes the next frame (R259). Here and below `mem` is what the engine's memory shows:
  0 nothing wrong, 1 a corrected error, 2, 3 and 4 an uncorrectable error in an instruction word, a table word or engine
  state (R276). -/
  | parseDispatch (t : Nat) (e : Fin 24) (mem : Fin 5)
  /-- NOP on an engine (R266). -/
  | nop (e : Fin 24) (mem : Fin 5)
  /-- ADD: g[d] = g[a] + g[b]. -/
  | add (e : Fin 24) (mem : Fin 5) (d : Fin 16) (a : Fin 16) (b : Fin 16)
  /-- SUB: g[d] = g[a] − g[b]. -/
  | sub (e : Fin 24) (mem : Fin 5) (d : Fin 16) (a : Fin 16) (b : Fin 16)
  /-- AND: g[d] = g[a] AND g[b]. -/
  | and (e : Fin 24) (mem : Fin 5) (d : Fin 16) (a : Fin 16) (b : Fin 16)
  /-- OR: g[d] = g[a] OR g[b]. -/
  | or (e : Fin 24) (mem : Fin 5) (d : Fin 16) (a : Fin 16) (b : Fin 16)
  /-- XOR: g[d] = g[a] XOR g[b]. -/
  | xor (e : Fin 24) (mem : Fin 5) (d : Fin 16) (a : Fin 16) (b : Fin 16)
  /-- SHL: g[d] = g[a] << g[b][4:0]. -/
  | shl (e : Fin 24) (mem : Fin 5) (d : Fin 16) (a : Fin 16) (b : Fin 16)
  /-- SHR: g[d] = g[a] >> g[b][4:0]. -/
  | shr (e : Fin 24) (mem : Fin 5) (d : Fin 16) (a : Fin 16) (b : Fin 16)
  /-- ADDI: g[d] = g[a] + sign-extended imm18. -/
  | addi (e : Fin 24) (mem : Fin 5) (d : Fin 16) (a : Fin 16) (imm : BitVec 18)
  /-- ANDI: g[d] = g[a] AND imm18. -/
  | andi (e : Fin 24) (mem : Fin 5) (d : Fin 16) (a : Fin 16) (imm : BitVec 18)
  /-- ORI: g[d] = g[a] OR imm18. -/
  | ori (e : Fin 24) (mem : Fin 5) (d : Fin 16) (a : Fin 16) (imm : BitVec 18)
  /-- XORI: g[d] = g[a] XOR imm18. -/
  | xori (e : Fin 24) (mem : Fin 5) (d : Fin 16) (a : Fin 16) (imm : BitVec 18)
  /-- MOVI: g[d] = imm18. -/
  | movi (e : Fin 24) (mem : Fin 5) (d : Fin 16) (imm : BitVec 18)
  /-- MOVHI: g[d] = imm[15:0] over the low half of g[a]. -/
  | movhi (e : Fin 24) (mem : Fin 5) (d : Fin 16) (a : Fin 16) (imm : BitVec 16)
  /-- SHLI: g[d] = g[a] << pos. -/
  | shli (e : Fin 24) (mem : Fin 5) (d : Fin 16) (a : Fin 16) (pos : Fin 32)
  /-- SHRI: g[d] = g[a] >> pos. -/
  | shri (e : Fin 24) (mem : Fin 5) (d : Fin 16) (a : Fin 16) (pos : Fin 32)
  /-- EXT: `len1` is len − 1. -/
  | ext (e : Fin 24) (mem : Fin 5) (d : Fin 16) (a : Fin 16) (pos : Fin 32) (len1 : Fin 32)
  /-- INS. -/
  | ins (e : Fin 24) (mem : Fin 5) (d : Fin 16) (a : Fin 16) (pos : Fin 32) (len1 : Fin 32)
  /-- LDW: size 0 byte, 1 half, 2 word. -/
  | ldw (e : Fin 24) (mem : Fin 5) (d : Fin 16) (a : Fin 16) (size : Fin 3) (off : Fin 1024)
  /-- SETC: c = g[a] + off. -/
  | setc (e : Fin 24) (mem : Fin 5) (a : Fin 16) (off : Fin 1024)
  /-- ADVC: c = c + g[a] + off. -/
  | advc (e : Fin 24) (mem : Fin 5) (a : Fin 16) (off : Fin 1024)
  /-- GETC: g[d] = c. -/
  | getc (e : Fin 24) (mem : Fin 5) (d : Fin 16)
  /-- LDM: g[d] = m[m]. -/
  | ldm (e : Fin 24) (mem : Fin 5) (d : Fin 16) (m : Fin 16)
  /-- EMIT: m[m] = g[a]. -/
  | emit (e : Fin 24) (mem : Fin 5) (m : Fin 16) (a : Fin 16)
  /-- EMITF: a field of m[m] takes len bits of g[a]. -/
  | emitf (e : Fin 24) (mem : Fin 5) (m : Fin 16) (a : Fin 16) (pos : Fin 32) (len1 : Fin 32)
  /-- LKT: g[d] = word g[a] of table tbl (R264). -/
  | lkt (e : Fin 24) (mem : Fin 5) (d : Fin 16) (a : Fin 16) (tbl : Fin 16)
  /-- BEQ: Branch if g[a] = g[b]. -/
  | beq (e : Fin 24) (mem : Fin 5) (a : Fin 16) (b : Fin 16) (target : Fin 16384)
  /-- BNE: Branch if g[a] ≠ g[b]. -/
  | bne (e : Fin 24) (mem : Fin 5) (a : Fin 16) (b : Fin 16) (target : Fin 16384)
  /-- BLTU: Branch if g[a] < g[b]. -/
  | bltu (e : Fin 24) (mem : Fin 5) (a : Fin 16) (b : Fin 16) (target : Fin 16384)
  /-- BGEU: Branch if g[a] ≥ g[b]. -/
  | bgeu (e : Fin 24) (mem : Fin 5) (a : Fin 16) (b : Fin 16) (target : Fin 16384)
  /-- BEQI: Branch if g[a] = imm8. -/
  | beqi (e : Fin 24) (mem : Fin 5) (a : Fin 16) (imm : Fin 256) (target : Fin 16384)
  /-- BNEI: Branch if g[a] ≠ imm8. -/
  | bnei (e : Fin 24) (mem : Fin 5) (a : Fin 16) (imm : Fin 256) (target : Fin 16384)
  /-- BBS: Branch if the bit of g[a] is 1. -/
  | bbs (e : Fin 24) (mem : Fin 5) (a : Fin 16) (bit : Fin 32) (target : Fin 16384)
  /-- BBC: Branch if the bit of g[a] is 0. -/
  | bbc (e : Fin 24) (mem : Fin 5) (a : Fin 16) (bit : Fin 32) (target : Fin 16384)
  /-- JMP: branch always. -/
  | jmp (e : Fin 24) (mem : Fin 5) (target : Fin 16384)
  /-- END: the pass ends, its metadata the result (R267). -/
  | end_ (e : Fin 24) (mem : Fin 5)
  /-- DROP: the pass ends, the frame discarded with a code (R267). -/
  | drop (e : Fin 24) (mem : Fin 5) (code : Fin 256)
  /-- RCIRC: the pass ends, the frame sent round with g[a] + off bytes removed (R270). -/
  | rcirc (e : Fin 24) (mem : Fin 5) (a : Fin 16) (off : Fin 1024)
  /-- PE_DBG_HALT: a halt request for the engine of PE_DBG_SEL (R275). -/
  | peDbgHalt (t : Nat)
  /-- PE_DBG_RESUME of the engine of PE_DBG_SEL (R275). -/
  | peDbgResume (t : Nat)
  /-- PE_DBG_STEP of the engine of PE_DBG_SEL (R275). -/
  | peDbgStep (t : Nat) (mem : Fin 5)
  /-- PE_LOAD_OPEN: command 0x1500 (R278). -/
  | peLoadOpen (t : Nat) (c : Call) (p : Bytes)
  /-- PE_LOAD_CHUNK: command 0x1501 (R278). -/
  | peLoadChunk (t : Nat) (c : Call) (p : Bytes)
  /-- PE_LOAD_CLOSE: command 0x1502 (R272). -/
  | peLoadClose (t : Nat) (c : Call) (p : Bytes)
  /-- PE_BANK_SWITCH: command 0x1503 (R273). -/
  | peBankSwitch (t : Nat) (c : Call) (p : Bytes)
  /-- BANK_DRAINED: the last frame of a draining bank has left (R273). -/
  | bankDrained (t : Nat) (bank : Fin 2)
  /-- CLASSIFICATION_DECISION: the next decision of an input (R260, R283); the memory errors its lookups find in the
  forwarding tables (R253), and, for a frame it gives to the gateway, in the gateway's memory (R144). -/
  | classificationDecision (t : Nat) (input : Fin 19) (errors : List MemErr)
  /-- CL_TURN_OPEN: command 0x1600 (R287). -/
  | clTurnOpen (t : Nat) (c : Call) (p : Bytes)
  /-- CL_RULE_ADD: command 0x1601 (R295). -/
  | clRuleAdd (t : Nat) (c : Call) (p : Bytes)
  /-- CL_RULE_DEL: command 0x1602 (R287). -/
  | clRuleDel (t : Nat) (c : Call) (p : Bytes)
  /-- CL_TURN_COMMIT: command 0x1603 (R288). -/
  | clTurnCommit (t : Nat) (c : Call) (p : Bytes)
  /-- COMMIT_INSTANT of an accepted commit that does not stall (R288). -/
  | commitInstant (t : Nat)
  /-- DRAIN_TIMEOUT of a pending commit (R289). -/
  | drainTimeout (t : Nat)
  /-- CL_TURN_ABORT: command 0x1604 (R287). -/
  | clTurnAbort (t : Nat) (c : Call) (p : Bytes)
  /-- CL_RULE_READ: command 0x1605 (R294). -/
  | clRuleRead (t : Nat) (c : Call) (p : Bytes)
  /-- CL_MISS_ACT_WRITE: the word written to CL_MISS_ACT_LO or CL_MISS_ACT_HI (R287). -/
  | clMissActWrite (t : Nat) (high : Bool) (data : BitVec 32)
  /-- TERNARY_SCRUB: the scrub finds a parity error in an entry; whether its copy is uncorrectable (R292). -/
  | ternaryScrub (t : Nat) (entry : Fin 8192) (uncorrectable : Bool)
  /-- CK_CH_WRITE: command 0x3040 (R309). -/
  | ckChWrite (t : Nat) (c : Call) (p : Bytes)
  /-- CK_CH_READ: command 0x3041 (R311). -/
  | ckChRead (t : Nat) (c : Call) (p : Bytes)
  /-- CK_CH_RESYNC: command 0x3042 (R307). -/
  | ckChResync (t : Nat) (c : Call) (p : Bytes)
  /-- CIPHER_TAG_VERIFIED: the tag or padding of the held request of this number has been compared: for a host request, the AAD and
  the data that host memory holds from its source address on (R318); the errors its hold buffer met (R325, R340). -/
  | cipherTagVerified (t : Nat) (request : Nat) (aad : Bytes) (data : Bytes) (hold : List HoldErr)
  /-- STREAMING_CHUNK_RELEASE: a streaming request releases its next chunk; the data host memory holds behind its AAD (R327). -/
  | streamingChunkRelease (t : Nat) (request : Nat) (data : Bytes)
  /-- CX_KEY_LOAD: command 0x4001 (R320). -/
  | cxKeyLoad (t : Nat) (c : Call) (p : Bytes)
  /-- CX_KEY_ERASE: command 0x4002 (R321). -/
  | cxKeyErase (t : Nat) (c : Call) (p : Bytes)
  /-- CX_KEY_INFO: command 0x4003 (R342). -/
  | cxKeyInfo (t : Nat) (c : Call) (p : Bytes)
  /-- CX_REQUEST: command 0x4010 (R318). -/
  | cxRequest (t : Nat) (c : Call) (p : Bytes)
  /-- CX_VOID_REG: command 0x4011 (R326). -/
  | cxVoidReg (t : Nat) (c : Call) (p : Bytes)
  /-- CX_VOID_UNREG: command 0x4012 (R342). -/
  | cxVoidUnreg (t : Nat) (c : Call) (p : Bytes)
  /-- CX_SECPDU_WRITE: command 0x4020 (R334). -/
  | cxSecpduWrite (t : Nat) (c : Call) (p : Bytes)
  /-- CX_FV_READ: command 0x4021 (R342). -/
  | cxFvRead (t : Nat) (c : Call) (p : Bytes)
  /-- CX_FV_SET: command 0x4022 (R338). -/
  | cxFvSet (t : Nat) (c : Call) (p : Bytes)
  /-- CX_PROFILE_WRITE: command 0x4030 (R329). -/
  | cxProfileWrite (t : Nat) (c : Call) (p : Bytes)
  /-- MACSEC_PORT_CFG: command 0x4040 (R342). -/
  | macsecPortCfg (t : Nat) (c : Call) (p : Bytes)
  /-- MACSEC_SA_INSTALL: command 0x4041 (R342). -/
  | macsecSaInstall (t : Nat) (c : Call) (p : Bytes)
  /-- MACSEC_SA_CTRL: command 0x4042 (R332). -/
  | macsecSaCtrl (t : Nat) (c : Call) (p : Bytes)
  /-- TL_LINK_UP: block lock and hellos have held for 1 ms on a link (R345). -/
  | tlLinkUp (t : Nat) (link : Fin 4)
  /-- TL_LINK_DOWN: the loss instant, with its cause (Table 14.12: 0 block lock, 1 errors, 2 hello timeout, 3 disabled)
  (R345, R346). -/
  | tlLinkDown (t : Nat) (link : Fin 4) (cause : Fin 4)
  /-- PROTECTION_APPLIED for a lost link (R365). -/
  | protectionApplied (t : Nat) (link : Fin 4)
  /-- DESTINATION_UNREACHABLE_TIMEOUT: a destination has been unreachable for TF_LINK_TO ms (R365). -/
  | destinationUnreachableTimeout (t : Nat) (device : Fin 64)
  /-- FABRIC_FRAME_RECEIVED: a frame arrives on a link; whether its CRC is good; what seals it where the link
  encrypts (R333, R347, R348, R351). -/
  | fabricFrameReceived (t : Nat) (link : Fin 4) (f : FabFrame) (crcOk : Bool) (mac : LinkSeal)
  /-- HELLO_TIMER on a trained link (R357). -/
  | helloTimer (t : Nat) (link : Fin 4)
  /-- HELLO_RECEIVED (R357, R362). -/
  | helloReceived (t : Nat) (link : Fin 4) (h : Hello)
  /-- DEVICE_RECORD_TIMER (R357). -/
  | deviceRecordTimer (t : Nat)
  /-- DEVICE_RECORD_RECEIVED (R357). -/
  | deviceRecordReceived (t : Nat) (r : DevRecord)
  /-- DEVICE_RECORD_EXPIRED: a UID's record has not been refreshed for 300 ms (R357). -/
  | deviceRecordExpired (t : Nat) (uid : Nat)
  /-- ELECTION_SETTLED: the database has been unchanged for 10 ms (R358, R359, R362, R363). -/
  | electionSettled (t : Nat)
  /-- ID_ASSIGN: control message 0x01 (R360, R361). -/
  | idAssign (t : Nat) (uid : Nat) (id : Fin 64) (status : Nat)
  /-- ROUTE_UPDATE: control message 0x02: generation, flood mask, the 63 entries as 64-bit numbers (w0 low), the 63 UIDs
  (R363). -/
  | routeUpdate (t : Nat) (generation : Nat) (flood : Fin 16) (entries : List Nat) (uids : List Nat)
  /-- ROUTE_ACTIVATE: control message 0x03 (R363). -/
  | routeActivate (t : Nat) (generation : Nat)
  /-- ACKNOWLEDGE: control message 0x04 from a device (R363). -/
  | acknowledge (t : Nat) (device : Fin 64) (code : Nat) (generation : Nat) (status : Nat)
  /-- SLEEVE_CLOSE: a closing condition of a pair (0 A, 1 B) that no other command brings about; the cause of Table 14.12
  (R353). -/
  | sleeveClose (t : Nat) (pair : Fin 2) (cause : Fin 3)
  /-- SLEEVE_OPEN: each link of the pair has held lock for 1 ms or seen no signal for 10 ms (R354). -/
  | sleeveOpen (t : Nat) (pair : Fin 2)
  /-- LINK_KEY_OFFER: the peer's offer on a link: its nonce, its key index, and whether the peer refuses ours (R351). -/
  | linkKeyOffer (t : Nat) (link : Fin 4) (nonce : Bytes) (index : Fin 2) (refused : Bool)
  /-- LINK_REKEY_TIMER: TF_REKEY_S seconds have passed, or the frame counter has reached 2^48 (R351). -/
  | linkRekeyTimer (t : Nat) (link : Fin 4)
  /-- RRA_REQUEST from a device (R368). -/
  | rraRequest (t : Nat) (device : Fin 64) (r : Rra)
  /-- RRA_RESPONSE from a device; its width field counts the tags acknowledged (R369, R373). -/
  | rraResponse (t : Nat) (device : Fin 64) (r : Rra)
  /-- POSTED_WRITE_TIMEOUT: no response to a posted write within TF_ACK_TO (R369). -/
  | postedWriteTimeout (t : Nat) (init : Fin 4) (target : Fin 64) (tag : Fin 65536)
  /-- NP_TIMEOUT: no completion of a non-posted request within TF_NP_TO (R373). -/
  | npTimeout (t : Nat) (init : Fin 4) (target : Fin 64) (tag : Fin 65536)
  /-- LOCK_RELEASE_TIMEOUT: 10 µs after locking (R374). -/
  | lockReleaseTimeout (t : Nat)
  /-- TF_TOPO_READ: command 0x5001 (R376). -/
  | tfTopoRead (t : Nat) (c : Call) (p : Bytes)
  /-- TF_ID_RELEASE: command 0x5002 (R359). -/
  | tfIdRelease (t : Nat) (c : Call) (p : Bytes)
  /-- TF_ROUTE_READ: command 0x5003 (R363). -/
  | tfRouteRead (t : Nat) (c : Call) (p : Bytes)
  /-- TF_FENCE: command 0x5010 (R372). -/
  | tfFence (t : Nat) (c : Call) (p : Bytes)
  /-- TF_RRA: command 0x5011 (R376). -/
  | tfRra (t : Nat) (c : Call) (p : Bytes)
  /-- TF_REKEY: command 0x5020 (R351). -/
  | tfRekey (t : Nat) (c : Call) (p : Bytes)
  /-- HOST_BRIDGE_RESET: PERST_N, a hot reset, a link-down or a Function Level Reset, numbered as event 0x0002 numbers them
  (R379). -/
  | hostBridgeReset (t : Nat) (cause : Fin 4)
  /-- PCIE_LINK_UP: the lanes and the speed code (R378). -/
  | pcieLinkUp (t : Nat) (width : Fin 8) (speed : Fin 8)
  /-- WINDOW_READ: a TLP that reads `len` contiguous bytes at an aperture offset of a window (R381–R387). -/
  | windowRead (r : MmAt) (window : Fin 16) (offset : Nat) (len : Nat)
  /-- WINDOW_WRITE: a TLP that writes contiguous bytes at an aperture offset of a window (R382). -/
  | windowWrite (t : Nat) (window : Fin 16) (offset : Nat) (data : Bytes)
  /-- ATOMIC_OP through a window, or through BAR0 where there is none: offset, operation (0 FetchAdd, 1 Swap, 2 CAS), operand
  and compare value in TLP byte order (R390). -/
  | atomicOp (t : Nat) (window : Option (Fin 16)) (offset : Nat) (op : Fin 3) (operand compare : Bytes)
  /-- DEFERRED_RESULT_ARRIVAL: the response to a deferred read (R387). -/
  | deferredResultArrival (t : Nat) (device : Fin 64) (r : Rra)
  /-- HELD_READ_EXPIRED: a held result 50 ms old (R387). -/
  | heldReadExpired (t : Nat) (id : Nat)
  /-- HB_RING_TAIL_WRITE: the new tail of a host ring, and what host memory holds of the descriptors this provides (R391). -/
  | hbRingTailWrite (t : Nat) (ring : Fin 8) (tail : Nat) (descs : List HostDesc)
  /-- HB_RING_SIZE_WRITE (R395). -/
  | hbRingSizeWrite (t : Nat) (ring : Fin 8) (data : BitVec 32)
  /-- SPI_REGISTER_WRITE: SPI opcode 0x02: address and data bytes (R393). -/
  | spiRegisterWrite (t : Nat) (addr : BitVec 32) (data : Bytes)
  /-- SPI_REGISTER_READ: SPI opcode 0x0B: address and how many data words are clocked out (R393). -/
  | spiRegisterRead (r : MmAt) (addr : BitVec 32) (words : Nat)
  /-- SPI_STATUS: SPI opcode 0x05 (R393). -/
  | spiStatus (t : Nat)
  /-- SPI_COMMAND_WRITE: the bytes of an SPI 0x30 transaction after its opcode (R405). -/
  | spiCommandWrite (t : Nat) (data : Bytes)
  /-- SPI_REPLY_READ: an SPI 0x31 transaction that clocks this many bytes after the wait bytes and 0xA5 (R405). -/
  | spiReplyRead (t : Nat) (clocked : Nat)
  /-- SPI_COMMAND_STATUS: SPI opcode 0x32 (R405). -/
  | spiCommandStatus (t : Nat)
  /-- CMD_QP_SQ_TAIL_WRITE: the new tail of a submission ring, and what host memory holds of the entries this provides
  (R403). -/
  | cmdQpSqTailWrite (t : Nat) (q : Fin 4) (tail : Fin 256) (subs : List Submission)
  /-- CMD_QP_CQ_HEAD_WRITE (R403). -/
  | cmdQpCqHeadWrite (t : Nat) (q : Fin 4) (head : Fin 256)
  /-- CMD_QP_CTRL_WRITE (R403). -/
  | cmdQpCtrlWrite (t : Nat) (q : Fin 4) (en : Bool)
  /-- CMD_EVR_CFG_WRITE (R417). -/
  | cmdEvrCfgWrite (t : Nat) (r : Fin 2) (data : BitVec 32)
  /-- INBAND_COMMAND_FRAME: an error-free frame that meets R406, from its destination address to its last data byte
  (R406–R408). -/
  | inbandCommandFrame (t : Nat) (port : Fin 12) (frame : Bytes)
  /-- FORWARDED_COMMAND: a command packet in a type-7 frame from a device (R409). -/
  | forwardedCommand (t : Nat) (device : Fin 64) (packet : Bytes)
  /-- FORWARDED_REPLY: a reply packet in a type-7 frame from a device (R409). -/
  | forwardedReply (t : Nat) (device : Fin 64) (packet : Bytes)
  /-- FORWARD_TIMEOUT: CMD_FWD_TO, or TF_LINK_TO of an unreachable target, has passed for the command of this tag forwarded to
  a device (R409). -/
  | forwardTimeout (t : Nat) (device : Fin 64) (tag : Nat)
  /-- SYS_INFO: command 0x0001 (R413). -/
  | sysInfo (t : Nat) (c : Call) (p : Bytes)
  /-- SYS_ECHO: command 0x0002 (R413). -/
  | sysEcho (t : Nat) (c : Call) (p : Bytes)
  /-- SYS_NONCE: command 0x0003 (R411). -/
  | sysNonce (t : Nat) (c : Call) (p : Bytes)
  /-- SYS_SHUTDOWN: command 0x0004 (R413). -/
  | sysShutdown (t : Nat) (c : Call) (p : Bytes)
  /-- SYS_RESTART: command 0x0005 (R413). -/
  | sysRestart (t : Nat) (c : Call) (p : Bytes)
  /-- SYS_EVENT_READ: command 0x0006 (R413). -/
  | sysEventRead (t : Nat) (c : Call) (p : Bytes)
  /-- SYS_EVENT_PUSH: command 0x0020 (R418). -/
  | sysEventPush (t : Nat) (c : Call) (p : Bytes)
  /-- DOMINANT_TIMEOUT: TXD has been dominant for 4 ms, or has returned recessive after that (R422). -/
  | dominantTimeout (t : Nat) (ch : Fin 32) (recessive : Bool)
  /-- BUS_WAKE_PATTERN: the second dominant phase reaches 1.0 µs (R426). -/
  | busWakePattern (t : Nat) (ch : Fin 32)
  /-- SWK_DECODED_FRAME (R427, R428). -/
  | swkDecodedFrame (t : Nat) (ch : Fin 32) (f : SwkFrame)
  /-- WAKE_PIN: a new level has held for 50 µs (R429). -/
  | wakePin (t : Nat) (pin : Fin 4) (level : Bool)
  /-- PCIE_WAKE: 0 link activity, 1 PERST_N falls, 2 PERST_N rises (R429). -/
  | pcieWake (t : Nat) (kind : Fin 3)
  /-- ETHERNET_SIGNAL_WAKE (R429). -/
  | ethernetSignalWake (t : Nat) (port : Fin 12)
  /-- TYETH_SIGNAL_WAKE (R429). -/
  | tyethSignalWake (t : Nat) (link : Fin 4)
  /-- DEBUG_TCK_WAKE (R429). -/
  | debugTckWake (t : Nat)
  /-- NM_TIMEOUT of a node in a group (R431). -/
  | nmTimeout (t : Nat) (group : Fin 16) (node : Fin 256)
  /-- NM_PERIOD of a group (R433). -/
  | nmPeriod (t : Nat) (group : Fin 16)
  /-- WAKE_HOLD_EXPIRED (R432). -/
  | wakeHoldExpired (t : Nat) (group : Fin 16)
  /-- SLEEP_COMMIT: the prepare timer expires (R434). -/
  | sleepCommit (t : Nat) (group : Fin 16)
  /-- KEEP_AWAKE_OFFENDER: the watched node has been watched for keep_awake_ms (R437). -/
  | keepAwakeOffender (t : Nat) (group : Fin 16)
  /-- PWR_GRP_REQUEST: command 0x6001 (R432). -/
  | pwrGrpRequest (t : Nat) (c : Call) (p : Bytes)
  /-- PWR_GRP_STATE: command 0x6002 (R447). -/
  | pwrGrpState (t : Nat) (c : Call) (p : Bytes)
  /-- PWR_NODES_READ: command 0x6003 (R447). -/
  | pwrNodesRead (t : Nat) (c : Call) (p : Bytes)
  /-- PWR_SCHED_WRITE: command 0x6010 (R440). -/
  | pwrSchedWrite (t : Nat) (c : Call) (p : Bytes)
  /-- PWR_SCHED_READ: command 0x6011 (R447). -/
  | pwrSchedRead (t : Nat) (c : Call) (p : Bytes)
  /-- IDLE_ENTRY: idle_us have passed without work (R438). -/
  | idleEntry (t : Nat)
  /-- LOW_POWER_CHOICE (R440, R442). -/
  | lowPowerChoice (t : Nat)
  /-- SWITCH_OFF (R442). -/
  | switchOff (t : Nat)
  /-- SCHEDULE_WAKE of a schedule entry (R441). -/
  | scheduleWake (t : Nat) (index : Fin 16)
  /-- SCHEDULE_HOLD_END of a schedule entry (R441). -/
  | scheduleHoldEnd (t : Nat) (index : Fin 16)
  /-- RETURN_TO_RUN: the device reaches Run; from Standby and Hibernate the start it returns by meets these inputs (R443). -/
  | returnToRun (t : Nat) (inputs : StartInputs)
  /-- DEVICE_START (R449). -/
  | deviceStart (t : Nat) (inputs : StartInputs)
  /-- START_STEP_TIMEOUT: the step that hangs has run for four times its budget, step 1 for 10 ms (R450). -/
  | startStepTimeout (t : Nat)
  /-- START_RETRY: the next start after a failure (R451). -/
  | startRetry (t : Nat) (inputs : StartInputs)
  /-- SLOT_ERASE_COMPLETE: background erasure of a slot (0, 1 firmware A, B; 2, 3 table A, B) has reached this offset (R460). -/
  | slotEraseComplete (t : Nat) (slot : Fin 4) (offset : Nat)
  /-- UPD_OPEN: command 0x7001 (R459). -/
  | updOpen (t : Nat) (c : Call) (p : Bytes)
  /-- UPD_WRITE: command 0x7002 (R460). -/
  | updWrite (t : Nat) (c : Call) (p : Bytes)
  /-- UPD_CLOSE: command 0x7003 (R461). -/
  | updClose (t : Nat) (c : Call) (p : Bytes)
  /-- UPD_PREPARE: command 0x7004 (R463). -/
  | updPrepare (t : Nat) (c : Call) (p : Bytes)
  /-- UPD_ACTIVATE: command 0x7005 (R464). -/
  | updActivate (t : Nat) (c : Call) (p : Bytes)
  /-- UPD_ABORT: command 0x7006 (R463). -/
  | updAbort (t : Nat) (c : Call) (p : Bytes)
  /-- UPD_CONFIRM: command 0x7007 (R465). -/
  | updConfirm (t : Nat) (c : Call) (p : Bytes)
  /-- UPD_REVERT: command 0x7008 (R465). -/
  | updRevert (t : Nat) (c : Call) (p : Bytes)
  /-- UPD_STATUS: command 0x7009 (R472). -/
  | updStatus (t : Nat) (c : Call) (p : Bytes)
  /-- UPD_FAB_BEGIN: command 0x7010 (R467). -/
  | updFabBegin (t : Nat) (c : Call) (p : Bytes)
  /-- UPD_FAB_MSG: command 0x7011 (R467). -/
  | updFabMsg (t : Nat) (c : Call) (p : Bytes)
  /-- FAB_COMMIT_TIMEOUT (R467). -/
  | fabCommitTimeout (t : Nat)
  /-- FAB_QUERY_TIMER (R467). -/
  | fabQueryTimer (t : Nat)
  /-- COMMIT_AT_RESTART (R467). -/
  | commitAtRestart (t : Nat)
  /-- BT_ALT_CLEAR: command 0x7020 (R453). -/
  | btAltClear (t : Nat) (c : Call) (p : Bytes)
  /-- BT_ALT_WRITE: the word written to BT_ALT (R453). -/
  | btAltWrite (t : Nat) (data : BitVec 32)
  /-- SETTINGS_SAVE: command 0x7030 (R468). -/
  | settingsSave (t : Nat) (c : Call) (p : Bytes)
  /-- SETTINGS_INFO: command 0x7031 (R472). -/
  | settingsInfo (t : Nat) (c : Call) (p : Bytes)
  /-- EXTEST: what the pins show and what is shifted into the boundary scan register (R478). -/
  | extest (t : Nat) (pins bits : Nat)
  /-- SAMPLE_PRELOAD (R478). -/
  | samplePreload (t : Nat) (pins bits : Nat)
  /-- IDCODE (R478). -/
  | idcode (t : Nat)
  /-- DBG_ACCESS: one scan of its data register (R479). -/
  | dbgAccess (t : Nat) (dr : BitVec 104)
  /-- DBG_LEVEL: one scan of its data register (R478). -/
  | dbgLevel (t : Nat) (dr : BitVec 8)
  /-- UNLOCK_CHAL: a capture of the challenge (R483). -/
  | unlockChal (t : Nat)
  /-- UNLOCK_RESP: the 112 bytes of a response (R483, R484). -/
  | unlockResp (t : Nat) (r : Bytes)
  /-- BYPASS: this many bits pass (R478). -/
  | bypass (t : Nat) (bits len : Nat)
  /-- TAP_RESET (R478). -/
  | tapReset (t : Nat)
  /-- DEBUG_SESSION_EXPIRED (R485). -/
  | debugSessionExpired (t : Nat)
  /-- CPDBG_HALT: a write of 1 to CPDBG_CTRL.halt of CP0, CP1 or the SP by the debug port (R481). -/
  | cpdbgHalt (t : Nat) (p : Fin 3)
  /-- CPDBG_RESUME (R481). -/
  | cpdbgResume (t : Nat) (p : Fin 3)
  /-- CPDBG_STEP (R481). -/
  | cpdbgStep (t : Nat) (p : Fin 3)
  /-- CPDBG_MDATA_ACCESS: a read, or a write of a word (R481). -/
  | cpdbgMdataAccess (t : Nat) (p : Fin 3) (write : Option (BitVec 32))
  /-- ALARM: 0 voltage, 1 clock, 2 temperature, 3 die-shield, 4 package-mesh; its condition appears or goes (R488). -/
  | alarm (t : Nat) (kind : Fin 5) (present : Bool)
  /-- ALARM_RESET: 1 ms after a voltage or clock alarm (R488). -/
  | alarmReset (t : Nat)
  /-- LC_INFO: command 0x4050 (R491). -/
  | lcInfo (t : Nat) (c : Call) (p : Bytes)
  /-- LC_ADVANCE: command 0x4051 (R475). -/
  | lcAdvance (t : Nat) (c : Call) (p : Bytes)
  /-- LC_RETURN: command 0x4052 (R475). -/
  | lcReturn (t : Nat) (c : Call) (p : Bytes)
  /-- LC_SCRAP: command 0x4053 (R475). -/
  | lcScrap (t : Nat) (c : Call) (p : Bytes)
  /-- LC_RELOCK: command 0x4054 (R485). -/
  | lcRelock (t : Nat) (c : Call) (p : Bytes)
  /-- LC_VKEY_WRITE: command 0x4055 (R491). -/
  | lcVkeyWrite (t : Nat) (c : Call) (p : Bytes)
  /-- LC_VKEY_REVOKE: command 0x4056 (R491). -/
  | lcVkeyRevoke (t : Nat) (c : Call) (p : Bytes)
  /-- LC_TAMPER_CLEAR: command 0x4057 (R489). -/
  | lcTamperClear (t : Nat) (c : Call) (p : Bytes)
  /-- SUPPLY_MONITOR_CROSSING: 0 VDD_CORE, 1 VDD_SDS08, 2 VDD_SDS12 falls below, or rises past, its threshold (R499). -/
  | supplyMonitorCrossing (t : Nat) (rail : Fin 3) (below : Bool)
  /-- WAKE_DIE_RESET: VBAT falls below 3.5 V, or rises past 3.9 V (R499). -/
  | wakeDieReset (t : Nat) (below : Bool)
  /-- RESET_N: low for 1 µs, or rising (R500). -/
  | resetN (t : Nat) (low : Bool)
  /-- READ_DEFERRED: HB_RD_WAIT expires for the read (or, R390, the AtomicOp) held under this number (R386). -/
  | readDeferred (t : Nat) (id : Nat)
  /-- CIPHER_REQUEST_COMPLETED: a request without tag verification finishes; the AAD and the data that host memory holds from
  its source address on (R318). -/
  | cipherRequestCompleted (t : Nat) (request : Nat) (aad : Bytes) (data : Bytes)
  deriving DecidableEq, Repr

end Sys2Proof
end

