-- ==== Sys2Proof/Decode.lean ====
section
/-! DEFINITION. What a word of the opcode table's bits spells. -/

namespace Sys2Proof

/-- No row of the table gives bits: no word spells a command (assumption 2). -/
def decodeTableWord (_nbits _w : Nat) : Option Instr := none

end Sys2Proof
end

