-- ==== Sys2Proof/Config.lean ====
section
/-! DEFINITION. What the spec leaves open: constants with no body, so that no proof can see what they are. `freeNat` and
`freeBytes` are applied to the state's counter of free values; the cryptographic functions stand for the algorithms the
spec names by their standards (FIPS 197, RFC 3394, NIST SP 800-38B, SP 800-108, FIPS 180-4, FIPS 186-5) and does not print. -/

namespace Sys2Proof

/-- A number the spec leaves open, fresh for each value of the counter. -/
opaque Config.freeNat : Nat → Nat

/-- Bytes the spec leaves open, fresh for each value of the counter. -/
opaque Config.freeByte : Nat → Nat → Byte

/-- AES (FIPS 197) of one block under a key of 16, 24 or 32 bytes, byte by byte, and its inverse. -/
opaque Config.aes : Bytes → Bytes → Nat → Byte
opaque Config.aesInverse : Bytes → Bytes → Nat → Byte

/-- How many requests wait in a queue of the cipher engine for its throughput alone at an instant of the counter clock (R317). -/
opaque Config.cipherBacklog : Nat → Nat → Nat

/-- Whether an AES Key Wrap (RFC 3394) under a key passes its integrity check, and the key it carries, byte by byte. -/
opaque Config.unwrapOk : Bytes → Bytes → Bool
opaque Config.unwrap : Bytes → Bytes → Nat → Byte

/-- NIST SP 800-108 counter mode with CMAC-AES-256: key, input; byte by byte. -/
opaque Config.kdf : Bytes → Bytes → Nat → Byte

/-- A SHA-2 digest: width in bits, data; byte by byte. -/
opaque Config.sha2 : Nat → Bytes → Nat → Byte

/-- Whether an ECDSA signature verifies: curve, public key, digest, signature. -/
opaque Config.ecdsa : Nat → Bytes → Bytes → Bytes → Bool

/-- The key of a ROOT slot: whether the returned derivation is in use, the slot; byte by byte (R319, R475). -/
opaque Config.root : Bool → Nat → Nat → Byte

/-- Which of the two control processors executes a command of this opcode, or the firmware planner loop (R481). -/
opaque Config.cpOf : Nat → Nat

/-- The clockQuality this device announces as a grandmaster-capable time-aware system (R17, R18). -/
opaque Config.ownClockQuality : Nat

/-- The announce interval in ns, which the spec does not state (R17). -/
opaque Config.announceInterval : Nat

/-- Whether an Ethernet port is receiving a frame at an instant of the counter clock, as a write disables it (R204). -/
opaque Config.portBusy : Nat → Nat → Bool

/-- Where in debug space the window of a halted parse engine is read (R279). -/
opaque Config.engineWindow : Nat

/-- Whether another node's frame is on a channel's bus at an instant of the counter clock (CAN_STATUS.activity). -/
opaque Config.busBusy : Nat → Nat → Bool

/-- The clockIdentity of this device (R40). -/
opaque Config.ownClockIdentity : Nat

/-- `n` bytes of a byte-by-byte function. -/
def bytesOf (n : Nat) (f : Nat → Byte) : Bytes := (List.range n).map f

end Sys2Proof
end

