-- ==== Sys2Proof/Machine/Bits.lean ====
section
/-! DEFINITION. Bit fields, two's complement, byte order, saturation and the cyclic redundancy checks: the arithmetic the
chapters share. Registers and records are little-endian (R6); wire formats name their own order. -/

namespace Sys2Proof.Machine

/-- Bits `[lo + len - 1 : lo]` of `v`. -/
def bitsOf (v lo len : Nat) : Nat := v / 2 ^ lo % 2 ^ len

/-- `v` with bits `[lo + len - 1 : lo]` replaced by `x`. -/
def setBits (v lo len x : Nat) : Nat :=
  v % 2 ^ lo + x % 2 ^ len * 2 ^ lo + v / 2 ^ (lo + len) * 2 ^ (lo + len)

/-- Whether bit `k` of `v` is 1. -/
def bitSet (v k : Nat) : Bool := v / 2 ^ k % 2 == 1

/-- `v` with bit `k` set. -/
def orBit (v k : Nat) : Nat := if bitSet v k then v else v + 2 ^ k

/-- `v` with bit `k` cleared. -/
def clrBit (v k : Nat) : Nat := if bitSet v k then v - 2 ^ k else v

/-- The two's complement reading of the low `w` bits of `v`. -/
def signed (w v : Nat) : Int :=
  let x := v % 2 ^ w
  if 2 * x < 2 ^ w then (x : Int) else (x : Int) - (2 ^ w : Nat)

/-- The two's complement pattern of `i` in `w` bits. -/
def pattern (w : Nat) (i : Int) : Nat := (i % ((2 ^ w : Nat) : Int)).toNat

/-- `i` held between the least and greatest signed `w`-bit values. -/
def satSigned (w : Nat) (i : Int) : Int :=
  max (-((2 ^ (w - 1) : Nat) : Int)) (min i (((2 ^ (w - 1) : Nat) : Int) - 1))

/-- `v` held below `2 ^ w`. -/
def satUnsigned (w v : Nat) : Nat := min v (2 ^ w - 1)

/-- `a / b` rounded up; 0 for a divisor of 0. -/
def ceilDiv (a b : Nat) : Nat := if b = 0 then 0 else (a + b - 1) / b

/-- 1 for true, 0 for false. -/
def b2n (b : Bool) : Nat := if b then 1 else 0

/-- The value of bytes in little-endian order. -/
def leNat : Bytes → Nat
  | [] => 0
  | b :: bs => b.toNat + 256 * leNat bs

/-- The `n` low bytes of `v`, least significant first. -/
def leBytes : Nat → Nat → Bytes
  | 0, _ => []
  | n + 1, v => BitVec.ofNat 8 v :: leBytes n (v / 256)

/-- The value of bytes in big-endian order. -/
def beNat (bs : Bytes) : Nat := leNat bs.reverse

/-- The `n` low bytes of `v`, most significant first. -/
def beBytes (n v : Nat) : Bytes := (leBytes n v).reverse

/-- `n` bytes of zero. -/
def zeros (n : Nat) : Bytes := List.replicate n 0#8

/-- The bytes `[off, off + n)` of `bs`; bytes past its end read as 0. -/
def sliceBytes (bs : Bytes) (off n : Nat) : Bytes :=
  let x := (bs.drop off).take n
  x ++ zeros (n - x.length)

/-- The little-endian value of the `n` bytes of `bs` from `off`. -/
def leAt (bs : Bytes) (off n : Nat) : Nat := leNat (sliceBytes bs off n)

/-- The big-endian value of the `n` bytes of `bs` from `off`. -/
def beAt (bs : Bytes) (off n : Nat) : Nat := beNat (sliceBytes bs off n)

/-- Byte `k` of `bs`, 0 past its end. -/
def byteAt (bs : Bytes) (k : Nat) : Nat := (bs.getD k 0#8).toNat

/-- `bs` with the bytes from `off` replaced by `x` (nothing is written past its end). -/
def putBytes (bs : Bytes) (off : Nat) (x : Bytes) : Bytes :=
  (bs.take off ++ x ++ bs.drop (off + x.length)).take bs.length

/-- `bs` cut or padded with zeros to `n` bytes. -/
def padTo (n : Nat) (bs : Bytes) : Bytes := sliceBytes bs 0 n

/-- The low `n` bits of `v`, mirrored. -/
def mirrorBits : Nat → Nat → Nat
  | 0, _ => 0
  | n + 1, v => v % 2 * 2 ^ n + mirrorBits n (v / 2)

/-- `k` single-bit steps of a reflected CRC with polynomial `poly` (its bits mirrored). -/
def crcStepsR (poly : Nat) : Nat → Nat → Nat
  | 0, c => c
  | k + 1, c => crcStepsR poly k (if c % 2 = 1 then (c / 2) ^^^ poly else c / 2)

/-- The register of a reflected CRC after the bytes of `bs`. -/
def crcRunR (poly : Nat) : Bytes → Nat → Nat
  | [], c => c
  | b :: bs, c => crcRunR poly bs (crcStepsR poly 8 (c ^^^ b.toNat))

/-- `k` single-bit steps of an unreflected CRC of width `w`. -/
def crcStepsN (w poly : Nat) : Nat → Nat → Nat
  | 0, c => c
  | k + 1, c =>
    crcStepsN w poly k (if bitSet c (w - 1) then (2 * c % 2 ^ w) ^^^ poly else 2 * c % 2 ^ w)

/-- The register of an unreflected CRC of width `w` (at least 8) after the bytes of `bs`. -/
def crcRunN (w poly : Nat) : Bytes → Nat → Nat
  | [], c => c
  | b :: bs, c => crcRunN w poly bs (crcStepsN w poly 8 (c ^^^ (b.toNat * 2 ^ (w - 8))))

/-- CRC-32C: polynomial 0x1EDC6F41 reflected, register all ones at the start, complemented at the end. -/
def crc32c (bs : Bytes) : Nat := crcRunR 0x82F63B78 bs 0xFFFFFFFF ^^^ 0xFFFFFFFF

/-- The zero-based positions of `l` that satisfy `p`. -/
def positions {α : Type} (p : α → Bool) : Nat → List α → List Nat
  | _, [] => []
  | k, a :: l => if p a then k :: positions p (k + 1) l else positions p (k + 1) l

/-- The first of the numbers `k, k + 1, …, k + n - 1` that satisfies `p`. -/
def firstFrom (p : Nat → Bool) : Nat → Nat → Option Nat
  | _, 0 => none
  | k, n + 1 => if p k then some k else firstFrom p (k + 1) n

/-- How many of the numbers below `n` satisfy `p`. -/
def countBelow (p : Nat → Bool) : Nat → Nat
  | 0 => 0
  | n + 1 => countBelow p n + b2n (p n)

/-- The sum of `f` over the numbers below `n`. -/
def sumBelow (f : Nat → Nat) : Nat → Nat
  | 0 => 0
  | n + 1 => sumBelow f n + f n

/-- Replace the `k`-th element. -/
def setNth {α : Type} : List α → Nat → α → List α
  | [], _, _ => []
  | _ :: l, 0, x => x :: l
  | a :: l, k + 1, x => a :: setNth l k x

/-- The least element by a measure, the first among equals. -/
def leastBy {α : Type} (m : α → Nat) : List α → Option α
  | [] => none
  | a :: l =>
    match leastBy m l with
    | none => some a
    | some b => if m b < m a then some b else some a

end Sys2Proof.Machine
end

