-- ==== Sys2Proof/Machine/Fields.lean ====
section
/-! DEFINITION. Every register field the spec gives the device, one constant each: where it lies in the local address map
(Table 15.2, with the block's own chapter for the offset), its width, its access code (Table 0.8) and its reset value.
A field is the unit the state keeps: `Machine/RegMap.lean` composes the fields into the registers the bus sees. -/

namespace Sys2Proof.Machine

/-- Access codes of Table 0.8 (R4). -/
inductive Acc where
  | ro | rv | rw | w1c | w1s | wo | rc | rwt | rwl
  deriving DecidableEq, Repr

/-- How a field's reset value follows from its instance number, where the spec's table says more than one constant. -/
inductive ResetKind where
  /-- one constant for every instance -/
  | const
  /-- the instance number itself (CAN_ID.channel, ETH_ID.port, HB_IRQ_MAP.vector) -/
  | index
  /-- 1 on instances 0–31 (CAN_ID.int_xcvr, CAN_ID.sic_cap) -/
  | below32
  /-- 1 on instances 32–63 (CAN_ID.xl_cap) -/
  | from32
  /-- 1 on instances 0–3 (ETH_ID.fast) -/
  | below4
  /-- 0 on ETH0–ETH3, 4 on ETH4–ETH11 (ETH_CFG.iface) -/
  | ethIface
  /-- all ones for a latency class, 0 for a throughput class (MP_BOUND_VAL, R45) -/
  | boundVal
  /-- 0 for a latency class, 1 for a throughput class (MP_BOUND_INFO.kind) -/
  | boundKind
  deriving DecidableEq, Repr

/-- One register field: the local address of its register's first copy, its lowest bit and width there, the strides of
the two instance numbers (channel or port, then array element), its access code and its reset value. -/
structure Fld where
  addr : Nat
  lo : Nat
  len : Nat
  s1 : Nat
  s2 : Nat
  acc : Acc
  reset : Nat
  rkind : ResetKind := .const
  deriving DecidableEq, Repr


/-- Bound classes 0–6 of Table 2.1: which of them are throughputs (MP_BOUND_INFO.kind, chapter 2). -/
def boundIsThroughput (n : Nat) : Bool := n == 4 || n == 5 || n == 6

/-- The value a field's instance `(i, j)` holds at reset. -/
def Fld.resetAt (f : Fld) (i : Nat) (_j : Nat) : Nat :=
  match f.rkind with
  | .const => f.reset
  | .index => i
  | .below32 => if i < 32 then 1 else 0
  | .from32 => if i < 32 then 0 else 1
  | .below4 => if i < 4 then 1 else 0
  | .ethIface => if i < 4 then 0 else 4
  | .boundVal => if boundIsThroughput i then 0 else 0xFFFFFFFF
  | .boundKind => if boundIsThroughput i then 1 else 0

/-- The key under which the state keeps instance `(i, j)` of a field: its address and lowest bit. -/
def Fld.key (f : Fld) (i j : Nat) : Nat := (f.addr + f.s1 * i + f.s2 * j) * 32 + f.lo


-- DT_NOW_LO (chapter 01)
def Reg.DT_NOW_LO.dt_lo : Fld := ⟨0x10000, 0, 32, 0, 0, .rv, 0x0, .const⟩

-- DT_NOW_HI (chapter 01)
def Reg.DT_NOW_HI.dt_hi : Fld := ⟨0x10004, 0, 32, 0, 0, .rv, 0x0, .const⟩

-- DT_CTRL (chapter 01)
def Reg.DT_CTRL.sync_en : Fld := ⟨0x10010, 0, 1, 0, 0, .rw, 0x0, .const⟩
def Reg.DT_CTRL.role : Fld := ⟨0x10010, 1, 2, 0, 0, .rw, 0x0, .const⟩
def Reg.DT_CTRL.step_en : Fld := ⟨0x10010, 3, 1, 0, 0, .rw, 0x1, .const⟩
def Reg.DT_CTRL.ref_type : Fld := ⟨0x10010, 4, 1, 0, 0, .rw, 0x0, .const⟩
def Reg.DT_CTRL.log_sync_interval : Fld := ⟨0x10010, 8, 4, 0, 0, .rw, 0xD, .const⟩
def Reg.DT_CTRL.priority1 : Fld := ⟨0x10010, 16, 8, 0, 0, .rw, 0xF6, .const⟩
def Reg.DT_CTRL.priority2 : Fld := ⟨0x10010, 24, 8, 0, 0, .rw, 0xF8, .const⟩

-- DT_STATUS (chapter 01)
def Reg.DT_STATUS.state : Fld := ⟨0x10014, 0, 3, 0, 0, .rv, 0x0, .const⟩
def Reg.DT_STATUS.synced : Fld := ⟨0x10014, 3, 1, 0, 0, .rv, 0x0, .const⟩
def Reg.DT_STATUS.epoch : Fld := ⟨0x10014, 4, 4, 0, 0, .rv, 0x0, .const⟩
def Reg.DT_STATUS.sweep_pending : Fld := ⟨0x10014, 8, 1, 0, 0, .rv, 0x0, .const⟩
def Reg.DT_STATUS.gm_local : Fld := ⟨0x10014, 9, 1, 0, 0, .rv, 0x0, .const⟩
def Reg.DT_STATUS.gm_device : Fld := ⟨0x10014, 10, 6, 0, 0, .rv, 0x0, .const⟩
def Reg.DT_STATUS.sync_port : Fld := ⟨0x10014, 16, 8, 0, 0, .rv, 0xFF, .const⟩
def Reg.DT_STATUS.steps_removed : Fld := ⟨0x10014, 24, 8, 0, 0, .rv, 0x0, .const⟩

-- DT_UNCERT (chapter 01)
def Reg.DT_UNCERT.u_ns : Fld := ⟨0x10018, 0, 32, 0, 0, .rv, 0xFFFFFFFF, .const⟩

-- DT_DRIFT_BOUND (chapter 01)
def Reg.DT_DRIFT_BOUND.ppb : Fld := ⟨0x1001C, 0, 32, 0, 0, .rw, 0xC350, .const⟩

-- DT_AON_DRIFT_BOUND (chapter 01)
def Reg.DT_AON_DRIFT_BOUND.ppb : Fld := ⟨0x10020, 0, 32, 0, 0, .rw, 0x249F0, .const⟩

-- DT_STEP_THRESH (chapter 01)
def Reg.DT_STEP_THRESH.ns : Fld := ⟨0x10024, 0, 32, 0, 0, .rw, 0xF4240, .const⟩

-- DT_SLEW_MAX (chapter 01)
def Reg.DT_SLEW_MAX.ppb : Fld := ⟨0x10028, 0, 32, 0, 0, .rw, 0x186A0, .const⟩

-- DT_HOLDOVER_LIMIT (chapter 01)
def Reg.DT_HOLDOVER_LIMIT.ms : Fld := ⟨0x1002C, 0, 32, 0, 0, .rw, 0x927C0, .const⟩

-- DT_OFFSET (chapter 01)
def Reg.DT_OFFSET.offset_ns : Fld := ⟨0x10030, 0, 32, 0, 0, .rv, 0x0, .const⟩

-- DT_RATE_ADJ (chapter 01)
def Reg.DT_RATE_ADJ.ppb : Fld := ⟨0x10034, 0, 32, 0, 0, .rv, 0x0, .const⟩

-- DT_LAST_SYNC (chapter 01)
def Reg.DT_LAST_SYNC.dt : Fld := ⟨0x10038, 0, 64, 0, 0, .rv, 0x0, .const⟩

-- DT_INT_STATUS (chapter 01)
def Reg.DT_INT_STATUS.acquired : Fld := ⟨0x10040, 0, 1, 0, 0, .w1c, 0x0, .const⟩
def Reg.DT_INT_STATUS.lost : Fld := ⟨0x10040, 1, 1, 0, 0, .w1c, 0x0, .const⟩
def Reg.DT_INT_STATUS.holdover_expired : Fld := ⟨0x10040, 2, 1, 0, 0, .w1c, 0x0, .const⟩
def Reg.DT_INT_STATUS.step : Fld := ⟨0x10040, 3, 1, 0, 0, .w1c, 0x0, .const⟩
def Reg.DT_INT_STATUS.gm_change : Fld := ⟨0x10040, 4, 1, 0, 0, .w1c, 0x0, .const⟩
def Reg.DT_INT_STATUS.uncert_sat : Fld := ⟨0x10040, 5, 1, 0, 0, .w1c, 0x0, .const⟩
def Reg.DT_INT_STATUS.drift_violation : Fld := ⟨0x10040, 6, 1, 0, 0, .w1c, 0x0, .const⟩

-- DT_INT_EN (chapter 01)
def Reg.DT_INT_EN.enable : Fld := ⟨0x10044, 0, 7, 0, 0, .rw, 0x0, .const⟩

-- DT_STEP_HIST (chapter 01)
def Reg.DT_STEP_HIST.step : Fld := ⟨0x10080, 0, 64, 0x8, 0, .rv, 0x0, .const⟩

-- DT_ETH_LAT (chapter 01)
def Reg.DT_ETH_LAT.ingress_ns : Fld := ⟨0x10100, 0, 16, 0x4, 0, .rw, 0x0, .const⟩
def Reg.DT_ETH_LAT.egress_ns : Fld := ⟨0x10100, 16, 16, 0x4, 0, .rw, 0x0, .const⟩

-- DT_CANX_RXDLY (chapter 01)
def Reg.DT_CANX_RXDLY.rx_delay_ns : Fld := ⟨0x10140, 0, 10, 0x4, 0, .rw, 0x0, .const⟩

-- MP_CTRL (chapter 02)
def Reg.MP_CTRL.planner_en : Fld := ⟨0x20000, 0, 1, 0, 0, .rw, 0x1, .const⟩
def Reg.MP_CTRL.hem_fixed : Fld := ⟨0x20000, 1, 1, 0, 0, .rw, 0x0, .const⟩
def Reg.MP_CTRL.hem_set : Fld := ⟨0x20000, 4, 8, 0, 0, .rw, 0x3C, .const⟩
def Reg.MP_CTRL.avs_rail : Fld := ⟨0x20000, 12, 4, 0, 0, .rw, 0x0, .const⟩

-- MP_STATUS (chapter 02)
def Reg.MP_STATUS.state : Fld := ⟨0x20004, 0, 2, 0, 0, .rv, 0x0, .const⟩
def Reg.MP_STATUS.derated : Fld := ⟨0x20004, 2, 1, 0, 0, .rv, 0x0, .const⟩
def Reg.MP_STATUS.at_ceiling : Fld := ⟨0x20004, 3, 1, 0, 0, .rv, 0x0, .const⟩
def Reg.MP_STATUS.at_floor : Fld := ⟨0x20004, 4, 1, 0, 0, .rv, 0x0, .const⟩
def Reg.MP_STATUS.avs_fault : Fld := ⟨0x20004, 5, 1, 0, 0, .rv, 0x0, .const⟩
def Reg.MP_STATUS.vdd_cmd_mv : Fld := ⟨0x20004, 16, 16, 0, 0, .rv, 0x384, .const⟩

-- MP_SPEED (chapter 02)
def Reg.MP_SPEED.si : Fld := ⟨0x20008, 0, 16, 0, 0, .rv, 0x0, .const⟩
def Reg.MP_SPEED.si_min_1s : Fld := ⟨0x20008, 16, 16, 0, 0, .rv, 0x0, .const⟩

-- MP_DERATE (chapter 02)
def Reg.MP_DERATE.d : Fld := ⟨0x2000C, 0, 16, 0, 0, .rv, 0x1000, .const⟩

-- MP_HEM (chapter 02)
def Reg.MP_HEM.hem : Fld := ⟨0x20010, 0, 8, 0, 0, .rv, 0x3C, .const⟩
def Reg.MP_HEM.hem_planned : Fld := ⟨0x20010, 8, 8, 0, 0, .rv, 0x3C, .const⟩
def Reg.MP_HEM.replans : Fld := ⟨0x20010, 16, 16, 0, 0, .rv, 0x0, .const⟩

-- MP_MARGIN (chapter 02)
def Reg.MP_MARGIN.margin : Fld := ⟨0x20014, 0, 16, 0, 0, .rv, 0xFFFF, .const⟩
def Reg.MP_MARGIN.vreq125_mv : Fld := ⟨0x20014, 16, 16, 0, 0, .rv, 0x0, .const⟩

-- MP_SLOPE (chapter 02)
def Reg.MP_SLOPE.uv_per_kh : Fld := ⟨0x20018, 0, 32, 0, 0, .rv, 0x0, .const⟩

-- MP_BOUND_GEN (chapter 02)
def Reg.MP_BOUND_GEN.gen : Fld := ⟨0x2001C, 0, 32, 0, 0, .rv, 0x0, .const⟩

-- MP_VDD_FIX (chapter 02)
def Reg.MP_VDD_FIX.mv : Fld := ⟨0x20020, 0, 10, 0, 0, .rw, 0x384, .const⟩

-- MP_VDD_MEAS (chapter 02)
def Reg.MP_VDD_MEAS.vdd_core_mv : Fld := ⟨0x20024, 0, 16, 0, 0, .rv, 0x0, .const⟩
def Reg.MP_VDD_MEAS.vdd_sram_mv : Fld := ⟨0x20024, 16, 16, 0, 0, .rv, 0x0, .const⟩

-- MP_TJ (chapter 02)
def Reg.MP_TJ.tj : Fld := ⟨0x20028, 0, 16, 0, 0, .rv, 0x0, .const⟩
def Reg.MP_TJ.sensor : Fld := ⟨0x20028, 16, 4, 0, 0, .rv, 0x0, .const⟩

-- MP_MARGIN_WARN (chapter 02)
def Reg.MP_MARGIN_WARN.tenths : Fld := ⟨0x2002C, 0, 16, 0, 0, .rw, 0x1E, .const⟩

-- MP_INT_STATUS (chapter 02)
def Reg.MP_INT_STATUS.event : Fld := ⟨0x20030, 0, 9, 0, 0, .w1c, 0x0, .const⟩

-- MP_INT_EN (chapter 02)
def Reg.MP_INT_EN.enable : Fld := ⟨0x20034, 0, 9, 0, 0, .rw, 0x0, .const⟩

-- MP_BOUND_VAL (chapter 02)
def Reg.MP_BOUND_VAL.value : Fld := ⟨0x20040, 0, 32, 0x8, 0, .rv, 0x0, .boundVal⟩

-- MP_BOUND_INFO (chapter 02)
def Reg.MP_BOUND_INFO.ratio_milli : Fld := ⟨0x20044, 0, 16, 0x8, 0, .rv, 0x0, .const⟩
def Reg.MP_BOUND_INFO.derated : Fld := ⟨0x20044, 16, 1, 0x8, 0, .rv, 0x0, .const⟩
def Reg.MP_BOUND_INFO.kind : Fld := ⟨0x20044, 17, 1, 0x8, 0, .ro, 0x0, .boundKind⟩

-- MP_TEMP (chapter 02)
def Reg.MP_TEMP.tj : Fld := ⟨0x20100, 0, 16, 0x4, 0, .rv, 0x0, .const⟩

-- MP_DLM (chapter 02)
def Reg.MP_DLM.si : Fld := ⟨0x20200, 0, 16, 0x4, 0, .rv, 0x0, .const⟩

-- LR_CTRL (chapter 02)
def Reg.LR_CTRL.life_years : Fld := ⟨0x30000, 0, 8, 0, 0, .rwl, 0x19, .const⟩
def Reg.LR_CTRL.period_min : Fld := ⟨0x30000, 8, 8, 0, 0, .rw, 0xA, .const⟩
def Reg.LR_CTRL.checkpoint : Fld := ⟨0x30000, 16, 1, 0, 0, .wo, 0x0, .const⟩

-- LR_STATUS (chapter 02)
def Reg.LR_STATUS.rotation : Fld := ⟨0x30004, 0, 16, 0, 0, .rv, 0xF0, .const⟩
def Reg.LR_STATUS.spares : Fld := ⟨0x30004, 16, 8, 0, 0, .rv, 0x10, .const⟩
def Reg.LR_STATUS.pace_exceeded : Fld := ⟨0x30004, 24, 1, 0, 0, .rv, 0x0, .const⟩
def Reg.LR_STATUS.restored_older : Fld := ⟨0x30004, 25, 1, 0, 0, .rv, 0x0, .const⟩

-- LR_SEQ (chapter 02)
def Reg.LR_SEQ.seq : Fld := ⟨0x30008, 0, 32, 0, 0, .rv, 0x0, .const⟩

-- LR_WEAR (chapter 02)
def Reg.LR_WEAR.wear : Fld := ⟨0x3000C, 0, 16, 0, 0, .rv, 0x0, .const⟩
def Reg.LR_WEAR.life : Fld := ⟨0x3000C, 16, 16, 0, 0, .rv, 0x0, .const⟩

-- LR_SNAP (chapter 02)
def Reg.LR_SNAP.take : Fld := ⟨0x30010, 0, 1, 0, 0, .wo, 0x0, .const⟩
def Reg.LR_SNAP.done : Fld := ⟨0x30010, 1, 1, 0, 0, .rv, 0x0, .const⟩

-- LR_INT_STATUS (chapter 02)
def Reg.LR_INT_STATUS.event : Fld := ⟨0x30014, 0, 5, 0, 0, .w1c, 0x0, .const⟩

-- LR_INT_EN (chapter 02)
def Reg.LR_INT_EN.enable : Fld := ⟨0x30018, 0, 5, 0, 0, .rw, 0x0, .const⟩

-- CAN_ID (chapter 03)
def Reg.CAN_ID.channel : Fld := ⟨0x40000, 0, 6, 0x1000, 0, .ro, 0x0, .index⟩
def Reg.CAN_ID.int_xcvr : Fld := ⟨0x40000, 8, 1, 0x1000, 0, .ro, 0x0, .below32⟩
def Reg.CAN_ID.xl_cap : Fld := ⟨0x40000, 9, 1, 0x1000, 0, .ro, 0x0, .from32⟩
def Reg.CAN_ID.sic_cap : Fld := ⟨0x40000, 10, 1, 0x1000, 0, .ro, 0x0, .below32⟩
def Reg.CAN_ID.version : Fld := ⟨0x40000, 16, 8, 0x1000, 0, .ro, 0x1, .const⟩

-- CAN_CTRL (chapter 03)
def Reg.CAN_CTRL.mode : Fld := ⟨0x40004, 0, 3, 0x1000, 0, .rw, 0x0, .const⟩
def Reg.CAN_CTRL.fd_en : Fld := ⟨0x40004, 4, 1, 0x1000, 0, .rw, 0x0, .const⟩
def Reg.CAN_CTRL.brs_en : Fld := ⟨0x40004, 5, 1, 0x1000, 0, .rw, 0x0, .const⟩
def Reg.CAN_CTRL.xl_en : Fld := ⟨0x40004, 6, 1, 0x1000, 0, .rw, 0x0, .const⟩
def Reg.CAN_CTRL.sic_en : Fld := ⟨0x40004, 7, 1, 0x1000, 0, .rw, 0x0, .const⟩
def Reg.CAN_CTRL.pwm_en : Fld := ⟨0x40004, 8, 1, 0x1000, 0, .rw, 0x0, .const⟩
def Reg.CAN_CTRL.pxhd : Fld := ⟨0x40004, 9, 1, 0x1000, 0, .rw, 0x0, .const⟩

-- CAN_STATUS (chapter 03)
def Reg.CAN_STATUS.mode_eff : Fld := ⟨0x40008, 0, 3, 0x1000, 0, .rv, 0x0, .const⟩
def Reg.CAN_STATUS.conf : Fld := ⟨0x40008, 3, 2, 0x1000, 0, .rv, 0x0, .const⟩
def Reg.CAN_STATUS.ew : Fld := ⟨0x40008, 5, 1, 0x1000, 0, .rv, 0x0, .const⟩
def Reg.CAN_STATUS.cloak : Fld := ⟨0x40008, 6, 1, 0x1000, 0, .rv, 0x0, .const⟩
def Reg.CAN_STATUS.integrating : Fld := ⟨0x40008, 7, 1, 0x1000, 0, .rv, 0x0, .const⟩
def Reg.CAN_STATUS.activity : Fld := ⟨0x40008, 8, 2, 0x1000, 0, .rv, 0x0, .const⟩
def Reg.CAN_STATUS.lec : Fld := ⟨0x40008, 10, 3, 0x1000, 0, .rv, 0x0, .const⟩
def Reg.CAN_STATUS.dlec : Fld := ⟨0x40008, 13, 3, 0x1000, 0, .rv, 0x0, .const⟩
def Reg.CAN_STATUS.cfg_err : Fld := ⟨0x40008, 16, 8, 0x1000, 0, .rv, 0x0, .const⟩

-- CAN_ERRC (chapter 03)
def Reg.CAN_ERRC.tec : Fld := ⟨0x4000C, 0, 9, 0x1000, 0, .rv, 0x0, .const⟩
def Reg.CAN_ERRC.rec : Fld := ⟨0x4000C, 16, 8, 0x1000, 0, .rv, 0x0, .const⟩
def Reg.CAN_ERRC.rp : Fld := ⟨0x4000C, 24, 1, 0x1000, 0, .rv, 0x0, .const⟩

-- CAN_BOFF (chapter 03)
def Reg.CAN_BOFF.holdoff_ms : Fld := ⟨0x40010, 0, 10, 0x1000, 0, .rw, 0x0, .const⟩
def Reg.CAN_BOFF.recov_count : Fld := ⟨0x40010, 16, 8, 0x1000, 0, .rv, 0x0, .const⟩
def Reg.CAN_BOFF.holdoff_active : Fld := ⟨0x40010, 24, 1, 0x1000, 0, .rv, 0x0, .const⟩

-- CAN_INT_STATUS (chapter 03)
def Reg.CAN_INT_STATUS.txdone : Fld := ⟨0x40030, 0, 1, 0x1000, 0, .w1c, 0x0, .const⟩
def Reg.CAN_INT_STATUS.txcdone : Fld := ⟨0x40030, 1, 1, 0x1000, 0, .w1c, 0x0, .const⟩
def Reg.CAN_INT_STATUS.txq_cres : Fld := ⟨0x40030, 2, 1, 0x1000, 0, .w1c, 0x0, .const⟩
def Reg.CAN_INT_STATUS.ew : Fld := ⟨0x40030, 3, 1, 0x1000, 0, .w1c, 0x0, .const⟩
def Reg.CAN_INT_STATUS.err_passive : Fld := ⟨0x40030, 4, 1, 0x1000, 0, .w1c, 0x0, .const⟩
def Reg.CAN_INT_STATUS.busoff : Fld := ⟨0x40030, 5, 1, 0x1000, 0, .w1c, 0x0, .const⟩
def Reg.CAN_INT_STATUS.busoff_rec : Fld := ⟨0x40030, 6, 1, 0x1000, 0, .w1c, 0x0, .const⟩
def Reg.CAN_INT_STATUS.cloak : Fld := ⟨0x40030, 7, 1, 0x1000, 0, .w1c, 0x0, .const⟩
def Reg.CAN_INT_STATUS.host_stale : Fld := ⟨0x40030, 8, 1, 0x1000, 0, .w1c, 0x0, .const⟩
def Reg.CAN_INT_STATUS.cfg_err : Fld := ⟨0x40030, 9, 1, 0x1000, 0, .w1c, 0x0, .const⟩
def Reg.CAN_INT_STATUS.pxe : Fld := ⟨0x40030, 10, 1, 0x1000, 0, .w1c, 0x0, .const⟩
def Reg.CAN_INT_STATUS.txq_pres : Fld := ⟨0x40030, 11, 1, 0x1000, 0, .w1c, 0x0, .const⟩

-- CAN_INT_EN (chapter 03)
def Reg.CAN_INT_EN.enable : Fld := ⟨0x40034, 0, 32, 0x1000, 0, .rw, 0x0, .const⟩

-- CAN_BTIM (chapter 03)
def Reg.CAN_BTIM.brp : Fld := ⟨0x40040, 0, 5, 0x1000, 0, .rw, 0x1, .const⟩
def Reg.CAN_BTIM.tseg1 : Fld := ⟨0x40040, 8, 8, 0x1000, 0, .rw, 0x7E, .const⟩
def Reg.CAN_BTIM.tseg2 : Fld := ⟨0x40040, 16, 7, 0x1000, 0, .rw, 0x1F, .const⟩
def Reg.CAN_BTIM.sjw : Fld := ⟨0x40040, 24, 7, 0x1000, 0, .rw, 0x1F, .const⟩

-- CAN_DBTIM (chapter 03)
def Reg.CAN_DBTIM.brp : Fld := ⟨0x40044, 0, 5, 0x1000, 0, .rw, 0x0, .const⟩
def Reg.CAN_DBTIM.tseg1 : Fld := ⟨0x40044, 8, 6, 0x1000, 0, .rw, 0x3A, .const⟩
def Reg.CAN_DBTIM.tseg2 : Fld := ⟨0x40044, 16, 5, 0x1000, 0, .rw, 0x13, .const⟩
def Reg.CAN_DBTIM.sjw : Fld := ⟨0x40044, 24, 5, 0x1000, 0, .rw, 0x13, .const⟩

-- CAN_XBTIM (chapter 03)
def Reg.CAN_XBTIM.brp : Fld := ⟨0x40048, 0, 5, 0x1000, 0, .rw, 0x0, .const⟩
def Reg.CAN_XBTIM.tseg1 : Fld := ⟨0x40048, 8, 6, 0x1000, 0, .rw, 0xA, .const⟩
def Reg.CAN_XBTIM.tseg2 : Fld := ⟨0x40048, 16, 5, 0x1000, 0, .rw, 0x3, .const⟩
def Reg.CAN_XBTIM.sjw : Fld := ⟨0x40048, 24, 5, 0x1000, 0, .rw, 0x3, .const⟩

-- CAN_XPWM (chapter 03)
def Reg.CAN_XPWM.pwms : Fld := ⟨0x4004C, 0, 6, 0x1000, 0, .rw, 0x4, .const⟩
def Reg.CAN_XPWM.pwml : Fld := ⟨0x4004C, 8, 6, 0x1000, 0, .rw, 0xC, .const⟩
def Reg.CAN_XPWM.pwmo : Fld := ⟨0x4004C, 16, 6, 0x1000, 0, .rw, 0x0, .const⟩

-- CAN_TDC (chapter 03)
def Reg.CAN_TDC.tdco : Fld := ⟨0x40050, 0, 8, 0x1000, 0, .rw, 0x3C, .const⟩
def Reg.CAN_TDC.tdcf : Fld := ⟨0x40050, 8, 8, 0x1000, 0, .rw, 0x0, .const⟩
def Reg.CAN_TDC.tdcv : Fld := ⟨0x40050, 16, 8, 0x1000, 0, .rv, 0x0, .const⟩
def Reg.CAN_TDC.tdc_en : Fld := ⟨0x40050, 24, 1, 0x1000, 0, .rw, 0x1, .const⟩

-- CAN_TXCFG (chapter 03)
def Reg.CAN_TXCFG.tx_buffers : Fld := ⟨0x40080, 0, 7, 0x1000, 0, .rw, 0x10, .const⟩
def Reg.CAN_TXCFG.txq_depth : Fld := ⟨0x40080, 8, 9, 0x1000, 0, .rw, 0x40, .const⟩
def Reg.CAN_TXCFG.gw_share : Fld := ⟨0x40080, 17, 9, 0x1000, 0, .rw, 0x20, .const⟩

-- CAN_TXBUF_PEND (chapter 03)
def Reg.CAN_TXBUF_PEND.pend : Fld := ⟨0x40084, 0, 64, 0x1000, 0, .rv, 0x0, .const⟩

-- CAN_TXBUF_REQ (chapter 03)
def Reg.CAN_TXBUF_REQ.req : Fld := ⟨0x4008C, 0, 64, 0x1000, 0, .w1s, 0x0, .const⟩

-- CAN_TXBUF_CANCEL (chapter 03)
def Reg.CAN_TXBUF_CANCEL.cancel : Fld := ⟨0x40094, 0, 64, 0x1000, 0, .w1s, 0x0, .const⟩

-- CAN_TXBUF_DONE (chapter 03)
def Reg.CAN_TXBUF_DONE.done : Fld := ⟨0x4009C, 0, 64, 0x1000, 0, .w1c, 0x0, .const⟩

-- CAN_TXBUF_CDONE (chapter 03)
def Reg.CAN_TXBUF_CDONE.cdone : Fld := ⟨0x400A4, 0, 64, 0x1000, 0, .w1c, 0x0, .const⟩

-- CAN_TXQ_PUT (chapter 03)
def Reg.CAN_TXQ_PUT.slot : Fld := ⟨0x400B0, 0, 8, 0x1000, 0, .wo, 0x0, .const⟩

-- CAN_TXQ_STATUS (chapter 03)
def Reg.CAN_TXQ_STATUS.host_pending : Fld := ⟨0x400B4, 0, 9, 0x1000, 0, .rv, 0x0, .const⟩
def Reg.CAN_TXQ_STATUS.gw_pending : Fld := ⟨0x400B4, 16, 9, 0x1000, 0, .rv, 0x0, .const⟩

-- CAN_TXQ_CANCEL (chapter 03)
def Reg.CAN_TXQ_CANCEL.slot : Fld := ⟨0x400B8, 0, 8, 0x1000, 0, .wo, 0x0, .const⟩

-- CAN_TXQ_CRES (chapter 03)
def Reg.CAN_TXQ_CRES.status : Fld := ⟨0x400BC, 0, 16, 0x1000, 0, .rv, 0x0, .const⟩
def Reg.CAN_TXQ_CRES.slot : Fld := ⟨0x400BC, 16, 8, 0x1000, 0, .rv, 0x0, .const⟩
def Reg.CAN_TXQ_CRES.transmitted : Fld := ⟨0x400BC, 24, 1, 0x1000, 0, .rv, 0x0, .const⟩
def Reg.CAN_TXQ_CRES.resolved : Fld := ⟨0x400BC, 25, 1, 0x1000, 0, .rv, 0x1, .const⟩

-- CAN_TXQ_PRES (chapter 03)
def Reg.CAN_TXQ_PRES.status : Fld := ⟨0x400C0, 0, 16, 0x1000, 0, .rv, 0x0, .const⟩
def Reg.CAN_TXQ_PRES.slot : Fld := ⟨0x400C0, 16, 8, 0x1000, 0, .rv, 0x0, .const⟩

-- CAN_STAT_TXOK (chapter 03)
def Reg.CAN_STAT_TXOK.value : Fld := ⟨0x40100, 0, 32, 0x1000, 0, .rc, 0x0, .const⟩

-- CAN_STAT_RXOK (chapter 03)
def Reg.CAN_STAT_RXOK.value : Fld := ⟨0x40104, 0, 32, 0x1000, 0, .rc, 0x0, .const⟩

-- CAN_STAT_ERRFRM (chapter 03)
def Reg.CAN_STAT_ERRFRM.value : Fld := ⟨0x40108, 0, 32, 0x1000, 0, .rc, 0x0, .const⟩

-- CAN_STAT_ARBLOST (chapter 03)
def Reg.CAN_STAT_ARBLOST.value : Fld := ⟨0x4010C, 0, 32, 0x1000, 0, .rc, 0x0, .const⟩

-- CAN_STAT_STALE_REBUILT (chapter 03)
def Reg.CAN_STAT_STALE_REBUILT.value : Fld := ⟨0x40110, 0, 32, 0x1000, 0, .rc, 0x0, .const⟩

-- CAN_STAT_STALE_SUPPR (chapter 03)
def Reg.CAN_STAT_STALE_SUPPR.value : Fld := ⟨0x40114, 0, 32, 0x1000, 0, .rc, 0x0, .const⟩

-- CAN_STAT_REBUILD_LATE (chapter 03)
def Reg.CAN_STAT_REBUILD_LATE.value : Fld := ⟨0x40118, 0, 32, 0x1000, 0, .rc, 0x0, .const⟩

-- CAN_STAT_CLOAK_IGN (chapter 03)
def Reg.CAN_STAT_CLOAK_IGN.value : Fld := ⟨0x4011C, 0, 32, 0x1000, 0, .rc, 0x0, .const⟩

-- CAN_STAT_CORE_OVR (chapter 03)
def Reg.CAN_STAT_CORE_OVR.value : Fld := ⟨0x40120, 0, 32, 0x1000, 0, .rc, 0x0, .const⟩

-- CAN_STAT_TX_UNDR (chapter 03)
def Reg.CAN_STAT_TX_UNDR.value : Fld := ⟨0x40124, 0, 32, 0x1000, 0, .rc, 0x0, .const⟩

-- CAN_STAT_PXE (chapter 03)
def Reg.CAN_STAT_PXE.value : Fld := ⟨0x40128, 0, 32, 0x1000, 0, .rc, 0x0, .const⟩

-- CAN_STAT_BUSOFF (chapter 03)
def Reg.CAN_STAT_BUSOFF.value : Fld := ⟨0x4012C, 0, 32, 0x1000, 0, .rc, 0x0, .const⟩

-- CAN_STAT_TDC_FAIL (chapter 03)
def Reg.CAN_STAT_TDC_FAIL.value : Fld := ⟨0x40130, 0, 32, 0x1000, 0, .rc, 0x0, .const⟩

-- CAN_MM_TX (chapter 04)
def Reg.CAN_MM_TX.start_w : Fld := ⟨0x40200, 0, 14, 0x1000, 0, .rw, 0x0, .const⟩
def Reg.CAN_MM_TX.dsize : Fld := ⟨0x40200, 16, 4, 0x1000, 0, .rw, 0x7, .const⟩

-- CAN_FLT_CFG (chapter 04)
def Reg.CAN_FLT_CFG.start_w : Fld := ⟨0x40204, 0, 14, 0x1000, 0, .rw, 0x0, .const⟩
def Reg.CAN_FLT_CFG.cap : Fld := ⟨0x40204, 16, 11, 0x1000, 0, .rw, 0x0, .const⟩

-- CAN_FLT_COUNT (chapter 04)
def Reg.CAN_FLT_COUNT.count : Fld := ⟨0x40208, 0, 11, 0x1000, 0, .rv, 0x0, .const⟩

-- CAN_RXCFG (chapter 04)
def Reg.CAN_RXCFG.nm_base : Fld := ⟨0x4020C, 0, 2, 0x1000, 0, .rw, 0x0, .const⟩
def Reg.CAN_RXCFG.nm_ext : Fld := ⟨0x4020C, 2, 2, 0x1000, 0, .rw, 0x0, .const⟩
def Reg.CAN_RXCFG.rrf_base : Fld := ⟨0x4020C, 4, 1, 0x1000, 0, .rw, 0x0, .const⟩
def Reg.CAN_RXCFG.rrf_ext : Fld := ⟨0x4020C, 5, 1, 0x1000, 0, .rw, 0x0, .const⟩

-- CAN_RXF_CFG (chapter 04)
def Reg.CAN_RXF_CFG.start_w : Fld := ⟨0x40210, 0, 14, 0x1000, 0x10, .rw, 0x0, .const⟩
def Reg.CAN_RXF_CFG.overwrite : Fld := ⟨0x40210, 14, 1, 0x1000, 0x10, .rw, 0x0, .const⟩
def Reg.CAN_RXF_CFG.count : Fld := ⟨0x40210, 16, 8, 0x1000, 0x10, .rw, 0x0, .const⟩
def Reg.CAN_RXF_CFG.dsize : Fld := ⟨0x40210, 24, 4, 0x1000, 0x10, .rw, 0x7, .const⟩

-- CAN_RXF_WM (chapter 04)
def Reg.CAN_RXF_WM.wm : Fld := ⟨0x40214, 0, 8, 0x1000, 0x10, .rw, 0x0, .const⟩

-- CAN_RXF_STATUS (chapter 04)
def Reg.CAN_RXF_STATUS.fill : Fld := ⟨0x40218, 0, 8, 0x1000, 0x10, .rv, 0x0, .const⟩
def Reg.CAN_RXF_STATUS.get : Fld := ⟨0x40218, 8, 8, 0x1000, 0x10, .rv, 0x0, .const⟩
def Reg.CAN_RXF_STATUS.put : Fld := ⟨0x40218, 16, 8, 0x1000, 0x10, .rv, 0x0, .const⟩
def Reg.CAN_RXF_STATUS.full : Fld := ⟨0x40218, 24, 1, 0x1000, 0x10, .rv, 0x0, .const⟩

-- CAN_RXF_ACK (chapter 04)
def Reg.CAN_RXF_ACK.index : Fld := ⟨0x4021C, 0, 8, 0x1000, 0x10, .wo, 0x0, .const⟩
def Reg.CAN_RXF_ACK.uc : Fld := ⟨0x4021C, 8, 8, 0x1000, 0x10, .wo, 0x0, .const⟩

-- CAN_MB_CFG (chapter 04)
def Reg.CAN_MB_CFG.start_w : Fld := ⟨0x40230, 0, 14, 0x1000, 0, .rw, 0x0, .const⟩
def Reg.CAN_MB_CFG.count : Fld := ⟨0x40230, 16, 7, 0x1000, 0, .rw, 0x0, .const⟩
def Reg.CAN_MB_CFG.dsize : Fld := ⟨0x40230, 24, 4, 0x1000, 0, .rw, 0x7, .const⟩

-- CAN_MB_ND (chapter 04)
def Reg.CAN_MB_ND.nd : Fld := ⟨0x40234, 0, 64, 0x1000, 0, .w1c, 0x0, .const⟩

-- CAN_MB_OVW (chapter 04)
def Reg.CAN_MB_OVW.ovw : Fld := ⟨0x4023C, 0, 64, 0x1000, 0, .w1c, 0x0, .const⟩

-- CAN_TXEF_CFG (chapter 04)
def Reg.CAN_TXEF_CFG.start_w : Fld := ⟨0x40250, 0, 14, 0x1000, 0, .rw, 0x0, .const⟩
def Reg.CAN_TXEF_CFG.count : Fld := ⟨0x40250, 16, 8, 0x1000, 0, .rw, 0x0, .const⟩
def Reg.CAN_TXEF_CFG.gw_events : Fld := ⟨0x40250, 24, 1, 0x1000, 0, .rw, 0x0, .const⟩

-- CAN_MM_ERR (chapter 04)
def Reg.CAN_MM_ERR.reason : Fld := ⟨0x40260, 0, 4, 0x1000, 0, .rv, 0x0, .const⟩
def Reg.CAN_MM_ERR.element : Fld := ⟨0x40260, 16, 9, 0x1000, 0, .rv, 0x0, .const⟩

-- CAN_STAT_RXF0_LOST (chapter 04)
def Reg.CAN_STAT_RXF0_LOST.value : Fld := ⟨0x402C0, 0, 32, 0x1000, 0, .rc, 0x0, .const⟩

-- CAN_STAT_RXF1_LOST (chapter 04)
def Reg.CAN_STAT_RXF1_LOST.value : Fld := ⟨0x402C4, 0, 32, 0x1000, 0, .rc, 0x0, .const⟩

-- CAN_STAT_MB_OVW (chapter 04)
def Reg.CAN_STAT_MB_OVW.value : Fld := ⟨0x402C8, 0, 32, 0x1000, 0, .rc, 0x0, .const⟩

-- CAN_STAT_RX_REJ (chapter 04)
def Reg.CAN_STAT_RX_REJ.value : Fld := ⟨0x402CC, 0, 32, 0x1000, 0, .rc, 0x0, .const⟩

-- CAN_STAT_RX_MISROUTE (chapter 04)
def Reg.CAN_STAT_RX_MISROUTE.value : Fld := ⟨0x402D0, 0, 32, 0x1000, 0, .rc, 0x0, .const⟩

-- CAN_STAT_RX_TRUNC (chapter 04)
def Reg.CAN_STAT_RX_TRUNC.value : Fld := ⟨0x402D4, 0, 32, 0x1000, 0, .rc, 0x0, .const⟩

-- CAN_STAT_TXEF_LOST (chapter 04)
def Reg.CAN_STAT_TXEF_LOST.value : Fld := ⟨0x402D8, 0, 32, 0x1000, 0, .rc, 0x0, .const⟩

-- CAN_STAT_MM_UNC (chapter 04)
def Reg.CAN_STAT_MM_UNC.value : Fld := ⟨0x402DC, 0, 32, 0x1000, 0, .rc, 0x0, .const⟩

-- CAN_INT_STATUS (chapter 04)
def Reg.CAN_INT_STATUS.rxf0_new : Fld := ⟨0x40030, 16, 1, 0x1000, 0, .w1c, 0x0, .const⟩
def Reg.CAN_INT_STATUS.rxf0_wm : Fld := ⟨0x40030, 17, 1, 0x1000, 0, .w1c, 0x0, .const⟩
def Reg.CAN_INT_STATUS.rxf0_full : Fld := ⟨0x40030, 18, 1, 0x1000, 0, .w1c, 0x0, .const⟩
def Reg.CAN_INT_STATUS.rxf0_lost : Fld := ⟨0x40030, 19, 1, 0x1000, 0, .w1c, 0x0, .const⟩
def Reg.CAN_INT_STATUS.rxf1_new : Fld := ⟨0x40030, 20, 1, 0x1000, 0, .w1c, 0x0, .const⟩
def Reg.CAN_INT_STATUS.rxf1_wm : Fld := ⟨0x40030, 21, 1, 0x1000, 0, .w1c, 0x0, .const⟩
def Reg.CAN_INT_STATUS.rxf1_full : Fld := ⟨0x40030, 22, 1, 0x1000, 0, .w1c, 0x0, .const⟩
def Reg.CAN_INT_STATUS.rxf1_lost : Fld := ⟨0x40030, 23, 1, 0x1000, 0, .w1c, 0x0, .const⟩
def Reg.CAN_INT_STATUS.mb_new : Fld := ⟨0x40030, 24, 1, 0x1000, 0, .w1c, 0x0, .const⟩
def Reg.CAN_INT_STATUS.mb_ovw : Fld := ⟨0x40030, 25, 1, 0x1000, 0, .w1c, 0x0, .const⟩
def Reg.CAN_INT_STATUS.hp : Fld := ⟨0x40030, 26, 1, 0x1000, 0, .w1c, 0x0, .const⟩
def Reg.CAN_INT_STATUS.txef_new : Fld := ⟨0x40030, 27, 1, 0x1000, 0, .w1c, 0x0, .const⟩
def Reg.CAN_INT_STATUS.txef_wm : Fld := ⟨0x40030, 28, 1, 0x1000, 0, .w1c, 0x0, .const⟩
def Reg.CAN_INT_STATUS.txef_lost : Fld := ⟨0x40030, 29, 1, 0x1000, 0, .w1c, 0x0, .const⟩
def Reg.CAN_INT_STATUS.refused : Fld := ⟨0x40030, 30, 1, 0x1000, 0, .w1c, 0x0, .const⟩
def Reg.CAN_INT_STATUS.ecc : Fld := ⟨0x40030, 31, 1, 0x1000, 0, .w1c, 0x0, .const⟩

-- SG_CTRL (chapter 05)
def Reg.SG_CTRL.en : Fld := ⟨0xD0000, 0, 1, 0, 0, .rw, 0x0, .const⟩
def Reg.SG_CTRL.unpack_en : Fld := ⟨0xD0000, 1, 1, 0, 0, .rw, 0x1, .const⟩
def Reg.SG_CTRL.remote_en : Fld := ⟨0xD0000, 2, 1, 0, 0, .rw, 0x1, .const⟩

-- SG_STATUS (chapter 05)
def Reg.SG_STATUS.ready : Fld := ⟨0xD0004, 0, 1, 0, 0, .rv, 0x0, .const⟩
def Reg.SG_STATUS.writing : Fld := ⟨0xD0004, 1, 1, 0, 0, .rv, 0x0, .const⟩

-- SG_CANRT_USED (chapter 05)
def Reg.SG_CANRT_USED.used : Fld := ⟨0xD0008, 0, 16, 0, 0, .rv, 0x0, .const⟩
def Reg.SG_CANRT_USED.max_bucket : Fld := ⟨0xD0008, 16, 4, 0, 0, .rv, 0x0, .const⟩

-- SG_BA_FREE (chapter 05)
def Reg.SG_BA_FREE.free : Fld := ⟨0xD000C, 0, 15, 0, 0, .rv, 0x4000, .const⟩
def Reg.SG_BA_FREE.run : Fld := ⟨0xD000C, 16, 15, 0, 0, .rv, 0x4000, .const⟩

-- SG_ND_CLR (chapter 05)
def Reg.SG_ND_CLR.slot : Fld := ⟨0xD0010, 0, 16, 0, 0, .wo, 0x0, .const⟩

-- SG_INT_STATUS (chapter 07)
def Reg.SG_INT_STATUS.event : Fld := ⟨0xD0020, 0, 13, 0, 0, .w1c, 0x0, .const⟩

-- SG_INT_EN (chapter 05)
def Reg.SG_INT_EN.enable : Fld := ⟨0xD0024, 0, 13, 0, 0, .rw, 0x0, .const⟩

-- SG_STAT_CAN_HIT (chapter 05)
def Reg.SG_STAT_CAN_HIT.value : Fld := ⟨0xD0100, 0, 32, 0, 0, .rc, 0x0, .const⟩

-- SG_STAT_CAN_MISS (chapter 05)
def Reg.SG_STAT_CAN_MISS.value : Fld := ⟨0xD0104, 0, 32, 0, 0, .rc, 0x0, .const⟩

-- SG_STAT_UNPACK (chapter 05)
def Reg.SG_STAT_UNPACK.value : Fld := ⟨0xD0108, 0, 32, 0, 0, .rc, 0x0, .const⟩

-- SG_STAT_SHORT (chapter 05)
def Reg.SG_STAT_SHORT.value : Fld := ⟨0xD010C, 0, 32, 0, 0, .rc, 0x0, .const⟩

-- SG_STAT_OLDER (chapter 05)
def Reg.SG_STAT_OLDER.value : Fld := ⟨0xD0110, 0, 32, 0, 0, .rc, 0x0, .const⟩

-- SG_STAT_CLAMP (chapter 05)
def Reg.SG_STAT_CLAMP.value : Fld := ⟨0xD0114, 0, 32, 0, 0, .rc, 0x0, .const⟩

-- SG_STAT_FWD (chapter 05)
def Reg.SG_STAT_FWD.value : Fld := ⟨0xD0118, 0, 32, 0, 0, .rc, 0x0, .const⟩

-- SG_STAT_FWD_FMT (chapter 05)
def Reg.SG_STAT_FWD_FMT.value : Fld := ⟨0xD011C, 0, 32, 0, 0, .rc, 0x0, .const⟩

-- SG_STAT_FWD_FULL (chapter 05)
def Reg.SG_STAT_FWD_FULL.value : Fld := ⟨0xD0120, 0, 32, 0, 0, .rc, 0x0, .const⟩

-- SG_STAT_RMT_TX (chapter 05)
def Reg.SG_STAT_RMT_TX.value : Fld := ⟨0xD0124, 0, 32, 0, 0, .rc, 0x0, .const⟩

-- SG_STAT_RMT_RX (chapter 05)
def Reg.SG_STAT_RMT_RX.value : Fld := ⟨0xD0128, 0, 32, 0, 0, .rc, 0x0, .const⟩

-- SG_STAT_RMT_DROP (chapter 05)
def Reg.SG_STAT_RMT_DROP.value : Fld := ⟨0xD012C, 0, 32, 0, 0, .rc, 0x0, .const⟩

-- SG_STAT_BAD_ENTRY (chapter 05)
def Reg.SG_STAT_BAD_ENTRY.value : Fld := ⟨0xD0130, 0, 32, 0, 0, .rc, 0x0, .const⟩

-- SG_STAT_MEM_UNC (chapter 05)
def Reg.SG_STAT_MEM_UNC.value : Fld := ⟨0xD0134, 0, 32, 0, 0, .rc, 0x0, .const⟩

-- SG_CAN_MISS (chapter 05)
def Reg.SG_CAN_MISS.miss : Fld := ⟨0xD0200, 0, 32, 0x4, 0, .rc, 0x0, .const⟩

-- SG_LAST_SUPPR (chapter 06)
def Reg.SG_LAST_SUPPR.template : Fld := ⟨0xD0040, 0, 14, 0, 0, .rv, 0x0, .const⟩
def Reg.SG_LAST_SUPPR.where_ : Fld := ⟨0xD0040, 14, 2, 0, 0, .rv, 0x0, .const⟩
def Reg.SG_LAST_SUPPR.route : Fld := ⟨0xD0040, 16, 16, 0, 0, .rv, 0x0, .const⟩

-- SG_LAST_SUPPR_AGE (chapter 06)
def Reg.SG_LAST_SUPPR_AGE.age : Fld := ⟨0xD0044, 0, 16, 0, 0, .rv, 0x0, .const⟩
def Reg.SG_LAST_SUPPR_AGE.budget : Fld := ⟨0xD0044, 16, 16, 0, 0, .rv, 0x0, .const⟩

-- SG_STAT_BUILD (chapter 06)
def Reg.SG_STAT_BUILD.value : Fld := ⟨0xD0138, 0, 32, 0, 0, .rc, 0x0, .const⟩

-- SG_STAT_REBUILD (chapter 06)
def Reg.SG_STAT_REBUILD.value : Fld := ⟨0xD013C, 0, 32, 0, 0, .rc, 0x0, .const⟩

-- SG_STAT_STALE_APPLY (chapter 06)
def Reg.SG_STAT_STALE_APPLY.value : Fld := ⟨0xD0140, 0, 32, 0, 0, .rc, 0x0, .const⟩

-- SG_STAT_SUPPR (chapter 06)
def Reg.SG_STAT_SUPPR.value : Fld := ⟨0xD0144, 0, 32, 0, 0, .rc, 0x0, .const⟩

-- SG_STAT_CYC_OVR (chapter 06)
def Reg.SG_STAT_CYC_OVR.value : Fld := ⟨0xD0148, 0, 32, 0, 0, .rc, 0x0, .const⟩

-- SG_STAT_TPL_WAIT (chapter 06)
def Reg.SG_STAT_TPL_WAIT.value : Fld := ⟨0xD014C, 0, 32, 0, 0, .rc, 0x0, .const⟩

-- SG_STAT_RATE_WAIT (chapter 06)
def Reg.SG_STAT_RATE_WAIT.value : Fld := ⟨0xD0150, 0, 32, 0, 0, .rc, 0x0, .const⟩

-- SG_STAT_RATE_DROP (chapter 06)
def Reg.SG_STAT_RATE_DROP.value : Fld := ⟨0xD0154, 0, 32, 0, 0, .rc, 0x0, .const⟩

-- SG_STAT_AGE_SAT (chapter 06)
def Reg.SG_STAT_AGE_SAT.value : Fld := ⟨0xD0158, 0, 32, 0, 0, .rc, 0x0, .const⟩

-- SG_STAT_RX_AGE (chapter 06)
def Reg.SG_STAT_RX_AGE.value : Fld := ⟨0xD015C, 0, 32, 0, 0, .rc, 0x0, .const⟩

-- SG_STAT_TPL_GONE (chapter 06)
def Reg.SG_STAT_TPL_GONE.value : Fld := ⟨0xD0160, 0, 32, 0, 0, .rc, 0x0, .const⟩

-- SG_STAT_CYC_MISS (chapter 06)
def Reg.SG_STAT_CYC_MISS.value : Fld := ⟨0xD0164, 0, 32, 0, 0, .rc, 0x0, .const⟩

-- SG_CHRATE (chapter 06)
def Reg.SG_CHRATE.rate : Fld := ⟨0xD0300, 0, 16, 0x4, 0, .rw, 0x0, .const⟩
def Reg.SG_CHRATE.burst : Fld := ⟨0xD0300, 16, 8, 0x4, 0, .rw, 0x1, .const⟩
def Reg.SG_CHRATE.en : Fld := ⟨0xD0300, 31, 1, 0x4, 0, .rw, 0x0, .const⟩

-- SG_CHRATE_STAT (chapter 06)
def Reg.SG_CHRATE_STAT.tokens : Fld := ⟨0xD0400, 0, 8, 0x4, 0, .rv, 0x0, .const⟩
def Reg.SG_CHRATE_STAT.waiters : Fld := ⟨0xD0400, 8, 16, 0x4, 0, .rv, 0x0, .const⟩

-- SG_STALE_MAP (chapter 06)
def Reg.SG_STALE_MAP.stale : Fld := ⟨0xD1000, 0, 32, 0x4, 0, .rv, 0x0, .const⟩

-- SG_STAT_STRM_TX (chapter 07)
def Reg.SG_STAT_STRM_TX.value : Fld := ⟨0xD0168, 0, 32, 0, 0, .rc, 0x0, .const⟩

-- SG_STAT_STRM_MSG (chapter 07)
def Reg.SG_STAT_STRM_MSG.value : Fld := ⟨0xD016C, 0, 32, 0, 0, .rc, 0x0, .const⟩

-- SG_STAT_STRM_STALE (chapter 07)
def Reg.SG_STAT_STRM_STALE.value : Fld := ⟨0xD0170, 0, 32, 0, 0, .rc, 0x0, .const⟩

-- SG_STAT_STRM_RX (chapter 07)
def Reg.SG_STAT_STRM_RX.value : Fld := ⟨0xD0174, 0, 32, 0, 0, .rc, 0x0, .const⟩

-- SG_STAT_STRM_MISS (chapter 07)
def Reg.SG_STAT_STRM_MISS.value : Fld := ⟨0xD0178, 0, 32, 0, 0, .rc, 0x0, .const⟩

-- SG_STAT_STRM_BAD (chapter 07)
def Reg.SG_STAT_STRM_BAD.value : Fld := ⟨0xD017C, 0, 32, 0, 0, .rc, 0x0, .const⟩

-- SG_STAT_STRM_GAP (chapter 07)
def Reg.SG_STAT_STRM_GAP.value : Fld := ⟨0xD0180, 0, 32, 0, 0, .rc, 0x0, .const⟩

-- SG_STAT_STRM_OOO (chapter 07)
def Reg.SG_STAT_STRM_OOO.value : Fld := ⟨0xD0184, 0, 32, 0, 0, .rc, 0x0, .const⟩

-- SG_STAT_MIRROR_DROP (chapter 07)
def Reg.SG_STAT_MIRROR_DROP.value : Fld := ⟨0xD0188, 0, 32, 0, 0, .rc, 0x0, .const⟩

-- SG_MIRROR_CFG (chapter 07)
def Reg.SG_MIRROR_CFG.stream : Fld := ⟨0xD0500, 0, 6, 0x8, 0, .rw, 0x0, .const⟩
def Reg.SG_MIRROR_CFG.rx : Fld := ⟨0xD0500, 6, 1, 0x8, 0, .rw, 0x0, .const⟩
def Reg.SG_MIRROR_CFG.tx : Fld := ⟨0xD0500, 7, 1, 0x8, 0, .rw, 0x0, .const⟩

-- SG_MIRROR_N (chapter 07)
def Reg.SG_MIRROR_N.n : Fld := ⟨0xD0504, 0, 25, 0x8, 0, .rw, 0x0, .const⟩

-- SG_RXSTRM_SEQ (chapter 07)
def Reg.SG_RXSTRM_SEQ.seq : Fld := ⟨0xD0700, 0, 32, 0x4, 0, .rv, 0x0, .const⟩

-- SG_RXSTRM_GAP (chapter 07)
def Reg.SG_RXSTRM_GAP.lost : Fld := ⟨0xD0800, 0, 32, 0x4, 0, .rc, 0x0, .const⟩

-- ETH_ID (chapter 08)
def Reg.ETH_ID.port : Fld := ⟨0x80000, 0, 4, 0x1000, 0, .ro, 0x0, .index⟩
def Reg.ETH_ID.fast : Fld := ⟨0x80000, 4, 1, 0x1000, 0, .ro, 0x0, .below4⟩
def Reg.ETH_ID.version : Fld := ⟨0x80000, 16, 8, 0x1000, 0, .ro, 0x1, .const⟩

-- ETH_CFG (chapter 08)
def Reg.ETH_CFG.en : Fld := ⟨0x80004, 0, 1, 0x1000, 0, .rw, 0x0, .const⟩
def Reg.ETH_CFG.iface : Fld := ⟨0x80004, 1, 3, 0x1000, 0, .rw, 0x0, .ethIface⟩
def Reg.ETH_CFG.fec : Fld := ⟨0x80004, 4, 2, 0x1000, 0, .rw, 0x0, .const⟩
def Reg.ETH_CFG.loopback : Fld := ⟨0x80004, 6, 2, 0x1000, 0, .rw, 0x0, .const⟩
def Reg.ETH_CFG.max_len : Fld := ⟨0x80004, 8, 14, 0x1000, 0, .rw, 0x5F2, .const⟩
def Reg.ETH_CFG.class_untagged : Fld := ⟨0x80004, 22, 3, 0x1000, 0, .rw, 0x0, .const⟩

-- ETH_STATUS (chapter 08)
def Reg.ETH_STATUS.en_eff : Fld := ⟨0x80008, 0, 1, 0x1000, 0, .rv, 0x0, .const⟩
def Reg.ETH_STATUS.link : Fld := ⟨0x80008, 1, 1, 0x1000, 0, .rv, 0x0, .const⟩
def Reg.ETH_STATUS.speed : Fld := ⟨0x80008, 2, 3, 0x1000, 0, .rv, 0x7, .const⟩
def Reg.ETH_STATUS.fec_eff : Fld := ⟨0x80008, 5, 2, 0x1000, 0, .rv, 0x0, .const⟩
def Reg.ETH_STATUS.local_fault : Fld := ⟨0x80008, 7, 1, 0x1000, 0, .rv, 0x0, .const⟩
def Reg.ETH_STATUS.remote_fault : Fld := ⟨0x80008, 8, 1, 0x1000, 0, .rv, 0x0, .const⟩
def Reg.ETH_STATUS.hd_refused : Fld := ⟨0x80008, 9, 1, 0x1000, 0, .rv, 0x0, .const⟩
def Reg.ETH_STATUS.cfg_err : Fld := ⟨0x80008, 12, 4, 0x1000, 0, .rv, 0x0, .const⟩

-- ETH_PCP_MAP (chapter 08)
def Reg.ETH_PCP_MAP.map : Fld := ⟨0x8000C, 0, 24, 0x1000, 0, .rw, 0xFAC688, .const⟩

-- ETH_INT_STATUS (chapter 08)
def Reg.ETH_INT_STATUS.event : Fld := ⟨0x80030, 0, 6, 0x1000, 0, .w1c, 0x0, .const⟩

-- ETH_INT_EN (chapter 08)
def Reg.ETH_INT_EN.enable : Fld := ⟨0x80034, 0, 6, 0x1000, 0, .rw, 0x0, .const⟩

-- ETH_TAS_CTRL (chapter 08)
def Reg.ETH_TAS_CTRL.gate_en : Fld := ⟨0x80040, 0, 1, 0x1000, 0, .rw, 0x0, .const⟩

-- ETH_TAS_STATUS (chapter 08)
def Reg.ETH_TAS_STATUS.gates : Fld := ⟨0x80044, 0, 8, 0x1000, 0, .rv, 0xFF, .const⟩
def Reg.ETH_TAS_STATUS.entry : Fld := ⟨0x80044, 8, 8, 0x1000, 0, .rv, 0x0, .const⟩
def Reg.ETH_TAS_STATUS.pending : Fld := ⟨0x80044, 16, 1, 0x1000, 0, .rv, 0x0, .const⟩
def Reg.ETH_TAS_STATUS.has_oper : Fld := ⟨0x80044, 17, 1, 0x1000, 0, .rv, 0x0, .const⟩

-- ETH_TAS_CHANGE (chapter 08)
def Reg.ETH_TAS_CHANGE.ct : Fld := ⟨0x80048, 0, 64, 0x1000, 0, .rv, 0x0, .const⟩

-- ETH_CBS (chapter 08)
def Reg.ETH_CBS.idle_slope : Fld := ⟨0x80080, 0, 25, 0x1000, 0x4, .rw, 0x0, .const⟩
def Reg.ETH_CBS.en : Fld := ⟨0x80080, 31, 1, 0x1000, 0x4, .rw, 0x0, .const⟩

-- ETH_CBS_CREDIT (chapter 08)
def Reg.ETH_CBS_CREDIT.credit : Fld := ⟨0x800A0, 0, 32, 0x1000, 0x4, .rv, 0x0, .const⟩

-- ETH_RX_OCTETS (chapter 08)
def Reg.ETH_RX_OCTETS.value : Fld := ⟨0x80100, 0, 64, 0x1000, 0, .rc, 0x0, .const⟩

-- ETH_TX_OCTETS (chapter 08)
def Reg.ETH_TX_OCTETS.value : Fld := ⟨0x80108, 0, 64, 0x1000, 0, .rc, 0x0, .const⟩

-- ETH_RX_OK (chapter 08)
def Reg.ETH_RX_OK.value : Fld := ⟨0x80110, 0, 32, 0x1000, 0, .rc, 0x0, .const⟩

-- ETH_RX_MCAST (chapter 08)
def Reg.ETH_RX_MCAST.value : Fld := ⟨0x80114, 0, 32, 0x1000, 0, .rc, 0x0, .const⟩

-- ETH_RX_BCAST (chapter 08)
def Reg.ETH_RX_BCAST.value : Fld := ⟨0x80118, 0, 32, 0x1000, 0, .rc, 0x0, .const⟩

-- ETH_RX_RUNT (chapter 08)
def Reg.ETH_RX_RUNT.value : Fld := ⟨0x8011C, 0, 32, 0x1000, 0, .rc, 0x0, .const⟩

-- ETH_RX_FRAG (chapter 08)
def Reg.ETH_RX_FRAG.value : Fld := ⟨0x80120, 0, 32, 0x1000, 0, .rc, 0x0, .const⟩

-- ETH_RX_FCS (chapter 08)
def Reg.ETH_RX_FCS.value : Fld := ⟨0x80124, 0, 32, 0x1000, 0, .rc, 0x0, .const⟩

-- ETH_RX_CODE (chapter 08)
def Reg.ETH_RX_CODE.value : Fld := ⟨0x80128, 0, 32, 0x1000, 0, .rc, 0x0, .const⟩

-- ETH_RX_OVERSIZE (chapter 08)
def Reg.ETH_RX_OVERSIZE.value : Fld := ⟨0x8012C, 0, 32, 0x1000, 0, .rc, 0x0, .const⟩

-- ETH_RX_CTRL (chapter 08)
def Reg.ETH_RX_CTRL.value : Fld := ⟨0x80130, 0, 32, 0x1000, 0, .rc, 0x0, .const⟩

-- ETH_RX_BAD_SA (chapter 08)
def Reg.ETH_RX_BAD_SA.value : Fld := ⟨0x80134, 0, 32, 0x1000, 0, .rc, 0x0, .const⟩

-- ETH_RX_ABORT (chapter 08)
def Reg.ETH_RX_ABORT.value : Fld := ⟨0x80138, 0, 32, 0x1000, 0, .rc, 0x0, .const⟩

-- ETH_RX_ADMIT_DROP (chapter 08)
def Reg.ETH_RX_ADMIT_DROP.value : Fld := ⟨0x8013C, 0, 32, 0x1000, 0, .rc, 0x0, .const⟩

-- ETH_RX_CORE_OVR (chapter 08)
def Reg.ETH_RX_CORE_OVR.value : Fld := ⟨0x80140, 0, 32, 0x1000, 0, .rc, 0x0, .const⟩

-- ETH_TX_OK (chapter 08)
def Reg.ETH_TX_OK.value : Fld := ⟨0x80144, 0, 32, 0x1000, 0, .rc, 0x0, .const⟩

-- ETH_TX_MCAST (chapter 08)
def Reg.ETH_TX_MCAST.value : Fld := ⟨0x80148, 0, 32, 0x1000, 0, .rc, 0x0, .const⟩

-- ETH_TX_BCAST (chapter 08)
def Reg.ETH_TX_BCAST.value : Fld := ⟨0x8014C, 0, 32, 0x1000, 0, .rc, 0x0, .const⟩

-- ETH_TX_ABORT (chapter 08)
def Reg.ETH_TX_ABORT.value : Fld := ⟨0x80150, 0, 32, 0x1000, 0, .rc, 0x0, .const⟩

-- ETH_TX_UNDR (chapter 08)
def Reg.ETH_TX_UNDR.value : Fld := ⟨0x80154, 0, 32, 0x1000, 0, .rc, 0x0, .const⟩

-- ETH_TX_FLUSH (chapter 08)
def Reg.ETH_TX_FLUSH.value : Fld := ⟨0x80158, 0, 32, 0x1000, 0, .rc, 0x0, .const⟩

-- ETH_TX_OVERSIZE (chapter 08)
def Reg.ETH_TX_OVERSIZE.value : Fld := ⟨0x8015C, 0, 32, 0x1000, 0, .rc, 0x0, .const⟩

-- ETH_TX_TAS_OVERRUN (chapter 08)
def Reg.ETH_TX_TAS_OVERRUN.value : Fld := ⟨0x80160, 0, 32, 0x1000, 0, .rc, 0x0, .const⟩

-- ETH_TX_TAS_SDU (chapter 08)
def Reg.ETH_TX_TAS_SDU.value : Fld := ⟨0x80164, 0, 32, 0x1000, 0, .rc, 0x0, .const⟩

-- SW_CTRL (chapter 08)
def Reg.SW_CTRL.en : Fld := ⟨0x90000, 0, 1, 0, 0, .rw, 0x0, .const⟩
def Reg.SW_CTRL.pushout_en : Fld := ⟨0x90000, 1, 1, 0, 0, .rw, 0x1, .const⟩

-- SW_BUF (chapter 08)
def Reg.SW_BUF.used : Fld := ⟨0x90004, 0, 16, 0, 0, .rv, 0x0, .const⟩
def Reg.SW_BUF.shared_free : Fld := ⟨0x90004, 16, 16, 0, 0, .rv, 0xB000, .const⟩

-- SW_INT_STATUS (chapter 08)
def Reg.SW_INT_STATUS.event : Fld := ⟨0x90010, 0, 6, 0, 0, .w1c, 0x0, .const⟩

-- SW_INT_EN (chapter 08)
def Reg.SW_INT_EN.enable : Fld := ⟨0x90014, 0, 6, 0, 0, .rw, 0x0, .const⟩

-- SW_CLASS_RSV (chapter 08)
def Reg.SW_CLASS_RSV.rsv : Fld := ⟨0x90040, 0, 16, 0x4, 0, .rw, 0x200, .const⟩

-- SW_CLASS_MAX (chapter 08)
def Reg.SW_CLASS_MAX.max : Fld := ⟨0x90060, 0, 16, 0x4, 0, .rw, 0xC000, .const⟩

-- SW_CLASS_USED (chapter 08)
def Reg.SW_CLASS_USED.used : Fld := ⟨0x90080, 0, 16, 0x4, 0, .rv, 0x0, .const⟩

-- SW_IN_MAX (chapter 08)
def Reg.SW_IN_MAX.max : Fld := ⟨0x90100, 0, 16, 0x4, 0, .rw, 0x3000, .const⟩

-- SW_IN_USED (chapter 08)
def Reg.SW_IN_USED.used : Fld := ⟨0x90180, 0, 16, 0x4, 0, .rv, 0x0, .const⟩

-- SW_VOQ_SEL (chapter 08)
def Reg.SW_VOQ_SEL.voq : Fld := ⟨0x90200, 0, 12, 0, 0, .rw, 0x0, .const⟩

-- SW_VOQ_STAT (chapter 08)
def Reg.SW_VOQ_STAT.cells : Fld := ⟨0x90204, 0, 16, 0, 0, .rv, 0x0, .const⟩
def Reg.SW_VOQ_STAT.frames : Fld := ⟨0x90204, 16, 16, 0, 0, .rv, 0x0, .const⟩

-- SW_MIRROR_CFG (chapter 08)
def Reg.SW_MIRROR_CFG.dest : Fld := ⟨0x90300, 0, 5, 0x10, 0, .rw, 0x0, .const⟩
def Reg.SW_MIRROR_CFG.class_ : Fld := ⟨0x90300, 5, 3, 0x10, 0, .rw, 0x0, .const⟩
def Reg.SW_MIRROR_CFG.trunc : Fld := ⟨0x90300, 8, 14, 0x10, 0, .rw, 0x0, .const⟩
def Reg.SW_MIRROR_CFG.en : Fld := ⟨0x90300, 31, 1, 0x10, 0, .rw, 0x0, .const⟩

-- SW_MIRROR_N (chapter 08)
def Reg.SW_MIRROR_N.n : Fld := ⟨0x90304, 0, 25, 0x10, 0, .rw, 0x0, .const⟩

-- SW_MIRROR_CNT (chapter 08)
def Reg.SW_MIRROR_CNT.copies : Fld := ⟨0x90308, 0, 32, 0x10, 0, .rc, 0x0, .const⟩

-- SW_MIRROR_DROP (chapter 08)
def Reg.SW_MIRROR_DROP.drops : Fld := ⟨0x9030C, 0, 32, 0x10, 0, .rc, 0x0, .const⟩

-- SW_PORT_MIRROR (chapter 08)
def Reg.SW_PORT_MIRROR.rx_session : Fld := ⟨0x90400, 0, 3, 0x4, 0, .rw, 0x0, .const⟩
def Reg.SW_PORT_MIRROR.rx_en : Fld := ⟨0x90400, 3, 1, 0x4, 0, .rw, 0x0, .const⟩
def Reg.SW_PORT_MIRROR.tx_session : Fld := ⟨0x90400, 4, 3, 0x4, 0, .rw, 0x0, .const⟩
def Reg.SW_PORT_MIRROR.tx_en : Fld := ⟨0x90400, 7, 1, 0x4, 0, .rw, 0x0, .const⟩

-- SW_STAT_DROP (chapter 08)
def Reg.SW_STAT_DROP.value : Fld := ⟨0x90500, 0, 32, 0x8, 0, .rc, 0x0, .const⟩

-- SW_STAT_PUSHED (chapter 08)
def Reg.SW_STAT_PUSHED.value : Fld := ⟨0x90504, 0, 32, 0x8, 0, .rc, 0x0, .const⟩

-- SW_STAT_STREAM_INV (chapter 08)
def Reg.SW_STAT_STREAM_INV.value : Fld := ⟨0x90540, 0, 32, 0, 0, .rc, 0x0, .const⟩

-- SW_POL_policer (chapter 08)
def Reg.SW_POL_policer.value : Fld := ⟨0x90600, 0, 11, 0, 0, .rw, 0x0, .const⟩

-- SW_POL_matched (chapter 08)
def Reg.SW_POL_matched.value : Fld := ⟨0x90604, 0, 32, 0, 0, .rc, 0x0, .const⟩

-- SW_POL_green (chapter 08)
def Reg.SW_POL_green.value : Fld := ⟨0x90608, 0, 32, 0, 0, .rc, 0x0, .const⟩

-- SW_POL_yellow (chapter 08)
def Reg.SW_POL_yellow.value : Fld := ⟨0x9060C, 0, 32, 0, 0, .rc, 0x0, .const⟩

-- SW_POL_red (chapter 08)
def Reg.SW_POL_red.value : Fld := ⟨0x90610, 0, 32, 0, 0, .rc, 0x0, .const⟩

-- SW_POL_sdu (chapter 08)
def Reg.SW_POL_sdu.value : Fld := ⟨0x90614, 0, 32, 0, 0, .rc, 0x0, .const⟩

-- SW_CB_function (chapter 08)
def Reg.SW_CB_function.value : Fld := ⟨0x90620, 0, 9, 0, 0, .rw, 0x0, .const⟩

-- SW_CB_passed (chapter 08)
def Reg.SW_CB_passed.value : Fld := ⟨0x90624, 0, 32, 0, 0, .rc, 0x0, .const⟩

-- SW_CB_discarded (chapter 08)
def Reg.SW_CB_discarded.value : Fld := ⟨0x90628, 0, 32, 0, 0, .rc, 0x0, .const⟩

-- SW_CB_rogue (chapter 08)
def Reg.SW_CB_rogue.value : Fld := ⟨0x9062C, 0, 32, 0, 0, .rc, 0x0, .const⟩

-- SW_CB_ooo (chapter 08)
def Reg.SW_CB_ooo.value : Fld := ⟨0x90630, 0, 32, 0, 0, .rc, 0x0, .const⟩

-- SW_CB_lost (chapter 08)
def Reg.SW_CB_lost.value : Fld := ⟨0x90634, 0, 32, 0, 0, .rc, 0x0, .const⟩

-- SW_CB_tagless (chapter 08)
def Reg.SW_CB_tagless.value : Fld := ⟨0x90638, 0, 32, 0, 0, .rc, 0x0, .const⟩

-- SW_CB_resets (chapter 08)
def Reg.SW_CB_resets.value : Fld := ⟨0x9063C, 0, 32, 0, 0, .rc, 0x0, .const⟩

-- FT_CTRL (chapter 09)
def Reg.FT_CTRL.en : Fld := ⟨0xA0000, 0, 1, 0, 0, .rw, 0x0, .const⟩
def Reg.FT_CTRL.learn_en : Fld := ⟨0xA0000, 1, 1, 0, 0, .rw, 0x1, .const⟩
def Reg.FT_CTRL.evict_en : Fld := ⟨0xA0000, 2, 1, 0, 0, .rw, 0x0, .const⟩
def Reg.FT_CTRL.route_en : Fld := ⟨0xA0000, 3, 1, 0, 0, .rw, 0x0, .const⟩

-- FT_STATUS (chapter 09)
def Reg.FT_STATUS.ready : Fld := ⟨0xA0004, 0, 1, 0, 0, .rv, 0x0, .const⟩
def Reg.FT_STATUS.busy : Fld := ⟨0xA0004, 1, 1, 0, 0, .rv, 0x0, .const⟩

-- FT_AGE_CFG (chapter 09)
def Reg.FT_AGE_CFG.age_s : Fld := ⟨0xA0008, 0, 16, 0, 0, .rw, 0x12C, .const⟩

-- FT_L2_USED (chapter 09)
def Reg.FT_L2_USED.used : Fld := ⟨0xA000C, 0, 17, 0, 0, .rv, 0x0, .const⟩

-- FT_L2_STATIC (chapter 09)
def Reg.FT_L2_STATIC.static : Fld := ⟨0xA0010, 0, 17, 0, 0, .rv, 0x0, .const⟩

-- FT_LEARN_Q (chapter 09)
def Reg.FT_LEARN_Q.pending : Fld := ⟨0xA0014, 0, 9, 0, 0, .rv, 0x0, .const⟩

-- FT_LPM_USED (chapter 09)
def Reg.FT_LPM_USED.nodes : Fld := ⟨0xA0018, 0, 16, 0, 0, .rv, 0x0, .const⟩

-- FT_LPM_PFX (chapter 09)
def Reg.FT_LPM_PFX.ipv4 : Fld := ⟨0xA001C, 0, 16, 0, 0, .rv, 0x0, .const⟩
def Reg.FT_LPM_PFX.ipv6 : Fld := ⟨0xA001C, 16, 16, 0, 0, .rv, 0x0, .const⟩

-- FT_LOCK (chapter 09)
def Reg.FT_LOCK.req : Fld := ⟨0xA0020, 0, 32, 0, 0, .rw, 0x0, .const⟩

-- FT_LOCK_HELD (chapter 09)
def Reg.FT_LOCK_HELD.held : Fld := ⟨0xA0024, 0, 32, 0, 0, .rv, 0x0, .const⟩

-- FT_LOCK_MAX (chapter 09)
def Reg.FT_LOCK_MAX.ms : Fld := ⟨0xA0028, 0, 16, 0, 0, .rw, 0x3E8, .const⟩

-- FT_RTR_MAC (chapter 09)
def Reg.FT_RTR_MAC.mac : Fld := ⟨0xA0030, 0, 48, 0, 0, .rw, 0x0, .const⟩

-- FT_INT_STATUS (chapter 09)
def Reg.FT_INT_STATUS.event : Fld := ⟨0xA0040, 0, 8, 0, 0, .w1c, 0x0, .const⟩
def Reg.FT_INT_STATUS.dma_done : Fld := ⟨0xA0040, 16, 1, 0, 0, .w1c, 0x0, .const⟩

-- FT_INT_EN (chapter 09)
def Reg.FT_INT_EN.enable : Fld := ⟨0xA0044, 0, 17, 0, 0, .rw, 0x0, .const⟩

-- FT_DMA_BASE (chapter 09)
def Reg.FT_DMA_BASE.base : Fld := ⟨0xA0080, 0, 64, 0, 0, .rw, 0x0, .const⟩

-- FT_DMA_SIZE (chapter 09)
def Reg.FT_DMA_SIZE.log2 : Fld := ⟨0xA0088, 0, 4, 0, 0, .rw, 0x4, .const⟩

-- FT_DMA_CTRL (chapter 09)
def Reg.FT_DMA_CTRL.en : Fld := ⟨0xA008C, 0, 1, 0, 0, .rw, 0x0, .const⟩

-- FT_DMA_TAIL (chapter 09)
def Reg.FT_DMA_TAIL.tail : Fld := ⟨0xA0090, 0, 12, 0, 0, .rw, 0x0, .const⟩

-- FT_DMA_HEAD (chapter 09)
def Reg.FT_DMA_HEAD.head : Fld := ⟨0xA0094, 0, 12, 0, 0, .rv, 0x0, .const⟩

-- FT_PORT_CFG (chapter 09)
def Reg.FT_PORT_CFG.pvid : Fld := ⟨0xA0100, 0, 12, 0x4, 0, .rw, 0x1, .const⟩
def Reg.FT_PORT_CFG.learn_en : Fld := ⟨0xA0100, 12, 1, 0x4, 0, .rw, 0x1, .const⟩
def Reg.FT_PORT_CFG.ingress_filter : Fld := ⟨0xA0100, 13, 1, 0x4, 0, .rw, 0x1, .const⟩
def Reg.FT_PORT_CFG.quar_en : Fld := ⟨0xA0100, 14, 1, 0x4, 0, .rw, 0x0, .const⟩
def Reg.FT_PORT_CFG.move_limit : Fld := ⟨0xA0100, 16, 8, 0x4, 0, .rw, 0x10, .const⟩

-- FT_PORT_QUAR (chapter 09)
def Reg.FT_PORT_QUAR.quar_s : Fld := ⟨0xA0180, 0, 12, 0x4, 0, .rw, 0x3C, .const⟩
def Reg.FT_PORT_QUAR.quarantined : Fld := ⟨0xA0180, 16, 1, 0x4, 0, .rv, 0x0, .const⟩
def Reg.FT_PORT_QUAR.release : Fld := ⟨0xA0180, 17, 1, 0x4, 0, .wo, 0x0, .const⟩

-- FT_STAT_LEARN (chapter 09)
def Reg.FT_STAT_LEARN.value : Fld := ⟨0xA0200, 0, 32, 0, 0, .rc, 0x0, .const⟩

-- FT_STAT_LEARN_MISS (chapter 09)
def Reg.FT_STAT_LEARN_MISS.value : Fld := ⟨0xA0204, 0, 32, 0, 0, .rc, 0x0, .const⟩

-- FT_STAT_L2_FULL (chapter 09)
def Reg.FT_STAT_L2_FULL.value : Fld := ⟨0xA0208, 0, 32, 0, 0, .rc, 0x0, .const⟩

-- FT_STAT_EVICT (chapter 09)
def Reg.FT_STAT_EVICT.value : Fld := ⟨0xA020C, 0, 32, 0, 0, .rc, 0x0, .const⟩

-- FT_STAT_MOVE (chapter 09)
def Reg.FT_STAT_MOVE.value : Fld := ⟨0xA0210, 0, 32, 0, 0, .rc, 0x0, .const⟩

-- FT_STAT_CONFLICT (chapter 09)
def Reg.FT_STAT_CONFLICT.value : Fld := ⟨0xA0214, 0, 32, 0, 0, .rc, 0x0, .const⟩

-- FT_STAT_STATIC_VIOL (chapter 09)
def Reg.FT_STAT_STATIC_VIOL.value : Fld := ⟨0xA0218, 0, 32, 0, 0, .rc, 0x0, .const⟩

-- FT_STAT_AGED (chapter 09)
def Reg.FT_STAT_AGED.value : Fld := ⟨0xA021C, 0, 32, 0, 0, .rc, 0x0, .const⟩

-- FT_STAT_QUAR_SKIP (chapter 09)
def Reg.FT_STAT_QUAR_SKIP.value : Fld := ⟨0xA0220, 0, 32, 0, 0, .rc, 0x0, .const⟩

-- FT_STAT_FLOOD (chapter 09)
def Reg.FT_STAT_FLOOD.value : Fld := ⟨0xA0224, 0, 32, 0, 0, .rc, 0x0, .const⟩

-- FT_STAT_SAME_PORT (chapter 09)
def Reg.FT_STAT_SAME_PORT.value : Fld := ⟨0xA0228, 0, 32, 0, 0, .rc, 0x0, .const⟩

-- FT_STAT_VLAN_DROP (chapter 09)
def Reg.FT_STAT_VLAN_DROP.value : Fld := ⟨0xA022C, 0, 32, 0, 0, .rc, 0x0, .const⟩

-- FT_STAT_DISCARD_HIT (chapter 09)
def Reg.FT_STAT_DISCARD_HIT.value : Fld := ⟨0xA0230, 0, 32, 0, 0, .rc, 0x0, .const⟩

-- FT_STAT_LPM_MISS (chapter 09)
def Reg.FT_STAT_LPM_MISS.value : Fld := ⟨0xA0234, 0, 32, 0, 0, .rc, 0x0, .const⟩

-- FT_STAT_TTL (chapter 09)
def Reg.FT_STAT_TTL.value : Fld := ⟨0xA0238, 0, 32, 0, 0, .rc, 0x0, .const⟩

-- FT_STAT_BAD_ENTRY (chapter 09)
def Reg.FT_STAT_BAD_ENTRY.value : Fld := ⟨0xA023C, 0, 32, 0, 0, .rc, 0x0, .const⟩

-- FT_STAT_MEM_UNC (chapter 09)
def Reg.FT_STAT_MEM_UNC.value : Fld := ⟨0xA0240, 0, 32, 0, 0, .rc, 0x0, .const⟩

-- FT_STAT_ROUTED (chapter 09)
def Reg.FT_STAT_ROUTED.value : Fld := ⟨0xA0244, 0, 32, 0, 0, .rc, 0x0, .const⟩

-- PE_CTRL (chapter 10)
def Reg.PE_CTRL.en : Fld := ⟨0xB0000, 0, 1, 0, 0, .rw, 0x0, .const⟩
def Reg.PE_CTRL.ovr_action : Fld := ⟨0xB0000, 1, 1, 0, 0, .rw, 0x0, .const⟩
def Reg.PE_CTRL.max_slots : Fld := ⟨0xB0000, 8, 10, 0, 0, .rw, 0x80, .const⟩

-- PE_STATUS (chapter 10)
def Reg.PE_STATUS.active : Fld := ⟨0xB0004, 0, 1, 0, 0, .rv, 0x0, .const⟩
def Reg.PE_STATUS.ready0 : Fld := ⟨0xB0004, 1, 1, 0, 0, .rv, 0x0, .const⟩
def Reg.PE_STATUS.ready1 : Fld := ⟨0xB0004, 2, 1, 0, 0, .rv, 0x0, .const⟩
def Reg.PE_STATUS.drain0 : Fld := ⟨0xB0004, 3, 1, 0, 0, .rv, 0x0, .const⟩
def Reg.PE_STATUS.drain1 : Fld := ⟨0xB0004, 4, 1, 0, 0, .rv, 0x0, .const⟩
def Reg.PE_STATUS.loading : Fld := ⟨0xB0004, 5, 1, 0, 0, .rv, 0x0, .const⟩
def Reg.PE_STATUS.halted : Fld := ⟨0xB0004, 8, 5, 0, 0, .rv, 0x0, .const⟩

-- PE_BANK_INFO (chapter 10)
def Reg.PE_BANK_INFO.n_words : Fld := ⟨0xB0008, 0, 16, 0x4, 0, .rv, 0x0, .const⟩
def Reg.PE_BANK_INFO.worst_slots : Fld := ⟨0xB0008, 16, 10, 0x4, 0, .rv, 0x0, .const⟩

-- PE_RESULT_USED (chapter 10)
def Reg.PE_RESULT_USED.used : Fld := ⟨0xB0010, 0, 9, 0, 0, .rv, 0x0, .const⟩

-- PE_INT_STATUS (chapter 10)
def Reg.PE_INT_STATUS.event : Fld := ⟨0xB0020, 0, 6, 0, 0, .w1c, 0x0, .const⟩

-- PE_INT_EN (chapter 10)
def Reg.PE_INT_EN.enable : Fld := ⟨0xB0024, 0, 6, 0, 0, .rw, 0x0, .const⟩

-- PE_LAST_DROP (chapter 10)
def Reg.PE_LAST_DROP.code : Fld := ⟨0xB0028, 0, 8, 0, 0, .rv, 0x0, .const⟩
def Reg.PE_LAST_DROP.input : Fld := ⟨0xB0028, 8, 5, 0, 0, .rv, 0x0, .const⟩
def Reg.PE_LAST_DROP.pass : Fld := ⟨0xB0028, 13, 2, 0, 0, .rv, 0x0, .const⟩
def Reg.PE_LAST_DROP.pc : Fld := ⟨0xB0028, 16, 14, 0, 0, .rv, 0x0, .const⟩

-- PE_ENG_STATUS (chapter 10)
def Reg.PE_ENG_STATUS.busy : Fld := ⟨0xB0100, 0, 1, 0x4, 0, .rv, 0x0, .const⟩
def Reg.PE_ENG_STATUS.halted : Fld := ⟨0xB0100, 1, 1, 0x4, 0, .rv, 0x0, .const⟩
def Reg.PE_ENG_STATUS.detached : Fld := ⟨0xB0100, 2, 1, 0x4, 0, .rv, 0x0, .const⟩
def Reg.PE_ENG_STATUS.pc : Fld := ⟨0xB0100, 4, 14, 0x4, 0, .rv, 0x0, .const⟩
def Reg.PE_ENG_STATUS.input : Fld := ⟨0xB0100, 18, 5, 0x4, 0, .rv, 0x0, .const⟩
def Reg.PE_ENG_STATUS.pass : Fld := ⟨0xB0100, 23, 2, 0x4, 0, .rv, 0x0, .const⟩
def Reg.PE_ENG_STATUS.bank : Fld := ⟨0xB0100, 25, 1, 0x4, 0, .rv, 0x0, .const⟩

-- PE_STAT_PASS (chapter 10)
def Reg.PE_STAT_PASS.value : Fld := ⟨0xB0200, 0, 32, 0, 0, .rc, 0x0, .const⟩

-- PE_STAT_DROP (chapter 10)
def Reg.PE_STAT_DROP.value : Fld := ⟨0xB0204, 0, 32, 0, 0, .rc, 0x0, .const⟩

-- PE_STAT_RCIRC (chapter 10)
def Reg.PE_STAT_RCIRC.value : Fld := ⟨0xB0208, 0, 32, 0, 0, .rc, 0x0, .const⟩

-- PE_STAT_RCIRC_LIMIT (chapter 10)
def Reg.PE_STAT_RCIRC_LIMIT.value : Fld := ⟨0xB020C, 0, 32, 0, 0, .rc, 0x0, .const⟩

-- PE_STAT_RCIRC_BAD (chapter 10)
def Reg.PE_STAT_RCIRC_BAD.value : Fld := ⟨0xB0210, 0, 32, 0, 0, .rc, 0x0, .const⟩

-- PE_STAT_OVERRUN (chapter 10)
def Reg.PE_STAT_OVERRUN.value : Fld := ⟨0xB0214, 0, 32, 0, 0, .rc, 0x0, .const⟩

-- PE_STAT_WIN_OVER (chapter 10)
def Reg.PE_STAT_WIN_OVER.value : Fld := ⟨0xB0218, 0, 32, 0, 0, .rc, 0x0, .const⟩

-- PE_STAT_LKT_OVER (chapter 10)
def Reg.PE_STAT_LKT_OVER.value : Fld := ⟨0xB021C, 0, 32, 0, 0, .rc, 0x0, .const⟩

-- PE_STAT_DISABLED (chapter 10)
def Reg.PE_STAT_DISABLED.value : Fld := ⟨0xB0220, 0, 32, 0, 0, .rc, 0x0, .const⟩

-- PE_STAT_DBG_DISCARD (chapter 10)
def Reg.PE_STAT_DBG_DISCARD.value : Fld := ⟨0xB0224, 0, 32, 0, 0, .rc, 0x0, .const⟩

-- PE_STAT_EXC (chapter 10)
def Reg.PE_STAT_EXC.value : Fld := ⟨0xB0228, 0, 32, 0, 0, .rc, 0x0, .const⟩

-- PE_STAT_MAX_SLOTS (chapter 10)
def Reg.PE_STAT_MAX_SLOTS.value : Fld := ⟨0xB022C, 0, 32, 0, 0, .rc, 0x0, .const⟩

-- PE_STAT_SLOTS (chapter 10)
def Reg.PE_STAT_SLOTS.value : Fld := ⟨0xB0230, 0, 64, 0, 0, .rc, 0x0, .const⟩

-- PE_DBG_SEL (chapter 10)
def Reg.PE_DBG_SEL.engine : Fld := ⟨0xB0300, 0, 5, 0, 0, .rw, 0x0, .const⟩

-- PE_DBG_CTRL (chapter 10)
def Reg.PE_DBG_CTRL.halt : Fld := ⟨0xB0304, 0, 1, 0, 0, .wo, 0x0, .const⟩
def Reg.PE_DBG_CTRL.resume : Fld := ⟨0xB0304, 1, 1, 0, 0, .wo, 0x0, .const⟩
def Reg.PE_DBG_CTRL.step : Fld := ⟨0xB0304, 2, 1, 0, 0, .wo, 0x0, .const⟩

-- PE_DBG_STATE (chapter 10)
def Reg.PE_DBG_STATE.halted : Fld := ⟨0xB0308, 0, 1, 0, 0, .rv, 0x0, .const⟩
def Reg.PE_DBG_STATE.detached : Fld := ⟨0xB0308, 1, 1, 0, 0, .rv, 0x0, .const⟩
def Reg.PE_DBG_STATE.cause : Fld := ⟨0xB0308, 2, 2, 0, 0, .rv, 0x0, .const⟩
def Reg.PE_DBG_STATE.bp : Fld := ⟨0xB0308, 4, 2, 0, 0, .rv, 0x0, .const⟩
def Reg.PE_DBG_STATE.pc : Fld := ⟨0xB0308, 6, 14, 0, 0, .rv, 0x0, .const⟩
def Reg.PE_DBG_STATE.slots : Fld := ⟨0xB0308, 20, 10, 0, 0, .rv, 0x0, .const⟩

-- PE_DBG_C (chapter 10)
def Reg.PE_DBG_C.c : Fld := ⟨0xB030C, 0, 10, 0, 0, .rw, 0x0, .const⟩

-- PE_BP (chapter 10)
def Reg.PE_BP.addr : Fld := ⟨0xB0310, 0, 14, 0x4, 0, .rw, 0x0, .const⟩
def Reg.PE_BP.input : Fld := ⟨0xB0310, 14, 5, 0x4, 0, .rw, 0x0, .const⟩
def Reg.PE_BP.input_en : Fld := ⟨0xB0310, 19, 1, 0x4, 0, .rw, 0x0, .const⟩
def Reg.PE_BP.pass : Fld := ⟨0xB0310, 20, 2, 0x4, 0, .rw, 0x0, .const⟩
def Reg.PE_BP.pass_en : Fld := ⟨0xB0310, 22, 1, 0x4, 0, .rw, 0x0, .const⟩
def Reg.PE_BP.bank : Fld := ⟨0xB0310, 23, 1, 0x4, 0, .rw, 0x0, .const⟩
def Reg.PE_BP.en : Fld := ⟨0xB0310, 31, 1, 0x4, 0, .rw, 0x0, .const⟩

-- PE_DBG_G (chapter 10)
def Reg.PE_DBG_G.value : Fld := ⟨0xB0340, 0, 32, 0x4, 0, .rw, 0x0, .const⟩

-- PE_DBG_M (chapter 10)
def Reg.PE_DBG_M.value : Fld := ⟨0xB0380, 0, 32, 0x4, 0, .rw, 0x0, .const⟩

-- CL_CTRL (chapter 11)
def Reg.CL_CTRL.en : Fld := ⟨0xC0000, 0, 1, 0, 0, .rw, 0x0, .const⟩

-- CL_TURN_STATUS (chapter 11)
def Reg.CL_TURN_STATUS.current : Fld := ⟨0xC0004, 0, 16, 0, 0, .rv, 0x0, .const⟩
def Reg.CL_TURN_STATUS.open_ : Fld := ⟨0xC0004, 16, 1, 0, 0, .rv, 0x0, .const⟩
def Reg.CL_TURN_STATUS.pending : Fld := ⟨0xC0004, 17, 1, 0, 0, .rv, 0x0, .const⟩
def Reg.CL_TURN_STATUS.live : Fld := ⟨0xC0004, 18, 3, 0, 0, .rv, 0x1, .const⟩
def Reg.CL_TURN_STATUS.sweeping : Fld := ⟨0xC0004, 21, 1, 0, 0, .rv, 0x0, .const⟩

-- CL_ENTRY_USE (chapter 11)
def Reg.CL_ENTRY_USE.used : Fld := ⟨0xC0008, 0, 14, 0, 0, .rv, 0x0, .const⟩
def Reg.CL_ENTRY_USE.dying : Fld := ⟨0xC0008, 16, 14, 0, 0, .rv, 0x0, .const⟩

-- CL_STAGED (chapter 11)
def Reg.CL_STAGED.adds : Fld := ⟨0xC000C, 0, 14, 0, 0, .rv, 0x0, .const⟩
def Reg.CL_STAGED.dels : Fld := ⟨0xC000C, 16, 14, 0, 0, .rv, 0x0, .const⟩

-- CL_DRAIN_TO (chapter 11)
def Reg.CL_DRAIN_TO.ms : Fld := ⟨0xC0010, 0, 14, 0, 0, .rw, 0x64, .const⟩

-- CL_MISS_ACT (chapter 11)
def Reg.CL_MISS_ACT.a0 : Fld := ⟨0xC0018, 0, 64, 0, 0, .rwt, 0x1, .const⟩

-- CL_INT_STATUS (chapter 11)
def Reg.CL_INT_STATUS.event : Fld := ⟨0xC0020, 0, 6, 0, 0, .w1c, 0x0, .const⟩

-- CL_INT_EN (chapter 11)
def Reg.CL_INT_EN.enable : Fld := ⟨0xC0024, 0, 6, 0, 0, .rw, 0x0, .const⟩

-- CL_TURN_FLIGHT (chapter 11)
def Reg.CL_TURN_FLIGHT.turn : Fld := ⟨0xC0040, 0, 16, 0x4, 0, .rv, 0x0, .const⟩
def Reg.CL_TURN_FLIGHT.frames : Fld := ⟨0xC0040, 16, 16, 0x4, 0, .rv, 0x0, .const⟩

-- CL_HIT_rule_id (chapter 11)
def Reg.CL_HIT_rule_id.value : Fld := ⟨0xC0060, 0, 16, 0, 0, .rw, 0x0, .const⟩

-- CL_HIT_hits (chapter 11)
def Reg.CL_HIT_hits.value : Fld := ⟨0xC0064, 0, 32, 0, 0, .rc, 0x0, .const⟩

-- CL_STAT_DECIDE (chapter 11)
def Reg.CL_STAT_DECIDE.value : Fld := ⟨0xC0100, 0, 32, 0, 0, .rc, 0x0, .const⟩

-- CL_STAT_HIT (chapter 11)
def Reg.CL_STAT_HIT.value : Fld := ⟨0xC0104, 0, 32, 0, 0, .rc, 0x0, .const⟩

-- CL_STAT_MISS (chapter 11)
def Reg.CL_STAT_MISS.value : Fld := ⟨0xC0108, 0, 32, 0, 0, .rc, 0x0, .const⟩

-- CL_STAT_DROP (chapter 11)
def Reg.CL_STAT_DROP.value : Fld := ⟨0xC010C, 0, 32, 0, 0, .rc, 0x0, .const⟩

-- CL_STAT_ROUND (chapter 11)
def Reg.CL_STAT_ROUND.value : Fld := ⟨0xC0110, 0, 32, 0, 0, .rc, 0x0, .const⟩

-- CL_STAT_DRAIN_DROP (chapter 11)
def Reg.CL_STAT_DRAIN_DROP.value : Fld := ⟨0xC0114, 0, 32, 0, 0, .rc, 0x0, .const⟩

-- CL_STAT_COMMIT (chapter 11)
def Reg.CL_STAT_COMMIT.value : Fld := ⟨0xC0118, 0, 32, 0, 0, .rc, 0x0, .const⟩

-- CL_STAT_STALL (chapter 11)
def Reg.CL_STAT_STALL.value : Fld := ⟨0xC011C, 0, 32, 0, 0, .rc, 0x0, .const⟩

-- CL_STAT_RWT_IGN (chapter 11)
def Reg.CL_STAT_RWT_IGN.value : Fld := ⟨0xC0120, 0, 32, 0, 0, .rc, 0x0, .const⟩

-- CL_STAT_MEM_UNC (chapter 11)
def Reg.CL_STAT_MEM_UNC.value : Fld := ⟨0xC0124, 0, 32, 0, 0, .rc, 0x0, .const⟩

-- CK_CTRL (chapter 12)
def Reg.CK_CTRL.en : Fld := ⟨0xE0000, 0, 1, 0, 0, .rw, 0x0, .const⟩

-- CK_STATUS (chapter 12)
def Reg.CK_STATUS.valid : Fld := ⟨0xE0004, 0, 8, 0, 0, .rv, 0x0, .const⟩

-- CK_INT_STATUS (chapter 12)
def Reg.CK_INT_STATUS.event : Fld := ⟨0xE0020, 0, 5, 0, 0, .w1c, 0x0, .const⟩

-- CK_INT_EN (chapter 12)
def Reg.CK_INT_EN.enable : Fld := ⟨0xE0024, 0, 5, 0, 0, .rw, 0x0, .const⟩

-- CK_STAT_STORE_REPAIR (chapter 12)
def Reg.CK_STAT_STORE_REPAIR.value : Fld := ⟨0xE0100, 0, 32, 0, 0, .rc, 0x0, .const⟩

-- CK_STAT_STORE_INVALID (chapter 12)
def Reg.CK_STAT_STORE_INVALID.value : Fld := ⟨0xE0104, 0, 32, 0, 0, .rc, 0x0, .const⟩

-- CK_CH_LAST (chapter 12)
def Reg.CK_CH_LAST.last : Fld := ⟨0xE0200, 0, 16, 0x4, 0, .rv, 0xFFFF, .const⟩
def Reg.CK_CH_LAST.synced : Fld := ⟨0xE0200, 16, 1, 0x4, 0, .rv, 0x0, .const⟩

-- CK_CH_OK (chapter 12)
def Reg.CK_CH_OK.value : Fld := ⟨0xE1000, 0, 32, 0x20, 0, .rc, 0x0, .const⟩

-- CK_CH_CRC_FAIL (chapter 12)
def Reg.CK_CH_CRC_FAIL.value : Fld := ⟨0xE1004, 0, 32, 0x20, 0, .rc, 0x0, .const⟩

-- CK_CH_SHORT (chapter 12)
def Reg.CK_CH_SHORT.value : Fld := ⟨0xE1008, 0, 32, 0x20, 0, .rc, 0x0, .const⟩

-- CK_CH_REPEAT (chapter 12)
def Reg.CK_CH_REPEAT.value : Fld := ⟨0xE100C, 0, 32, 0x20, 0, .rc, 0x0, .const⟩

-- CK_CH_SEQ_ERR (chapter 12)
def Reg.CK_CH_SEQ_ERR.value : Fld := ⟨0xE1010, 0, 32, 0x20, 0, .rc, 0x0, .const⟩

-- CK_CH_LOST (chapter 12)
def Reg.CK_CH_LOST.value : Fld := ⟨0xE1014, 0, 32, 0x20, 0, .rc, 0x0, .const⟩

-- CK_CH_GEN (chapter 12)
def Reg.CK_CH_GEN.value : Fld := ⟨0xE1018, 0, 32, 0x20, 0, .rc, 0x0, .const⟩

-- CK_CH_BAD (chapter 12)
def Reg.CK_CH_BAD.value : Fld := ⟨0xE101C, 0, 32, 0x20, 0, .rc, 0x0, .const⟩

-- CX_CTRL (chapter 13)
def Reg.CX_CTRL.en : Fld := ⟨0xF0000, 0, 1, 0, 0, .rw, 0x0, .const⟩
def Reg.CX_CTRL.level : Fld := ⟨0xF0000, 1, 2, 0, 0, .rw, 0x1, .const⟩
def Reg.CX_CTRL.level_min : Fld := ⟨0xF0000, 3, 2, 0, 0, .rwl, 0x0, .const⟩

-- CX_STATUS (chapter 13)
def Reg.CX_STATUS.level_eff : Fld := ⟨0xF0004, 0, 2, 0, 0, .rv, 0x1, .const⟩
def Reg.CX_STATUS.erased : Fld := ⟨0xF0004, 2, 1, 0, 0, .rv, 0x0, .const⟩
def Reg.CX_STATUS.busy : Fld := ⟨0xF0004, 3, 4, 0, 0, .rv, 0x0, .const⟩
def Reg.CX_STATUS.loaded : Fld := ⟨0xF0004, 16, 10, 0, 0, .rv, 0x0, .const⟩

-- CX_THRU (chapter 13)
def Reg.CX_THRU.mbps : Fld := ⟨0xF0008, 0, 32, 0, 0, .rv, 0x0, .const⟩

-- CX_PN_THRESH (chapter 13)
def Reg.CX_PN_THRESH.pn : Fld := ⟨0xF000C, 0, 32, 0, 0, .rw, 0xC0000000, .const⟩

-- CX_XPN_THRESH_HI (chapter 13)
def Reg.CX_XPN_THRESH_HI.xpn_hi : Fld := ⟨0xF0010, 0, 32, 0, 0, .rw, 0xC0000000, .const⟩

-- CX_FV_WEAR (chapter 13)
def Reg.CX_FV_WEAR.wear : Fld := ⟨0xF0014, 0, 16, 0, 0, .rv, 0x0, .const⟩
def Reg.CX_FV_WEAR.pace_exceeded : Fld := ⟨0xF0014, 16, 1, 0, 0, .rv, 0x0, .const⟩

-- CX_INT_STATUS (chapter 13)
def Reg.CX_INT_STATUS.event : Fld := ⟨0xF0020, 0, 11, 0, 0, .w1c, 0x0, .const⟩

-- CX_INT_EN (chapter 13)
def Reg.CX_INT_EN.enable : Fld := ⟨0xF0024, 0, 11, 0, 0, .rw, 0x0, .const⟩

-- CX_QFILL (chapter 13)
def Reg.CX_QFILL.fill : Fld := ⟨0xF0040, 0, 7, 0x4, 0, .rv, 0x0, .const⟩

-- CX_HOLD (chapter 13)
def Reg.CX_HOLD.used : Fld := ⟨0xF0060, 0, 9, 0x4, 0, .rv, 0x0, .const⟩

-- CX_STAT_TAG_FAIL (chapter 13)
def Reg.CX_STAT_TAG_FAIL.value : Fld := ⟨0xF0100, 0, 32, 0, 0, .rc, 0x0, .const⟩

-- CX_STAT_VOID (chapter 13)
def Reg.CX_STAT_VOID.value : Fld := ⟨0xF0104, 0, 32, 0, 0, .rc, 0x0, .const⟩

-- CX_STAT_QFULL (chapter 13)
def Reg.CX_STAT_QFULL.value : Fld := ⟨0xF0108, 0, 32, 0, 0, .rc, 0x0, .const⟩

-- CX_STAT_PROFILE_OK (chapter 13)
def Reg.CX_STAT_PROFILE_OK.value : Fld := ⟨0xF010C, 0, 32, 0, 0, .rc, 0x0, .const⟩

-- CX_STAT_PROFILE_BAD (chapter 13)
def Reg.CX_STAT_PROFILE_BAD.value : Fld := ⟨0xF0110, 0, 32, 0, 0, .rc, 0x0, .const⟩

-- CX_STAT_REQ (chapter 13)
def Reg.CX_STAT_REQ.value : Fld := ⟨0xF0114, 0, 32, 0, 0, .rc, 0x0, .const⟩

-- CX_SEC_entry (chapter 13)
def Reg.CX_SEC_entry.value : Fld := ⟨0xF0200, 0, 10, 0, 0, .rw, 0x0, .const⟩

-- CX_SEC_ok (chapter 13)
def Reg.CX_SEC_ok.value : Fld := ⟨0xF0204, 0, 32, 0, 0, .rc, 0x0, .const⟩

-- CX_SEC_duplicate (chapter 13)
def Reg.CX_SEC_duplicate.value : Fld := ⟨0xF0208, 0, 32, 0, 0, .rc, 0x0, .const⟩

-- CX_SEC_replay (chapter 13)
def Reg.CX_SEC_replay.value : Fld := ⟨0xF020C, 0, 32, 0, 0, .rc, 0x0, .const⟩

-- CX_SEC_auth_fail (chapter 13)
def Reg.CX_SEC_auth_fail.value : Fld := ⟨0xF0210, 0, 32, 0, 0, .rc, 0x0, .const⟩

-- CX_SEC_short (chapter 13)
def Reg.CX_SEC_short.value : Fld := ⟨0xF0214, 0, 32, 0, 0, .rc, 0x0, .const⟩

-- CX_SEC_lost (chapter 13)
def Reg.CX_SEC_lost.value : Fld := ⟨0xF0218, 0, 32, 0, 0, .rc, 0x0, .const⟩

-- CX_MS_in_ok (chapter 13)
def Reg.CX_MS_in_ok.value : Fld := ⟨0xF0400, 0, 32, 0x40, 0, .rc, 0x0, .const⟩

-- CX_MS_in_invalid (chapter 13)
def Reg.CX_MS_in_invalid.value : Fld := ⟨0xF0404, 0, 32, 0x40, 0, .rc, 0x0, .const⟩

-- CX_MS_in_not_valid (chapter 13)
def Reg.CX_MS_in_not_valid.value : Fld := ⟨0xF0408, 0, 32, 0x40, 0, .rc, 0x0, .const⟩

-- CX_MS_in_late (chapter 13)
def Reg.CX_MS_in_late.value : Fld := ⟨0xF040C, 0, 32, 0x40, 0, .rc, 0x0, .const⟩

-- CX_MS_in_no_sa (chapter 13)
def Reg.CX_MS_in_no_sa.value : Fld := ⟨0xF0410, 0, 32, 0x40, 0, .rc, 0x0, .const⟩

-- CX_MS_in_unchecked (chapter 13)
def Reg.CX_MS_in_unchecked.value : Fld := ⟨0xF0414, 0, 32, 0x40, 0, .rc, 0x0, .const⟩

-- CX_MS_in_delayed (chapter 13)
def Reg.CX_MS_in_delayed.value : Fld := ⟨0xF0418, 0, 32, 0x40, 0, .rc, 0x0, .const⟩

-- CX_MS_in_untagged (chapter 13)
def Reg.CX_MS_in_untagged.value : Fld := ⟨0xF041C, 0, 32, 0x40, 0, .rc, 0x0, .const⟩

-- CX_MS_in_bad_tag (chapter 13)
def Reg.CX_MS_in_bad_tag.value : Fld := ⟨0xF0420, 0, 32, 0x40, 0, .rc, 0x0, .const⟩

-- CX_MS_out_protected (chapter 13)
def Reg.CX_MS_out_protected.value : Fld := ⟨0xF0424, 0, 32, 0x40, 0, .rc, 0x0, .const⟩

-- CX_MS_out_encrypted (chapter 13)
def Reg.CX_MS_out_encrypted.value : Fld := ⟨0xF0428, 0, 32, 0x40, 0, .rc, 0x0, .const⟩

-- CX_MS_out_untagged (chapter 13)
def Reg.CX_MS_out_untagged.value : Fld := ⟨0xF042C, 0, 32, 0x40, 0, .rc, 0x0, .const⟩

-- CX_MS_out_exhausted (chapter 13)
def Reg.CX_MS_out_exhausted.value : Fld := ⟨0xF0430, 0, 32, 0x40, 0, .rc, 0x0, .const⟩

-- TF_CTRL (chapter 14)
def Reg.TF_CTRL.en : Fld := ⟨0x100000, 0, 1, 0, 0, .rw, 0x0, .const⟩
def Reg.TF_CTRL.coord_cap : Fld := ⟨0x100000, 1, 1, 0, 0, .rwl, 0x1, .const⟩
def Reg.TF_CTRL.rra_en : Fld := ⟨0x100000, 2, 1, 0, 0, .rw, 0x1, .const⟩
def Reg.TF_CTRL.enc_en : Fld := ⟨0x100000, 3, 1, 0, 0, .rw, 0x0, .const⟩
def Reg.TF_CTRL.enc_req : Fld := ⟨0x100000, 4, 1, 0, 0, .rw, 0x0, .const⟩
def Reg.TF_CTRL.dual_sig : Fld := ⟨0x100000, 5, 1, 0, 0, .rw, 0x1, .const⟩
def Reg.TF_CTRL.rra_class : Fld := ⟨0x100000, 8, 3, 0, 0, .rw, 0x6, .const⟩

-- TF_STATUS (chapter 14)
def Reg.TF_STATUS.state : Fld := ⟨0x100004, 0, 3, 0, 0, .rv, 0x0, .const⟩
def Reg.TF_STATUS.coordinator : Fld := ⟨0x100004, 3, 1, 0, 0, .rv, 0x0, .const⟩
def Reg.TF_STATUS.device_id : Fld := ⟨0x100004, 4, 6, 0, 0, .rv, 0x0, .const⟩
def Reg.TF_STATUS.coord_id : Fld := ⟨0x100004, 10, 6, 0, 0, .rv, 0x0, .const⟩
def Reg.TF_STATUS.route_gen : Fld := ⟨0x100004, 16, 16, 0, 0, .rv, 0x0, .const⟩

-- TF_UID (chapter 14)
def Reg.TF_UID.uid : Fld := ⟨0x100008, 0, 96, 0, 0, .ro, 0x1, .const⟩

-- TF_COMPAT (chapter 14)
def Reg.TF_COMPAT.compat : Fld := ⟨0x100014, 0, 16, 0, 0, .ro, 0x100, .const⟩

-- TF_DUAL_CLASS (chapter 14)
def Reg.TF_DUAL_CLASS.mask : Fld := ⟨0x100018, 0, 8, 0, 0, .rw, 0x0, .const⟩

-- TF_LINK_TO (chapter 14)
def Reg.TF_LINK_TO.ms : Fld := ⟨0x10001C, 0, 16, 0, 0, .rw, 0xA, .const⟩

-- TF_ACK_TO (chapter 14)
def Reg.TF_ACK_TO.us : Fld := ⟨0x100020, 0, 17, 0, 0, .rw, 0x7D0, .const⟩

-- TF_NP_TO (chapter 14)
def Reg.TF_NP_TO.us : Fld := ⟨0x100024, 0, 17, 0, 0, .rw, 0x7D0, .const⟩

-- TF_REKEY_S (chapter 14)
def Reg.TF_REKEY_S.s : Fld := ⟨0x100028, 0, 16, 0, 0, .rw, 0xE10, .const⟩

-- TF_FLOOD (chapter 14)
def Reg.TF_FLOOD.mask : Fld := ⟨0x10002C, 0, 4, 0, 0, .rv, 0x0, .const⟩

-- TF_INT_STATUS (chapter 14)
def Reg.TF_INT_STATUS.event : Fld := ⟨0x100030, 0, 15, 0, 0, .w1c, 0x0, .const⟩
def Reg.TF_INT_STATUS.derr : Fld := ⟨0x100030, 16, 1, 0, 0, .w1c, 0x0, .const⟩

-- TF_INT_EN (chapter 14)
def Reg.TF_INT_EN.enable : Fld := ⟨0x100034, 0, 17, 0, 0, .rw, 0x0, .const⟩

-- TF_SLEEVE (chapter 14)
def Reg.TF_SLEEVE.force_a : Fld := ⟨0x100038, 0, 1, 0, 0, .rw, 0x0, .const⟩
def Reg.TF_SLEEVE.force_b : Fld := ⟨0x100038, 1, 1, 0, 0, .rw, 0x0, .const⟩
def Reg.TF_SLEEVE.open_a : Fld := ⟨0x100038, 2, 1, 0, 0, .rv, 0x0, .const⟩
def Reg.TF_SLEEVE.open_b : Fld := ⟨0x100038, 3, 1, 0, 0, .rv, 0x0, .const⟩

-- TF_KEY_SLOT (chapter 14)
def Reg.TF_KEY_SLOT.slot : Fld := ⟨0x10003C, 0, 9, 0, 0, .rw, 0x0, .const⟩

-- TF_LINK_CTRL (chapter 14)
def Reg.TF_LINK_CTRL.en : Fld := ⟨0x100040, 0, 1, 0x4, 0, .rw, 0x1, .const⟩

-- TF_LINK_STATUS (chapter 14)
def Reg.TF_LINK_STATUS.state : Fld := ⟨0x100050, 0, 3, 0x4, 0, .rv, 0x0, .const⟩
def Reg.TF_LINK_STATUS.encrypted : Fld := ⟨0x100050, 3, 1, 0x4, 0, .rv, 0x0, .const⟩
def Reg.TF_LINK_STATUS.neighbour : Fld := ⟨0x100050, 4, 6, 0x4, 0, .rv, 0x0, .const⟩
def Reg.TF_LINK_STATUS.retrains : Fld := ⟨0x100050, 16, 16, 0x4, 0, .rv, 0x0, .const⟩

-- TF_TRACK (chapter 14)
def Reg.TF_TRACK.posted : Fld := ⟨0x100080, 0, 11, 0x4, 0, .rv, 0x0, .const⟩
def Reg.TF_TRACK.np : Fld := ⟨0x100080, 16, 7, 0x4, 0, .rv, 0x0, .const⟩

-- TF_DERR_PUT (chapter 14)
def Reg.TF_DERR_PUT.put : Fld := ⟨0x100090, 0, 8, 0, 0, .rv, 0x0, .const⟩

-- TF_DERR_GET (chapter 14)
def Reg.TF_DERR_GET.get : Fld := ⟨0x100094, 0, 8, 0, 0, .rw, 0x0, .const⟩

-- TF_STAT_TX (chapter 14)
def Reg.TF_STAT_TX.value : Fld := ⟨0x100100, 0, 32, 0, 0, .rc, 0x0, .const⟩

-- TF_STAT_RX (chapter 14)
def Reg.TF_STAT_RX.value : Fld := ⟨0x100104, 0, 32, 0, 0, .rc, 0x0, .const⟩

-- TF_STAT_TRANSIT (chapter 14)
def Reg.TF_STAT_TRANSIT.value : Fld := ⟨0x100108, 0, 32, 0, 0, .rc, 0x0, .const⟩

-- TF_STAT_BAD (chapter 14)
def Reg.TF_STAT_BAD.value : Fld := ⟨0x10010C, 0, 32, 0, 0, .rc, 0x0, .const⟩

-- TF_STAT_HOPS (chapter 14)
def Reg.TF_STAT_HOPS.value : Fld := ⟨0x100110, 0, 32, 0, 0, .rc, 0x0, .const⟩

-- TF_STAT_NO_ROUTE (chapter 14)
def Reg.TF_STAT_NO_ROUTE.value : Fld := ⟨0x100114, 0, 32, 0, 0, .rc, 0x0, .const⟩

-- TF_STAT_FLUSH (chapter 14)
def Reg.TF_STAT_FLUSH.value : Fld := ⟨0x100118, 0, 32, 0, 0, .rc, 0x0, .const⟩

-- TF_STAT_PROT (chapter 14)
def Reg.TF_STAT_PROT.value : Fld := ⟨0x10011C, 0, 32, 0, 0, .rc, 0x0, .const⟩

-- TF_STAT_DUAL_ELIM (chapter 14)
def Reg.TF_STAT_DUAL_ELIM.value : Fld := ⟨0x100120, 0, 32, 0, 0, .rc, 0x0, .const⟩

-- TF_STAT_ENC_FAIL (chapter 14)
def Reg.TF_STAT_ENC_FAIL.value : Fld := ⟨0x100124, 0, 32, 0, 0, .rc, 0x0, .const⟩

-- TF_STAT_DERR (chapter 14)
def Reg.TF_STAT_DERR.value : Fld := ⟨0x100128, 0, 32, 0, 0, .rc, 0x0, .const⟩

-- TF_STAT_DERR_LOST (chapter 14)
def Reg.TF_STAT_DERR_LOST.value : Fld := ⟨0x10012C, 0, 32, 0, 0, .rc, 0x0, .const⟩

-- TF_STAT_LATE_RESP (chapter 14)
def Reg.TF_STAT_LATE_RESP.value : Fld := ⟨0x100130, 0, 32, 0, 0, .rc, 0x0, .const⟩

-- TF_STAT_LOCK_TO (chapter 14)
def Reg.TF_STAT_LOCK_TO.value : Fld := ⟨0x100134, 0, 32, 0, 0, .rc, 0x0, .const⟩

-- HB_ID (chapter 15)
def Reg.HB_ID.vendor : Fld := ⟨0x110000, 0, 16, 0, 0, .ro, 0x1F2C, .const⟩
def Reg.HB_ID.device : Fld := ⟨0x110000, 16, 16, 0, 0, .ro, 0x7264, .const⟩

-- HB_STATUS (chapter 15)
def Reg.HB_STATUS.link : Fld := ⟨0x110004, 0, 1, 0, 0, .rv, 0x0, .const⟩
def Reg.HB_STATUS.width : Fld := ⟨0x110004, 1, 3, 0, 0, .rv, 0x0, .const⟩
def Reg.HB_STATUS.speed : Fld := ⟨0x110004, 4, 3, 0, 0, .rv, 0x0, .const⟩
def Reg.HB_STATUS.bme : Fld := ⟨0x110004, 7, 1, 0, 0, .rv, 0x0, .const⟩
def Reg.HB_STATUS.rd_pend : Fld := ⟨0x110004, 8, 5, 0, 0, .rv, 0x0, .const⟩

-- HB_INT_STATUS (chapter 15)
def Reg.HB_INT_STATUS.event : Fld := ⟨0x110010, 0, 7, 0, 0, .w1c, 0x0, .const⟩

-- HB_INT_EN (chapter 15)
def Reg.HB_INT_EN.enable : Fld := ⟨0x110014, 0, 7, 0, 0, .rw, 0x0, .const⟩

-- HB_RD_WAIT (chapter 15)
def Reg.HB_RD_WAIT.us : Fld := ⟨0x110018, 0, 15, 0, 0, .rw, 0x3E8, .const⟩

-- HB_LAST_ERR (chapter 15)
def Reg.HB_LAST_ERR.window : Fld := ⟨0x110020, 0, 4, 0, 0, .rv, 0x0, .const⟩
def Reg.HB_LAST_ERR.atomic : Fld := ⟨0x110020, 4, 1, 0, 0, .rv, 0x0, .const⟩
def Reg.HB_LAST_ERR.status : Fld := ⟨0x110020, 16, 16, 0, 0, .rv, 0x0, .const⟩

-- HB_LAST_ERR_OFF (chapter 15)
def Reg.HB_LAST_ERR_OFF.offset : Fld := ⟨0x110024, 0, 32, 0, 0, .rv, 0x0, .const⟩

-- HB_WIN_CFG (chapter 15)
def Reg.HB_WIN_CFG.en : Fld := ⟨0x110100, 0, 1, 0x8, 0, .rw, 0x0, .const⟩
def Reg.HB_WIN_CFG.prefetch : Fld := ⟨0x110100, 1, 1, 0x8, 0, .rw, 0x0, .const⟩
def Reg.HB_WIN_CFG.lane : Fld := ⟨0x110100, 2, 1, 0x8, 0, .rw, 0x0, .const⟩
def Reg.HB_WIN_CFG.device : Fld := ⟨0x110100, 3, 6, 0x8, 0, .rw, 0x0, .const⟩
def Reg.HB_WIN_CFG.size_log2 : Fld := ⟨0x110100, 9, 5, 0x8, 0, .rw, 0x1A, .const⟩

-- HB_WIN_BASE (chapter 15)
def Reg.HB_WIN_BASE.base : Fld := ⟨0x110104, 0, 26, 0x8, 0, .rw, 0x0, .const⟩

-- HB_IRQ_MAP (chapter 15)
def Reg.HB_IRQ_MAP.vector : Fld := ⟨0x110200, 0, 6, 0x4, 0, .rw, 0x0, .index⟩
def Reg.HB_IRQ_MAP.msix_en : Fld := ⟨0x110200, 6, 1, 0x4, 0, .rw, 0x0, .const⟩
def Reg.HB_IRQ_MAP.pins : Fld := ⟨0x110200, 7, 4, 0x4, 0, .rw, 0x0, .const⟩

-- HB_PIN_STATUS (chapter 15)
def Reg.HB_PIN_STATUS.asserted : Fld := ⟨0x110300, 0, 4, 0, 0, .rv, 0x0, .const⟩

-- HB_STAT_RD_DEFER (chapter 15)
def Reg.HB_STAT_RD_DEFER.value : Fld := ⟨0x110500, 0, 32, 0, 0, .rc, 0x0, .const⟩

-- HB_STAT_RD_DISCARD (chapter 15)
def Reg.HB_STAT_RD_DISCARD.value : Fld := ⟨0x110504, 0, 32, 0, 0, .rc, 0x0, .const⟩

-- HB_STAT_REFUSED (chapter 15)
def Reg.HB_STAT_REFUSED.value : Fld := ⟨0x110508, 0, 32, 0, 0, .rc, 0x0, .const⟩

-- HB_STAT_ATOMIC_FAIL (chapter 15)
def Reg.HB_STAT_ATOMIC_FAIL.value : Fld := ⟨0x11050C, 0, 32, 0, 0, .rc, 0x0, .const⟩

-- HB_STAT_RING_DROP (chapter 15)
def Reg.HB_STAT_RING_DROP.value : Fld := ⟨0x110510, 0, 32, 0, 0, .rc, 0x0, .const⟩

-- SYS_ID (chapter 16)
def Reg.SYS_ID.part : Fld := ⟨0x0, 0, 16, 0, 0, .ro, 0x7264, .const⟩
def Reg.SYS_ID.grade : Fld := ⟨0x0, 16, 8, 0, 0, .ro, 0x45, .const⟩
def Reg.SYS_ID.rev : Fld := ⟨0x0, 24, 5, 0, 0, .ro, 0x0, .const⟩

-- SYS_STATUS (chapter 16)
def Reg.SYS_STATUS.step : Fld := ⟨0x4, 0, 4, 0, 0, .rv, 0x0, .const⟩
def Reg.SYS_STATUS.started : Fld := ⟨0x4, 4, 1, 0, 0, .rv, 0x0, .const⟩
def Reg.SYS_STATUS.recovery : Fld := ⟨0x4, 5, 1, 0, 0, .rv, 0x0, .const⟩
def Reg.SYS_STATUS.warm : Fld := ⟨0x4, 6, 1, 0, 0, .rv, 0x0, .const⟩
def Reg.SYS_STATUS.lifecycle : Fld := ⟨0x4, 7, 3, 0, 0, .rv, 0x0, .const⟩
def Reg.SYS_STATUS.device_id : Fld := ⟨0x4, 10, 6, 0, 0, .rv, 0x0, .const⟩

-- SYS_RESET_CAUSE (chapter 16)
def Reg.SYS_RESET_CAUSE.cause : Fld := ⟨0x8, 0, 4, 0, 0, .rv, 0x0, .const⟩
def Reg.SYS_RESET_CAUSE.fail_step : Fld := ⟨0x8, 4, 4, 0, 0, .rv, 0x0, .const⟩

-- SYS_START_COUNT (chapter 16)
def Reg.SYS_START_COUNT.count : Fld := ⟨0xC, 0, 32, 0, 0, .rv, 0x0, .const⟩

-- SYS_SCRATCH (chapter 16)
def Reg.SYS_SCRATCH.value : Fld := ⟨0x20, 0, 32, 0x4, 0, .rw, 0x0, .const⟩

-- SYS_INT_STATUS (chapter 16)
def Reg.SYS_INT_STATUS.event : Fld := ⟨0x30, 0, 4, 0, 0, .w1c, 0x0, .const⟩

-- SYS_INT_EN (chapter 16)
def Reg.SYS_INT_EN.enable : Fld := ⟨0x34, 0, 4, 0, 0, .rw, 0x0, .const⟩

-- CMD_CTRL (chapter 16)
def Reg.CMD_CTRL.pcie_en : Fld := ⟨0x120000, 0, 1, 0, 0, .rw, 0x1, .const⟩
def Reg.CMD_CTRL.spi_en : Fld := ⟨0x120000, 1, 1, 0, 0, .rw, 0x1, .const⟩
def Reg.CMD_CTRL.inb_en : Fld := ⟨0x120000, 2, 1, 0, 0, .rw, 0x0, .const⟩
def Reg.CMD_CTRL.fabric_en : Fld := ⟨0x120000, 3, 1, 0, 0, .rw, 0x1, .const⟩

-- CMD_STATUS (chapter 16)
def Reg.CMD_STATUS.long_out : Fld := ⟨0x120004, 0, 9, 0, 0, .rv, 0x0, .const⟩
def Reg.CMD_STATUS.spi_cmd : Fld := ⟨0x120004, 9, 1, 0, 0, .rv, 0x0, .const⟩
def Reg.CMD_STATUS.spi_reply : Fld := ⟨0x120004, 10, 1, 0, 0, .rv, 0x0, .const⟩
def Reg.CMD_STATUS.nonces : Fld := ⟨0x120004, 16, 3, 0, 0, .rv, 0x0, .const⟩

-- CMD_ACL (chapter 16)
def Reg.CMD_ACL.pcie : Fld := ⟨0x120008, 0, 2, 0, 0, .rwl, 0x3, .const⟩
def Reg.CMD_ACL.spi : Fld := ⟨0x120008, 2, 2, 0, 0, .rwl, 0x3, .const⟩
def Reg.CMD_ACL.inb : Fld := ⟨0x120008, 4, 2, 0, 0, .rwl, 0x2, .const⟩
def Reg.CMD_ACL.fabric : Fld := ⟨0x120008, 6, 2, 0, 0, .rwl, 0x3, .const⟩

-- CMD_FWD_TO (chapter 16)
def Reg.CMD_FWD_TO.ms : Fld := ⟨0x12000C, 0, 16, 0, 0, .rw, 0x7D0, .const⟩

-- CMD_INT_STATUS (chapter 16)
def Reg.CMD_INT_STATUS.cq : Fld := ⟨0x120010, 0, 4, 0, 0, .w1c, 0x0, .const⟩
def Reg.CMD_INT_STATUS.evr : Fld := ⟨0x120010, 4, 2, 0, 0, .w1c, 0x0, .const⟩
def Reg.CMD_INT_STATUS.spi_reply : Fld := ⟨0x120010, 6, 1, 0, 0, .w1c, 0x0, .const⟩
def Reg.CMD_INT_STATUS.evr_ovf : Fld := ⟨0x120010, 7, 1, 0, 0, .w1c, 0x0, .const⟩
def Reg.CMD_INT_STATUS.event : Fld := ⟨0x120010, 8, 6, 0, 0, .w1c, 0x0, .const⟩

-- CMD_INT_EN (chapter 16)
def Reg.CMD_INT_EN.enable : Fld := ⟨0x120014, 0, 14, 0, 0, .rw, 0x0, .const⟩

-- CMD_INB_CFG (chapter 16)
def Reg.CMD_INB_CFG.ports : Fld := ⟨0x120020, 0, 12, 0, 0, .rw, 0x0, .const⟩
def Reg.CMD_INB_CFG.key0 : Fld := ⟨0x120020, 12, 9, 0, 0, .rw, 0x0, .const⟩
def Reg.CMD_INB_CFG.key1 : Fld := ⟨0x120020, 21, 9, 0, 0, .rw, 0x0, .const⟩

-- CMD_INB_MAC (chapter 16)
def Reg.CMD_INB_MAC.mac : Fld := ⟨0x120024, 0, 48, 0, 0, .rw, 0x0, .const⟩

-- CMD_INB_SEQ (chapter 16)
def Reg.CMD_INB_SEQ.seq : Fld := ⟨0x12002C, 0, 32, 0x4, 0, .rv, 0x0, .const⟩

-- CMD_EVT_FWD (chapter 16)
def Reg.CMD_EVT_FWD.device : Fld := ⟨0x120040, 0, 6, 0, 0, .rw, 0x0, .const⟩
def Reg.CMD_EVT_FWD.en : Fld := ⟨0x120040, 6, 1, 0, 0, .rw, 0x0, .const⟩

-- CMD_EVT_FWD_MASK (chapter 16)
def Reg.CMD_EVT_FWD_MASK.mask : Fld := ⟨0x120044, 1, 19, 0, 0, .rw, 0x0, .const⟩

-- CMD_STAT_ACCEPT (chapter 16)
def Reg.CMD_STAT_ACCEPT.value : Fld := ⟨0x120300, 0, 32, 0, 0, .rc, 0x0, .const⟩

-- CMD_STAT_DISCARD (chapter 16)
def Reg.CMD_STAT_DISCARD.value : Fld := ⟨0x120304, 0, 32, 0, 0, .rc, 0x0, .const⟩

-- CMD_STAT_DUP_TAG (chapter 16)
def Reg.CMD_STAT_DUP_TAG.value : Fld := ⟨0x120308, 0, 32, 0, 0, .rc, 0x0, .const⟩

-- CMD_STAT_DENIED (chapter 16)
def Reg.CMD_STAT_DENIED.value : Fld := ⟨0x12030C, 0, 32, 0, 0, .rc, 0x0, .const⟩

-- CMD_STAT_INB_AUTH (chapter 16)
def Reg.CMD_STAT_INB_AUTH.value : Fld := ⟨0x120310, 0, 32, 0, 0, .rc, 0x0, .const⟩

-- CMD_STAT_INB_REPLAY (chapter 16)
def Reg.CMD_STAT_INB_REPLAY.value : Fld := ⟨0x120314, 0, 32, 0, 0, .rc, 0x0, .const⟩

-- CMD_STAT_FWD_LATE (chapter 16)
def Reg.CMD_STAT_FWD_LATE.value : Fld := ⟨0x120318, 0, 32, 0, 0, .rc, 0x0, .const⟩

-- CMD_STAT_EVR_DROP (chapter 16)
def Reg.CMD_STAT_EVR_DROP.value : Fld := ⟨0x12031C, 0, 32, 0, 0, .rc, 0x0, .const⟩

-- CMD_STAT_FWD_DROP (chapter 16)
def Reg.CMD_STAT_FWD_DROP.value : Fld := ⟨0x120320, 0, 32, 0, 0, .rc, 0x0, .const⟩

-- CMD_STAT_SPI_DISCARD (chapter 16)
def Reg.CMD_STAT_SPI_DISCARD.value : Fld := ⟨0x120324, 0, 32, 0, 0, .rc, 0x0, .const⟩

-- WK_CTRL (chapter 17)
def Reg.WK_CTRL.en : Fld := ⟨0x130000, 0, 1, 0, 0, .rw, 0x1, .const⟩
def Reg.WK_CTRL.lp_en : Fld := ⟨0x130000, 1, 1, 0, 0, .rw, 0x0, .const⟩

-- WK_STATUS (chapter 17)
def Reg.WK_STATUS.state : Fld := ⟨0x130004, 0, 3, 0, 0, .rv, 0x0, .const⟩
def Reg.WK_STATUS.eligible : Fld := ⟨0x130004, 3, 1, 0, 0, .rv, 0x0, .const⟩
def Reg.WK_STATUS.last_src : Fld := ⟨0x130004, 8, 8, 0, 0, .rv, 0xFF, .const⟩
def Reg.WK_STATUS.asleep : Fld := ⟨0x130004, 16, 16, 0, 0, .rv, 0x0, .const⟩

-- WK_PWR_CFG (chapter 17)
def Reg.WK_PWR_CFG.eth_ok : Fld := ⟨0x130008, 0, 1, 0, 0, .rw, 0x0, .const⟩
def Reg.WK_PWR_CFG.tl_ok : Fld := ⟨0x130008, 1, 1, 0, 0, .rw, 0x0, .const⟩
def Reg.WK_PWR_CFG.pcie_ok : Fld := ⟨0x130008, 2, 1, 0, 0, .rw, 0x0, .const⟩
def Reg.WK_PWR_CFG.hib_en : Fld := ⟨0x130008, 3, 1, 0, 0, .rw, 0x0, .const⟩
def Reg.WK_PWR_CFG.doze_en : Fld := ⟨0x130008, 4, 1, 0, 0, .rw, 0x1, .const⟩
def Reg.WK_PWR_CFG.stby_en : Fld := ⟨0x130008, 5, 1, 0, 0, .rw, 0x1, .const⟩
def Reg.WK_PWR_CFG.idle_us : Fld := ⟨0x130008, 16, 10, 0, 0, .rw, 0x32, .const⟩

-- WK_THRESH_DOZE (chapter 17)
def Reg.WK_THRESH_DOZE.us : Fld := ⟨0x13000C, 0, 32, 0, 0, .rw, 0x1388, .const⟩

-- WK_THRESH_STBY (chapter 17)
def Reg.WK_THRESH_STBY.ms : Fld := ⟨0x130010, 0, 32, 0, 0, .rw, 0x5DC, .const⟩

-- WK_THRESH_HIB (chapter 17)
def Reg.WK_THRESH_HIB.s : Fld := ⟨0x130014, 0, 32, 0, 0, .rw, 0x4B0, .const⟩

-- WK_WAKE_SRC (chapter 17)
def Reg.WK_WAKE_SRC.src : Fld := ⟨0x130018, 0, 12, 0, 0, .w1c, 0x0, .const⟩
def Reg.WK_WAKE_SRC.entry_wake : Fld := ⟨0x130018, 16, 1, 0, 0, .w1c, 0x0, .const⟩

-- WK_WAKE_REC (chapter 17)
def Reg.WK_WAKE_REC.channel : Fld := ⟨0x130020, 0, 6, 0, 0, .rv, 0x0, .const⟩
def Reg.WK_WAKE_REC.xtd : Fld := ⟨0x130020, 6, 1, 0, 0, .rv, 0x0, .const⟩
def Reg.WK_WAKE_REC.valid : Fld := ⟨0x130020, 7, 1, 0, 0, .rv, 0x0, .const⟩
def Reg.WK_WAKE_REC.dlc : Fld := ⟨0x130020, 8, 4, 0, 0, .rv, 0x0, .const⟩

-- WK_WAKE_ID (chapter 17)
def Reg.WK_WAKE_ID.id : Fld := ⟨0x130024, 0, 29, 0, 0, .rv, 0x0, .const⟩

-- WK_WAKE_DATA (chapter 17)
def Reg.WK_WAKE_DATA.data : Fld := ⟨0x130028, 0, 64, 0, 0, .rv, 0x0, .const⟩

-- WK_INT_STATUS (chapter 17)
def Reg.WK_INT_STATUS.event : Fld := ⟨0x130030, 0, 12, 0, 0, .w1c, 0x0, .const⟩

-- WK_INT_EN (chapter 17)
def Reg.WK_INT_EN.enable : Fld := ⟨0x130034, 0, 12, 0, 0, .rw, 0x0, .const⟩

-- WK_INH_CHANS (chapter 17)
def Reg.WK_INH_CHANS.chans : Fld := ⟨0x130040, 0, 32, 0x8, 0, .rw, 0x0, .const⟩

-- WK_INH_CTRL (chapter 17)
def Reg.WK_INH_CTRL.rel_stby : Fld := ⟨0x130044, 0, 1, 0x8, 0, .rw, 0x0, .const⟩
def Reg.WK_INH_CTRL.rel_hib : Fld := ⟨0x130044, 1, 1, 0x8, 0, .rw, 0x0, .const⟩
def Reg.WK_INH_CTRL.asserted : Fld := ⟨0x130044, 2, 1, 0x8, 0, .rv, 0x1, .const⟩

-- WK_PIN_CFG (chapter 17)
def Reg.WK_PIN_CFG.en : Fld := ⟨0x130060, 0, 1, 0x4, 0, .rw, 0x0, .const⟩
def Reg.WK_PIN_CFG.edge : Fld := ⟨0x130060, 1, 1, 0x4, 0, .rw, 0x0, .const⟩
def Reg.WK_PIN_CFG.group : Fld := ⟨0x130060, 2, 4, 0x4, 0, .rw, 0x0, .const⟩
def Reg.WK_PIN_CFG.grp_en : Fld := ⟨0x130060, 6, 1, 0x4, 0, .rw, 0x0, .const⟩
def Reg.WK_PIN_CFG.level : Fld := ⟨0x130060, 16, 1, 0x4, 0, .rv, 0x0, .const⟩

-- WK_CH_CFG (chapter 17)
def Reg.WK_CH_CFG.group : Fld := ⟨0x130100, 0, 5, 0x4, 0, .rw, 0x1F, .const⟩
def Reg.WK_CH_CFG.wup_en : Fld := ⟨0x130100, 5, 1, 0x4, 0, .rw, 0x1, .const⟩
def Reg.WK_CH_CFG.swk_en : Fld := ⟨0x130100, 6, 1, 0x4, 0, .rw, 0x0, .const⟩
def Reg.WK_CH_CFG.fd_tol : Fld := ⟨0x130100, 7, 1, 0x4, 0, .rw, 0x1, .const⟩
def Reg.WK_CH_CFG.rate : Fld := ⟨0x130100, 8, 2, 0x4, 0, .rw, 0x2, .const⟩
def Reg.WK_CH_CFG.fec_thresh : Fld := ⟨0x130100, 10, 5, 0x4, 0, .rw, 0x1F, .const⟩
def Reg.WK_CH_CFG.xtd : Fld := ⟨0x130100, 15, 1, 0x4, 0, .rw, 0x0, .const⟩
def Reg.WK_CH_CFG.dlc : Fld := ⟨0x130100, 16, 4, 0x4, 0, .rw, 0x0, .const⟩
def Reg.WK_CH_CFG.dlc_en : Fld := ⟨0x130100, 20, 1, 0x4, 0, .rw, 0x0, .const⟩
def Reg.WK_CH_CFG.wup_to_ms : Fld := ⟨0x130100, 21, 4, 0x4, 0, .rw, 0x2, .const⟩

-- WK_CH_STATUS (chapter 17)
def Reg.WK_CH_STATUS.xcvr : Fld := ⟨0x130200, 0, 3, 0x4, 0, .rv, 0x1, .const⟩
def Reg.WK_CH_STATUS.armed : Fld := ⟨0x130200, 3, 1, 0x4, 0, .rv, 0x0, .const⟩
def Reg.WK_CH_STATUS.cloak : Fld := ⟨0x130200, 4, 1, 0x4, 0, .rv, 0x0, .const⟩
def Reg.WK_CH_STATUS.fec : Fld := ⟨0x130200, 5, 5, 0x4, 0, .rv, 0x0, .const⟩
def Reg.WK_CH_STATUS.dom_to : Fld := ⟨0x130200, 10, 1, 0x4, 0, .rv, 0x0, .const⟩

-- WK_SWK_ID (chapter 17)
def Reg.WK_SWK_ID.id : Fld := ⟨0x130300, 0, 29, 0x8, 0, .rw, 0x0, .const⟩

-- WK_SWK_MASK (chapter 17)
def Reg.WK_SWK_MASK.mask : Fld := ⟨0x130304, 0, 29, 0x8, 0, .rw, 0x0, .const⟩

-- WK_SWK_DATA (chapter 17)
def Reg.WK_SWK_DATA.mask : Fld := ⟨0x130400, 0, 64, 0x8, 0, .rw, 0x0, .const⟩

-- WK_STAT_SLEEP (chapter 17)
def Reg.WK_STAT_SLEEP.value : Fld := ⟨0x130800, 0, 32, 0, 0, .rc, 0x0, .const⟩

-- WK_STAT_ABORT (chapter 17)
def Reg.WK_STAT_ABORT.value : Fld := ⟨0x130804, 0, 32, 0, 0, .rc, 0x0, .const⟩

-- WK_STAT_WAKE (chapter 17)
def Reg.WK_STAT_WAKE.value : Fld := ⟨0x130808, 0, 32, 0, 0, .rc, 0x0, .const⟩

-- WK_STAT_ENTRY_ABORT (chapter 17)
def Reg.WK_STAT_ENTRY_ABORT.value : Fld := ⟨0x13080C, 0, 32, 0, 0, .rc, 0x0, .const⟩

-- WK_STAT_NM_TX (chapter 17)
def Reg.WK_STAT_NM_TX.value : Fld := ⟨0x130810, 0, 32, 0, 0, .rc, 0x0, .const⟩

-- WK_STAT_NM_FAIL (chapter 17)
def Reg.WK_STAT_NM_FAIL.value : Fld := ⟨0x130814, 0, 32, 0, 0, .rc, 0x0, .const⟩

-- WK_STAT_FEC_WAKE (chapter 17)
def Reg.WK_STAT_FEC_WAKE.value : Fld := ⟨0x130818, 0, 32, 0, 0, .rc, 0x0, .const⟩

-- WK_STAT_DOM_TO (chapter 17)
def Reg.WK_STAT_DOM_TO.value : Fld := ⟨0x13081C, 0, 32, 0, 0, .rc, 0x0, .const⟩

-- WK_STAT_SCHED_LATE (chapter 17)
def Reg.WK_STAT_SCHED_LATE.value : Fld := ⟨0x130820, 0, 32, 0, 0, .rc, 0x0, .const⟩

-- WK_STAT_OFFENDER (chapter 17)
def Reg.WK_STAT_OFFENDER.value : Fld := ⟨0x130824, 0, 32, 0, 0, .rc, 0x0, .const⟩

-- BT_CTRL (chapter 18)
def Reg.BT_CTRL.confirm_req : Fld := ⟨0x140000, 0, 1, 0, 0, .rw, 0x0, .const⟩
def Reg.BT_CTRL.snapshot_en : Fld := ⟨0x140000, 1, 1, 0, 0, .rw, 0x1, .const⟩

-- BT_STATUS (chapter 18)
def Reg.BT_STATUS.step : Fld := ⟨0x140004, 0, 4, 0, 0, .rv, 0x0, .const⟩
def Reg.BT_STATUS.state : Fld := ⟨0x140004, 4, 2, 0, 0, .rv, 0x0, .const⟩
def Reg.BT_STATUS.recovery : Fld := ⟨0x140004, 6, 1, 0, 0, .rv, 0x0, .const⟩
def Reg.BT_STATUS.warm : Fld := ⟨0x140004, 7, 1, 0, 0, .rv, 0x0, .const⟩
def Reg.BT_STATUS.fw_slot : Fld := ⟨0x140004, 8, 1, 0, 0, .rv, 0x0, .const⟩
def Reg.BT_STATUS.ws_slot : Fld := ⟨0x140004, 9, 1, 0, 0, .rv, 0x0, .const⟩
def Reg.BT_STATUS.tbl_slot : Fld := ⟨0x140004, 10, 1, 0, 0, .rv, 0x0, .const⟩
def Reg.BT_STATUS.fab_prepared : Fld := ⟨0x140004, 11, 1, 0, 0, .rv, 0x0, .const⟩
def Reg.BT_STATUS.snapshot_used : Fld := ⟨0x140004, 12, 1, 0, 0, .rv, 0x0, .const⟩

-- BT_FAIL (chapter 18)
def Reg.BT_FAIL.step : Fld := ⟨0x140008, 0, 4, 0, 0, .rv, 0x0, .const⟩
def Reg.BT_FAIL.reason : Fld := ⟨0x140008, 4, 8, 0, 0, .rv, 0x0, .const⟩
def Reg.BT_FAIL.count : Fld := ⟨0x140008, 12, 4, 0, 0, .rv, 0x0, .const⟩

-- BT_ALT (chapter 18)
def Reg.BT_ALT.alt : Fld := ⟨0x14000C, 1, 13, 0, 0, .w1c, 0x0, .const⟩

-- BT_SLOT (chapter 18)
def Reg.BT_SLOT.fw_a : Fld := ⟨0x140010, 0, 8, 0, 0, .rv, 0x0, .const⟩
def Reg.BT_SLOT.fw_b : Fld := ⟨0x140010, 8, 8, 0, 0, .rv, 0x0, .const⟩
def Reg.BT_SLOT.tbl_a : Fld := ⟨0x140010, 16, 8, 0, 0, .rv, 0x0, .const⟩
def Reg.BT_SLOT.tbl_b : Fld := ⟨0x140010, 24, 8, 0, 0, .rv, 0x0, .const⟩

-- BT_VER_ACTIVE (chapter 18)
def Reg.BT_VER_ACTIVE.version : Fld := ⟨0x140014, 0, 32, 0, 0, .rv, 0x0, .const⟩

-- BT_VER_PREV (chapter 18)
def Reg.BT_VER_PREV.version : Fld := ⟨0x140018, 0, 32, 0, 0, .rv, 0x0, .const⟩

-- BT_HWREV (chapter 18)
def Reg.BT_HWREV.rev : Fld := ⟨0x14001C, 0, 5, 0, 0, .ro, 0x0, .const⟩

-- BT_SECVER (chapter 18)
def Reg.BT_SECVER.min : Fld := ⟨0x140020, 0, 16, 0, 0, .rv, 0x0, .const⟩
def Reg.BT_SECVER.active : Fld := ⟨0x140020, 16, 16, 0, 0, .rv, 0x0, .const⟩

-- BT_FAB_TO (chapter 18)
def Reg.BT_FAB_TO.ms : Fld := ⟨0x140024, 0, 16, 0, 0, .rw, 0x1388, .const⟩

-- BT_INT_STATUS (chapter 18)
def Reg.BT_INT_STATUS.event : Fld := ⟨0x140030, 0, 11, 0, 0, .w1c, 0x0, .const⟩

-- BT_INT_EN (chapter 18)
def Reg.BT_INT_EN.enable : Fld := ⟨0x140034, 0, 11, 0, 0, .rw, 0x0, .const⟩

-- LC_STATUS (chapter 19)
def Reg.LC_STATUS.state : Fld := ⟨0x150000, 0, 3, 0, 0, .rv, 0x0, .const⟩
def Reg.LC_STATUS.level : Fld := ⟨0x150000, 3, 2, 0, 0, .rv, 0x0, .const⟩
def Reg.LC_STATUS.tamper : Fld := ⟨0x150000, 5, 1, 0, 0, .rv, 0x0, .const⟩
def Reg.LC_STATUS.lockout : Fld := ⟨0x150000, 6, 1, 0, 0, .rv, 0x0, .const⟩
def Reg.LC_STATUS.sp_halted : Fld := ⟨0x150000, 7, 1, 0, 0, .rv, 0x0, .const⟩
def Reg.LC_STATUS.unlock_fails : Fld := ⟨0x150000, 8, 8, 0, 0, .rv, 0x0, .const⟩
def Reg.LC_STATUS.session_min : Fld := ⟨0x150000, 16, 16, 0, 0, .rv, 0x0, .const⟩

-- LC_ALARM (chapter 19)
def Reg.LC_ALARM.latched : Fld := ⟨0x150004, 0, 5, 0, 0, .w1c, 0x0, .const⟩
def Reg.LC_ALARM.active : Fld := ⟨0x150004, 16, 5, 0, 0, .rv, 0x0, .const⟩

-- LC_VKEY (chapter 19)
def Reg.LC_VKEY.state : Fld := ⟨0x150010, 0, 2, 0x4, 0, .rv, 0x0, .const⟩
def Reg.LC_VKEY.curve : Fld := ⟨0x150010, 2, 1, 0x4, 0, .rv, 0x0, .const⟩
def Reg.LC_VKEY.purpose : Fld := ⟨0x150010, 3, 3, 0x4, 0, .rv, 0x0, .const⟩

-- LC_INT_STATUS (chapter 19)
def Reg.LC_INT_STATUS.event : Fld := ⟨0x150030, 0, 7, 0, 0, .w1c, 0x0, .const⟩

-- LC_INT_EN (chapter 19)
def Reg.LC_INT_EN.enable : Fld := ⟨0x150034, 0, 7, 0, 0, .rw, 0x0, .const⟩

-- HB_RING_BASE (chapter 15)
def Reg.HB_RING_BASE.base : Fld := ⟨0x110400, 0, 64, 0x20, 0, .rw, 0x0, .const⟩

-- HB_RING_SIZE (chapter 15)
def Reg.HB_RING_SIZE.log2 : Fld := ⟨0x110408, 0, 4, 0x20, 0, .rw, 0x8, .const⟩
def Reg.HB_RING_SIZE.en : Fld := ⟨0x110408, 31, 1, 0x20, 0, .rw, 0x0, .const⟩

-- HB_RING_TAIL (chapter 15)
def Reg.HB_RING_TAIL.tail : Fld := ⟨0x11040C, 0, 12, 0x20, 0, .rw, 0x0, .const⟩

-- HB_RING_HEAD (chapter 15)
def Reg.HB_RING_HEAD.head : Fld := ⟨0x110410, 0, 12, 0x20, 0, .rv, 0x0, .const⟩

-- CMD_QP_SQ_BASE (chapter 16)
def Reg.CMD_QP_SQ_BASE.base : Fld := ⟨0x120100, 0, 64, 0x40, 0, .rw, 0x0, .const⟩

-- CMD_QP_CQ_BASE (chapter 16)
def Reg.CMD_QP_CQ_BASE.base : Fld := ⟨0x120108, 0, 64, 0x40, 0, .rw, 0x0, .const⟩

-- CMD_QP_CTRL (chapter 16)
def Reg.CMD_QP_CTRL.en : Fld := ⟨0x120110, 0, 1, 0x40, 0, .rw, 0x0, .const⟩

-- CMD_QP_SQ_TAIL (chapter 16)
def Reg.CMD_QP_SQ_TAIL.tail : Fld := ⟨0x120114, 0, 8, 0x40, 0, .rw, 0x0, .const⟩

-- CMD_QP_SQ_HEAD (chapter 16)
def Reg.CMD_QP_SQ_HEAD.head : Fld := ⟨0x120118, 0, 8, 0x40, 0, .rv, 0x0, .const⟩

-- CMD_QP_CQ_TAIL (chapter 16)
def Reg.CMD_QP_CQ_TAIL.tail : Fld := ⟨0x12011C, 0, 8, 0x40, 0, .rv, 0x0, .const⟩
def Reg.CMD_QP_CQ_TAIL.phase : Fld := ⟨0x12011C, 8, 1, 0x40, 0, .rv, 0x0, .const⟩

-- CMD_QP_CQ_HEAD (chapter 16)
def Reg.CMD_QP_CQ_HEAD.head : Fld := ⟨0x120120, 0, 8, 0x40, 0, .rw, 0x0, .const⟩

-- CMD_EVR_BASE (chapter 16)
def Reg.CMD_EVR_BASE.base : Fld := ⟨0x120200, 0, 64, 0x20, 0, .rw, 0x0, .const⟩

-- CMD_EVR_CFG (chapter 16)
def Reg.CMD_EVR_CFG.en : Fld := ⟨0x120208, 0, 1, 0x20, 0, .rw, 0x0, .const⟩
def Reg.CMD_EVR_CFG.log2 : Fld := ⟨0x120208, 1, 4, 0x20, 0, .rw, 0x8, .const⟩

-- CMD_EVR_MASK (chapter 16)
def Reg.CMD_EVR_MASK.mask : Fld := ⟨0x12020C, 1, 19, 0x20, 0, .rw, 0x0, .const⟩

-- CMD_EVR_PUT (chapter 16)
def Reg.CMD_EVR_PUT.put : Fld := ⟨0x120210, 0, 12, 0x20, 0, .rv, 0x0, .const⟩

-- CMD_EVR_GET (chapter 16)
def Reg.CMD_EVR_GET.get : Fld := ⟨0x120214, 0, 12, 0x20, 0, .rw, 0x0, .const⟩

-- WK_GRP_CFG (chapter 17)
def Reg.WK_GRP_CFG.en : Fld := ⟨0x130600, 0, 1, 0x20, 0, .rw, 0x0, .const⟩
def Reg.WK_GRP_CFG.xcvr_sleep : Fld := ⟨0x130600, 1, 1, 0x20, 0, .rw, 0x0, .const⟩
def Reg.WK_GRP_CFG.nm_tx : Fld := ⟨0x130600, 2, 1, 0x20, 0, .rw, 0x0, .const⟩
def Reg.WK_GRP_CFG.node_id : Fld := ⟨0x130600, 3, 8, 0x20, 0, .rw, 0x0, .const⟩
def Reg.WK_GRP_CFG.nm_xtd : Fld := ⟨0x130600, 11, 1, 0x20, 0, .rw, 0x0, .const⟩
def Reg.WK_GRP_CFG.nid_byte : Fld := ⟨0x130600, 12, 3, 0x20, 0, .rw, 0x0, .const⟩

-- WK_GRP_NM_ID (chapter 17)
def Reg.WK_GRP_NM_ID.id : Fld := ⟨0x130604, 0, 29, 0x20, 0, .rw, 0x0, .const⟩

-- WK_GRP_NM_MASK (chapter 17)
def Reg.WK_GRP_NM_MASK.mask : Fld := ⟨0x130608, 0, 29, 0x20, 0, .rw, 0x0, .const⟩

-- WK_GRP_TIMERS1 (chapter 17)
def Reg.WK_GRP_TIMERS1.nm_period_ms : Fld := ⟨0x13060C, 0, 16, 0x20, 0, .rw, 0x64, .const⟩
def Reg.WK_GRP_TIMERS1.nm_timeout_ms : Fld := ⟨0x13060C, 16, 16, 0x20, 0, .rw, 0x7D0, .const⟩

-- WK_GRP_TIMERS2 (chapter 17)
def Reg.WK_GRP_TIMERS2.prepare_ms : Fld := ⟨0x130610, 0, 16, 0x20, 0, .rw, 0x3E8, .const⟩
def Reg.WK_GRP_TIMERS2.keep_awake_ms : Fld := ⟨0x130610, 16, 16, 0x20, 0, .rw, 0x2710, .const⟩

-- WK_GRP_STATUS (chapter 17)
def Reg.WK_GRP_STATUS.state : Fld := ⟨0x130614, 0, 3, 0x20, 0, .rv, 0x0, .const⟩
def Reg.WK_GRP_STATUS.local_ : Fld := ⟨0x130614, 3, 1, 0x20, 0, .rv, 0x0, .const⟩
def Reg.WK_GRP_STATUS.wake_hold : Fld := ⟨0x130614, 4, 1, 0x20, 0, .rv, 0x0, .const⟩
def Reg.WK_GRP_STATUS.requesting : Fld := ⟨0x130614, 5, 9, 0x20, 0, .rv, 0x0, .const⟩
def Reg.WK_GRP_STATUS.watching : Fld := ⟨0x130614, 14, 1, 0x20, 0, .rv, 0x0, .const⟩
def Reg.WK_GRP_STATUS.watched : Fld := ⟨0x130614, 15, 8, 0x20, 0, .rv, 0x0, .const⟩

-- WK_GRP_NM_DATA (chapter 17)
def Reg.WK_GRP_NM_DATA.data : Fld := ⟨0x130618, 0, 64, 0x20, 0, .rw, 0x0, .const⟩

-- CAN_TXEF_WM (chapter 04)
def Reg.CAN_TXEF_WM.wm : Fld := ⟨0x40254, 0, 8, 0x1000, 0, .rw, 0x0, .const⟩

-- CAN_TXEF_STATUS (chapter 04)
def Reg.CAN_TXEF_STATUS.fill : Fld := ⟨0x40258, 0, 8, 0x1000, 0, .rv, 0x0, .const⟩
def Reg.CAN_TXEF_STATUS.get : Fld := ⟨0x40258, 8, 8, 0x1000, 0, .rv, 0x0, .const⟩
def Reg.CAN_TXEF_STATUS.put : Fld := ⟨0x40258, 16, 8, 0x1000, 0, .rv, 0x0, .const⟩
def Reg.CAN_TXEF_STATUS.full : Fld := ⟨0x40258, 24, 1, 0x1000, 0, .rv, 0x0, .const⟩

-- CAN_TXEF_ACK (chapter 04)
def Reg.CAN_TXEF_ACK.index : Fld := ⟨0x4025C, 0, 8, 0x1000, 0, .wo, 0x0, .const⟩
def Reg.CAN_TXEF_ACK.uc : Fld := ⟨0x4025C, 8, 8, 0x1000, 0, .wo, 0x0, .const⟩

end Sys2Proof.Machine
end

