-- ==== Sys2Proof/Machine/Modes.lean ====
section
/-! DEFINITION. The modes of Table 13.1 over the AES block cipher: CTR, CBC, GCM and GMAC, CMAC. The spec names their standards (NIST
SP 800-38A, B and D, RFC 5652) and prints none of them: PRESUMED from those standards (assumption 103). The block cipher itself
is a free function of its key and block. -/

namespace Sys2Proof.Machine

/-- Two strings of bytes combined by exclusive or, to the length of the shorter. -/
def xorBytes (a b : Bytes) : Bytes := List.zipWith (fun x y => x ^^^ y) a b

/-- One block enciphered (FIPS 197). -/
def aesBlock (key block : Bytes) : Bytes := (List.range 16).map (Config.aes key block)

/-- One block deciphered. -/
def aesInverse (key block : Bytes) : Bytes := (List.range 16).map (Config.aesInverse key block)

/-- The blocks of 16 bytes of a string, the last one filled with zeros. -/
def blocksOf (d : Bytes) : List Bytes := (List.range (ceilDiv d.length 16)).map (fun i => sliceBytes d (16 * i) 16)

/-- `n` bytes of key stream from counter block `c` on; the low `w` bits of the counter count. -/
def keyStream (key : Bytes) (w c n : Nat) : Bytes :=
  ((List.range (ceilDiv n 16)).flatMap (fun i => aesBlock key (beBytes 16 (setBits c 0 w (c % 2 ^ w + i))))).take n

/-- CTR under an initial counter block, either way; a final partial block is truncated (R318). -/
def ctrMode (key iv d : Bytes) : Bytes := xorBytes d (keyStream key 128 (beNat iv) d.length)

/-! ### CBC -/

/-- Blocks chained into ciphertext from `prev` on. -/
def cbcForward (key : Bytes) : Bytes → List Bytes → Bytes
  | _, [] => []
  | prev, b :: bs =>
    let c := aesBlock key (xorBytes b prev)
    c ++ cbcForward key c bs

/-- Ciphertext blocks chained back into plaintext. -/
def cbcBackward (key : Bytes) : Bytes → List Bytes → Bytes
  | _, [] => []
  | prev, c :: cs => xorBytes (aesInverse key c) prev ++ cbcBackward key c cs

/-- PKCS#7 padding: 1 to 16 bytes, each their number. -/
def padded (d : Bytes) : Bytes :=
  let n := 16 - d.length % 16
  d ++ List.replicate n (BitVec.ofNat 8 n)

/-- A string without its padding, none where that is malformed. -/
def unpadded (d : Bytes) : Option Bytes :=
  let n := byteAt d (d.length - 1)
  if d.length % 16 = 0 ∧ 0 < n ∧ n ≤ 16 ∧ n ≤ d.length ∧ d.drop (d.length - n) = List.replicate n (BitVec.ofNat 8 n)
  then some (d.take (d.length - n)) else none

/-- CBC encryption, with padding added unless `noPad`. -/
def cbcEncrypt (noPad : Bool) (key iv d : Bytes) : Bytes := cbcForward key iv (blocksOf (if noPad then d else padded d))

/-- CBC decryption before any padding is removed. -/
def cbcDecrypt (key iv d : Bytes) : Bytes := (cbcBackward key iv (blocksOf d)).take d.length

/-! ### GCM and GMAC -/

/-- The product of two blocks in the field of GHASH, each with its first bit the most significant. -/
def ghashMul (x y : Nat) : Nat :=
  ((List.range 128).foldl (fun (zv : Nat × Nat) i =>
    (if bitSet x (127 - i) then zv.1 ^^^ zv.2 else zv.1,
     if zv.2 % 2 = 1 then zv.2 / 2 ^^^ 0xE1 * 2 ^ 120 else zv.2 / 2)) (0, y)).1

/-- GHASH of blocks under `h`. -/
def ghash (h : Nat) (bs : List Bytes) : Nat := bs.foldl (fun y b => ghashMul (y ^^^ beNat b) h) 0

/-- GCM's key stream applied to data under a 12-byte IV, either way. -/
def gcmCrypt (key iv d : Bytes) : Bytes := xorBytes d (keyStream key 32 (beNat iv * 2 ^ 32 + 2) d.length)

/-- The 16-byte GCM tag of additional data and ciphertext; GMAC is the tag of no ciphertext. -/
def gcmTag (key iv aad c : Bytes) : Bytes :=
  let h := beNat (aesBlock key (zeros 16))
  let sum := ghash h (blocksOf aad ++ blocksOf c ++ [beBytes 8 (8 * aad.length) ++ beBytes 8 (8 * c.length)])
  xorBytes (beBytes 16 sum) (aesBlock key (beBytes 16 (beNat iv * 2 ^ 32 + 1)))

/-! ### CMAC -/

/-- A block doubled in the field of CMAC. -/
def cmacDouble (x : Nat) : Nat := if bitSet x 127 then 2 * x % 2 ^ 128 ^^^ 0x87 else 2 * x

/-- The 16-byte CMAC of a message. -/
def cmac (key d : Bytes) : Bytes :=
  let k1 := cmacDouble (beNat (aesBlock key (zeros 16)))
  let whole := d.length ≠ 0 ∧ d.length % 16 = 0
  let n := if whole then d.length - 16 else d.length / 16 * 16
  let last := if whole then xorBytes (d.drop n) (beBytes 16 k1)
    else xorBytes (padTo 16 (d.drop n ++ [0x80#8])) (beBytes 16 (cmacDouble k1))
  (blocksOf (d.take n) ++ [last]).foldl (fun c b => aesBlock key (xorBytes c b)) (zeros 16)

end Sys2Proof.Machine
end

