-- ==== Sys2Proof/Machine/Memory.lean ====
section
/-! DEFINITION. Byte-addressed memories: the CAN message memories (chapter 4) and the gateway's byte-array area (chapter 5).
A memory is a list of cells in rising address order that lists no byte equal to what an unlisted address reads as. -/

namespace Sys2Proof.Machine

/-- Cells in rising address order, none of them equal to `Memory.blank`. -/
abbrev Memory := List Host.Cell

/-- DESIGN CHOICE: what a byte reads as that nothing has written (assumption 3). Unsafe. -/
def Memory.blank : Byte := 0#8

/-- The byte at `a`. -/
def Memory.read : Memory → Nat → Byte
  | [], _ => Memory.blank
  | (n, b) :: m, a => if n = a then b else Memory.read m a

/-- The memory with no cell at `a`. -/
def Memory.erase : Memory → Nat → Memory
  | [], _ => []
  | (n, b) :: m, a => if n = a then m else (n, b) :: Memory.erase m a

/-- The memory with the cell `(a, v)` in its place. -/
def Memory.insert : Memory → Nat → Byte → Memory
  | [], a, v => [(a, v)]
  | (n, b) :: m, a, v =>
    if a < n then (a, v) :: (n, b) :: m
    else if n = a then (a, v) :: m
    else (n, b) :: Memory.insert m a v

/-- The memory with byte `v` at `a`, in canonical form. -/
def Memory.write (m : Memory) (a : Nat) (v : Byte) : Memory :=
  if v = Memory.blank then Memory.erase m a else Memory.insert m a v

/-- The `n` bytes from `a`. -/
def Memory.readBytes (m : Memory) (a : Nat) : Nat → Bytes
  | 0 => []
  | n + 1 => Memory.read m a :: Memory.readBytes m (a + 1) n

/-- The memory with `bs` stored from `a`. -/
def Memory.writeBytes : Memory → Nat → Bytes → Memory
  | m, _, [] => m
  | m, a, b :: bs => Memory.writeBytes (Memory.write m a b) (a + 1) bs

/-- Whether addresses rise strictly from `lo` and no cell is blank. -/
def Memory.okFrom : Nat → Memory → Bool
  | _, [] => true
  | lo, (n, b) :: m => decide (lo ≤ n) && decide (b ≠ Memory.blank) && Memory.okFrom (n + 1) m

/-- The canonical form. -/
def Memory.wf (m : Memory) : Bool := Memory.okFrom 0 m

end Sys2Proof.Machine
end

