-- ==== Sys2Proof/Machine/TypesCore.lean ====
section
/-! DEFINITION. Plain data of the blocks every chapter leans on: the clocks of device time (chapter 1), event records and
their paths (chapters 0 and 16), the command transports (chapter 16), and what the device has sent to the outside. -/

namespace Sys2Proof.Machine

/-- A stretch of the device-time counter: from counter instant `t0` (ns of the 250 MHz counter clock, at one of its edges)
DT is `dt0` (in units of 2^-32 ns) and each 4 ns cycle adds 4 ns and `adj` units (R14). `epoch` is the step epoch (R25). -/
structure DtSeg where
  t0 : Nat
  dt0 : Nat
  adj : Int
  epoch : Nat
  deriving DecidableEq, Repr

/-- What the time uncertainty U is computed from, from counter instant `t0` on (R22, R24, R28). `residual` and `perCycle`
are the residual offset at `resT0` and what each cycle slews off it, in units of 2^-32 ns; `fixed` is a fixed term in
ns; `ppbNs` is growth already accrued in low-power states, in ppb·ns. -/
structure USeg where
  t0 : Nat
  unbounded : Bool
  u0 : Nat
  lastSync : Nat
  fixed : Nat
  ppbNs : Nat
  resT0 : Nat
  residual : Nat
  perCycle : Nat
  deriving DecidableEq, Repr

/-- An origin: the device time of a value's or frame's first reception (R31), the epoch it was stamped in (R25), the
uncertainty it carries (all ones: unbounded), its device and channel, whether another device took it (R36), and
whether its age has been marked unknown (R26, R37). -/
structure Origin where
  dt : Int
  epoch : Nat
  u : Nat
  device : Nat
  channel : Nat
  remote : Bool
  unknown : Bool
  deriving DecidableEq, Repr

/-- The step that waits for its epoch sweep (R26): the amount to add, the new epoch, the steps removed of its Sync. -/
structure PendingStep where
  amount : Int
  epoch : Nat
  stepsRemoved : Nat
  deriving DecidableEq, Repr

/-- What the wake die captures on entering Standby or Hibernate (R28). -/
structure DtCapture where
  dt : Nat
  ppbNs : Nat
  u : Nat
  state : Nat
  measured : Bool
  at_ : Nat
  deriving DecidableEq, Repr

/-- The synchronisation state of chapter 1 beyond its registers. -/
structure DtState where
  /-- newest first; a stretch whose `t0` lies ahead is a slew's planned end -/
  segs : List DtSeg
  usegs : List USeg
  /-- an offset has been measured since the state was last FREE_UNSYNC (R19, R27) -/
  measured : Bool
  /-- the largest |offset| candidates: the last 8 accepted Syncs, newest first (R21) -/
  history : List Nat
  lastSync : Nat
  /-- a slew is in progress -/
  slewing : Bool
  satRaised : Bool
  /-- the offset at the first measurement of this acquisition (event 0x0001) -/
  firstOffset : Int
  pending : Option PendingStep
  announce : Tab Announce
  announceAt : Tab Nat
  /-- the slave port and the grandmaster identity in force (none: no grandmaster heard) -/
  slave : Option Nat
  gm : Option Nat
  linkDelay : Tab Nat
  /-- the egress stamps of the peer-delay requests that await their answers -/
  pdelaySent : Tab Nat
  /-- external port configuration in force: its slave port, if it names one (R17) -/
  extPorts : Option (Option Nat)
  syncsSent : Tab Nat
  captured : Option DtCapture
  deriving DecidableEq, Repr

/-- One event record (Table 0.10), before its 32 bytes are laid out. -/
structure Event where
  dt : Nat
  synced : Bool
  source : Nat
  code : Nat
  inst : Nat
  origin : Nat
  data : Bytes
  deriving DecidableEq, Repr

/-- Where event records stand: the buffer (oldest first) and what it dropped since the last read (R416), which rings owe a
`lost_before` mark and how many records each dropped (R417), and the limiter of R509: for each key its last raising
and the occurrences since. -/
structure EvState where
  buffer : List Event
  dropped : Nat
  ringLost : Tab Bool
  limits : Tab (Nat × Nat)
  deriving DecidableEq, Repr

/-- The gPTP event messages a port sends (R17, R30). -/
inductive GptpMsg where
  | sync
  | pdelayReq
  | pdelayResp
  deriving DecidableEq, Repr

/-- The AVSBus commands the device issues (R49). -/
inductive AvsCmd where
  | writeVoltage (mv : Nat)
  | readVoltage
  | readStatus
  deriving DecidableEq, Repr

/-- What the device has put out of its pins or written into host memory, newest last: the model's own record of its
surroundings, read by no rule of the spec. -/
inductive Out where
  | hostWrite (addr : Nat) (data : Bytes)
  | msix (vector : Nat)
  | reply (opcode : Nat) (c : Call) (status : Nat) (data : Bytes)
  | canFrame (ch : Nat) (f : CanFrame) (sof : Nat)
  | canOverload (ch : Nat)
  | canErrorFrame (ch : Nat) (active : Bool)
  | ethFrame (port : Nat) (data : Bytes)
  | ethAborted (port : Nat) (data : Bytes)
  | fabric (link : Nat) (f : FabFrame) (tag : Bytes)
  | gptp (port : Nat) (m : GptpMsg) (dt : Nat)
  | spi (data : Bytes)
  | avs (rail : Nat) (c : AvsCmd)
  | wakePattern (ch : Nat)
  | tdo (data : Nat) (len : Nat)
  | reset (cause : Nat)
  | pcieCompletion (window : Nat) (status : Nat) (data : Bytes)
  deriving DecidableEq, Repr

/-- A long command that has not replied yet (R401): its opcode, header and the instant it was accepted. -/
structure LongCmd where
  opcode : Nat
  call : Call
  accepted : Nat
  deriving DecidableEq, Repr

/-- A command this device relays to another (R409). -/
structure Forward where
  call : Call
  opcode : Nat
  target : Nat
  deadline : Nat
  deriving DecidableEq, Repr

/-- A nonce issued by SYS_NONCE (R411). -/
structure Nonce where
  value : Nat
  issued : Nat
  deriving DecidableEq, Repr

/-- A command packet taken from a transport that waits: to be accepted (R401, R402), or, where `passed` tells that its
authority has been shown, to be executed (R481). -/
structure HeldPacket where
  via : Via
  packet : Bytes
  passed : Bool
  deriving DecidableEq, Repr

/-- The command transports of chapter 16 beyond their registers. -/
structure CmdState where
  long : List LongCmd
  held : List HeldPacket
  forwards : List Forward
  nonces : List Nonce
  spiReply : Option Bytes
  spiBusy : Bool
  spiDiscarded : Bool
  /-- late replies to expect: tags whose forward timed out -/
  late : List Forward
  /-- host bridge resets: a command fetched from a queue pair before the latest neither replies nor writes host memory (R404) -/
  enabling : Nat
  /-- submission entries the host has provided and the device has not fetched, by queue pair (R403) -/
  subs : Tab (List Submission)
  /-- the recorded S_k of each in-band key, and how many packets each has accepted (R408) -/
  seqRecorded : Tab Nat
  seqAccepted : Tab Nat
  deriving DecidableEq, Repr

end Sys2Proof.Machine
end

