-- ==== Sys2Proof/Machine/TypesCipher.lean ====
section
/-! DEFINITION. Plain data of the cipher engine (chapter 13) beyond the CX registers. -/

namespace Sys2Proof.Machine

/-- A key slot (R319): class 0 ROOT, 1 FIXED, 2 SESSION; length in bytes; usage mask; generation; state 0 EMPTY, 1 LOADED,
2 ERASED; its key, and the previous generation while a request still uses it (R321). -/
structure KeySlot where
  cls : Nat
  len : Nat
  usage : Nat
  gen : Nat
  state : Nat
  key : Bytes
  prev : Option (Nat × Bytes)
  deriving DecidableEq, Repr

/-- What waits for a cipher request: a host command; the SP's image stream; a frame of the switch core held for its cipher
profile, whose entry it was; a frame held at the end of its reception for its port's SecY, with whether it was ready before,
its receive SA and its packet number; a fabric frame, with its link's receive key. -/
inductive CxFor where
  | host (c : Call)
  | image
  | frame (id entry : Nat)
  | macsec (port id : Nat) (rx : EthRx) (early : Bool) (sa pn : Nat)
  | link (l : Nat) (f : FabFrame) (key : Bytes)
  deriving DecidableEq, Repr

/-- A cipher request in a queue or on a pipeline (Tables 13.2 and 13.3). `gen` is its key's generation and `mac` the slot and
generation of a second key, that of a CMAC over everything it carries (R330); `tag` is the tag expected; `input` what a
request of a packet path carries, additional data first; `pipe` the pipeline it runs on, none while it waits; `released` the
bytes a streaming request has released. -/
structure CxReq where
  id : Nat
  queue : Nat
  mode : Nat
  op : Nat
  slot : Nat
  gen : Nat
  mac : Option (Nat × Nat)
  streaming : Bool
  noPad : Bool
  tagLen : Nat
  voidId : Nat
  aadLen : Nat
  dataLen : Nat
  iv : Bytes
  tag : Bytes
  input : Bytes
  src : Nat
  dst : Nat
  units : Nat
  verifies : Bool
  pipe : Option Nat
  released : Nat
  waiter : CxFor
  deriving DecidableEq, Repr

/-- A voidable registration (R326, Table 13.6). -/
structure VoidReg where
  addr : Nat
  size : Nat
  state : Nat
  released : Nat
  tag : Nat
  deriving DecidableEq, Repr

/-- A secured PDU entry (Table 13.9): its first 16 bytes as a number, its FV, and, for a transmit entry, the last ceiling
recorded (R338); for a receive entry the FV last recorded. -/
structure SecPdu where
  words : Nat
  fv : Nat
  recorded : Nat
  deriving DecidableEq, Repr

/-- A port's SecY configuration (MACSEC_PORT_CFG). -/
structure SecY where
  suite : Nat
  offset : Nat
  validate : Nat
  enable : Bool
  protect : Bool
  replayProtect : Bool
  includeSci : Bool
  window : Nat
  sci : Nat
  active : Option Nat
  deriving DecidableEq, Repr

/-- A MACsec SA (MACSEC_SA_INSTALL): key slot, next or lowest PN, SSCI, salt, the peer's SCI, whether enabled, whether its
threshold has been reported (R332). -/
structure MacsecSa where
  slot : Nat
  pn : Nat
  ssci : Nat
  salt : Bytes
  peer : Nat
  enabled : Bool
  warned : Bool
  deriving DecidableEq, Repr

/-- A verification key of the SP (R339): curve 0 P-256, 1 P-384; purpose mask (bit 0 image, 1 command, 2 debug unlock);
state 0 EMPTY, 1 ACTIVE, 2 REVOKED; the uncompressed point. -/
structure VerifKey where
  curve : Nat
  purpose : Nat
  state : Nat
  key : Bytes
  deriving DecidableEq, Repr

/-- The cipher engine, its keys and the SP's verification keys. -/
structure CxState where
  slots : Tab KeySlot
  /-- FIXED keys the SP keeps wrapped in MRAM (Table 13.4) -/
  stored : Tab KeySlot
  /-- requests in order of arrival -/
  reqs : List CxReq
  nextReq : Nat
  /-- the queue of 5–7 served last (R316) -/
  rr : Nat
  voids : Tab VoidReg
  secPdus : Tab SecPdu
  /-- counters of secured PDU entries, entry * 8 + (0 ok, 1 duplicate, 2 replay, 3 auth_fail, 4 short, 5 lost) -/
  secStats : Tab Nat
  /-- how far each entry's reserve_log2 has been raised by the wear pace (R338) -/
  reserveUp : Nat
  journal : Nat
  profiles : Tab Nat
  secys : Tab SecY
  /-- transmit SAs by port * 4 + AN; receive SAs by port * 64 + SC * 4 + AN -/
  txSas : Tab MacsecSa
  rxSas : Tab MacsecSa
  /-- by port * 512 + key slot: the generation of the key and the packet number its next frame takes (R332) -/
  sent : Tab (Nat × Nat)
  verifKeys : Tab VerifKey
  deriving DecidableEq, Repr

end Sys2Proof.Machine
end

