-- ==== Sys2Proof/Machine/TypesSwitch.lean ====
section
/-! DEFINITION. Plain data of the Ethernet ports and the switch core (chapter 8), the forwarding tables (chapter 9), the parse
engines (chapter 10) and the classification (chapter 11). -/

namespace Sys2Proof.Machine

/-! ### Frames and queues (chapter 8) -/

/-- Where one copy of a frame goes: the output, and for a Tyeth output the destination device and its port there, or a
flood; `seq` is the sequence number of a copy that goes out twice (R366). -/
structure Target where
  out : Nat
  device : Nat
  port : Nat
  flood : Bool
  seq : Option Nat
  deriving DecidableEq, Repr

/-- A frame the switch core holds. `data` runs from its destination address to its last data byte and `fcs` holds its FCS;
`len` is its length under R206; `received` tells that its reception has ended. `input` is the input its cells are charged
to, `port0` the input of pass 0. `device` and `orgPort` are where a Tyeth frame entered the fabric; `given` is the output
its fabric header names (R241), or a flood. `turn`, `bank`, `pass`, `strip` and `words` are what it carries between passes;
`action` and `targets` what its final decision gave it. -/
structure CoreFrame where
  data : Bytes
  fcs : Bytes
  len : Nat
  received : Bool
  input : Nat
  port0 : Nat
  cls : Nat
  cells : Nat
  stamp : Nat
  start : Nat
  vid : Nat
  pcp : Nat
  dei : Bool
  device : Nat
  orgPort : Nat
  given : Option Target
  turn : Option Nat
  bank : Option Nat
  pass : Nat
  strip : Nat
  words : List Nat
  result : List Nat
  /-- the classification key formed at the end of its pass (R280) -/
  key : Nat
  action : Nat
  /-- the stream entry read at its final decision (R214) -/
  stream : Nat
  targets : List Target
  /-- the next hop's entry where the frame is routed (R243) -/
  nextHop : Option Nat
  untag : Nat
  /-- its VID and tag leave as they came: a mirror copy -/
  raw : Bool
  deriving DecidableEq, Repr

/-- One place in a virtual output queue. -/
structure QEntry where
  frame : Nat
  target : Target
  deriving DecidableEq, Repr

/-- A frame in transmission on an output: its virtual output queue, its place, its bytes on the wire up to the FCS. -/
structure Sending where
  voq : Nat
  entry : QEntry
  data : Bytes
  deriving DecidableEq, Repr

/-- A gate control list (R221): base time as written, the change time its cycles run from, cycle, extension, the eight
max_sdu values, the entries (gate states, interval). -/
structure GateList where
  base : Nat
  start : Nat
  cycle : Nat
  ext : Nat
  sdu : List Nat
  entries : List (Nat × Nat)
  deriving DecidableEq, Repr

/-- A recovery function at run time (R216). `timer` is the instant its reset timer runs from, none once it has lapsed. -/
structure RecRun where
  takeAny : Bool
  recv : Nat
  hist : Nat
  timer : Option Nat
  deriving DecidableEq, Repr

/-- A policer's buckets at counter instant `at_`, in 10^-6 bit. -/
structure Meter where
  committed : Nat
  excess : Nat
  at_ : Nat
  deriving DecidableEq, Repr

/-- A shaper's credit in 10^-6 bit as of counter instant `at_` (R223). -/
structure Credit where
  value : Int
  at_ : Nat
  deriving DecidableEq, Repr

/-- The switch core and the Ethernet ports beyond their registers. -/
structure SwState where
  frames : Tab CoreFrame
  nextId : Nat
  /-- the frame an Ethernet port is receiving, once it is ready; none where the buffer has refused it (R209) -/
  receiving : Tab (Option Nat)
  /-- frames of an input that are not ready yet, oldest first -/
  arrived : Tab (List Nat)
  voqs : Tab (List QEntry)
  sending : Tab Sending
  /-- by 8 * output + class: the input served last (R219) -/
  served : Tab Nat
  /-- eligible frames a mirror session has seen since its N was written -/
  mirrorSeen : Tab Nat
  streams : Tab Nat
  policers : Tab Nat
  gens : Tab Nat
  recs : Tab Nat
  meters : Tab Meter
  recRuns : Tab RecRun
  /-- counters of policers (8 * policer + 0 matched, 1 green, 2 yellow, 3 red, 4 sdu) and of recovery functions (8 *
  function + 0 passed, 1 discarded, 2 rogue, 3 ooo, 4 lost, 5 tagless, 6 resets) -/
  polStats : Tab Nat
  cbStats : Tab Nat
  operLists : Tab GateList
  adminLists : Tab GateList
  /-- by 8 * port + class -/
  credits : Tab Credit
  /-- the latched high halves of 64-bit counters, by the address of their LO half (R207) -/
  shadows : Tab Nat
  deriving DecidableEq, Repr

/-! ### Forwarding tables (chapter 9) -/

/-- A queued learning request (R234, R237): the key (MAC with its first octet lowest, FID), the destination, its input, the instant
of its lookup. -/
structure LearnReq where
  mac : Nat
  fid : Nat
  device : Nat
  kind : Nat
  port : Nat
  input : Nat
  at_ : Nat
  deriving DecidableEq, Repr

/-- The forwarding tables beyond the FT registers. Entries are the little-endian numbers of their bytes. -/
structure FtState where
  l2 : Tab Nat
  learnQ : List LearnReq
  vlans : Tab Nat
  nextHops : Tab Nat
  pfx4 : Tab Nat
  pfx6 : Tab Nat
  /-- nodes a delete has left unreachable, with the instant of the delete (R245) -/
  freeing : List (Nat × Nat)
  /-- moves counted against a port: (second, moves) (R240) -/
  moves : Tab (Nat × Nat)
  quarantinedAt : Tab Nat
  lockedAt : Tab Nat
  deriving DecidableEq, Repr

/-! ### Parse engines (chapter 10) -/

/-- A parse engine (R261–R263, R275): its window, registers, metadata, and the frame it holds. -/
structure Engine where
  window : Bytes
  g : List Nat
  m : List Nat
  c : Nat
  pc : Nat
  slots : Nat
  frame : Option Nat
  bank : Nat
  /-- its pass has ended and its result waits for a place in the result store (R260) -/
  waiting : Bool
  halted : Bool
  detached : Bool
  cause : Nat
  bp : Nat
  /-- the next instruction runs whatever the breakpoints say, after a resume or step -/
  pastBp : Bool
  /-- the four breakpoints' words -/
  bps : List Nat
  deriving DecidableEq, Repr

/-- An image being loaded (R272): its announced length and the bytes received. -/
structure ImageLoad where
  length : Nat
  data : Bytes
  deriving DecidableEq, Repr

/-- The parse engines. -/
structure PeState where
  engines : Tab Engine
  images : Tab Bytes
  load : Option ImageLoad
  /-- parse queues by input, and the input served last (R212) -/
  queues : Tab (List Nat)
  lastInput : Nat
  /-- frames of an input whose decision is awaited, in the order of their ready instants (R260) -/
  order : Tab (List Nat)
  /-- frames whose results the result store holds -/
  results : List Nat
  deriving DecidableEq, Repr

/-! ### Classification (chapter 11) -/

/-- A rule entry (R281, R286): its record and its life. -/
structure ClEntry where
  rule : Bytes
  birth : Nat
  settled : Bool
  death : Option Nat
  /-- its copy is uncorrectable: it matches in no turn (R292) -/
  broken : Bool
  deriving DecidableEq, Repr

/-- The open turn (R287): staged adds by rule ID, staged deletions, its miss action. -/
structure OpenTurn where
  adds : Tab Bytes
  dels : List Nat
  miss : Nat
  deriving DecidableEq, Repr

/-- A commit accepted and not yet at its instant (R288): whether it stalled, when it was accepted, its command where the
reply is still owed, the adds and deletions it places. -/
structure Commit where
  stalled : Bool
  accepted : Nat
  call : Option Call
  adds : Nat
  dels : Nat
  deriving DecidableEq, Repr

/-- The classification. -/
structure ClState where
  current : Nat
  open_ : Option OpenTurn
  commit : Option Commit
  entries : Tab ClEntry
  /-- miss actions by turn -/
  miss : Tab Nat
  hits : Tab Nat
  /-- the oldest carried turn the last sweep was made for -/
  swept : Nat
  deriving DecidableEq, Repr

end Sys2Proof.Machine
end

