-- ==== Sys2Proof/Machine/TypesFabric.lean ====
section
/-! DEFINITION. Plain data of the Tyeth fabric (chapter 14) beyond the TF registers. -/

namespace Sys2Proof.Machine

/-- One Tyeth link: its neighbour as the last hello gave it, and its link keys (R351). An empty key is none. -/
structure TfLink where
  lastHello : Nat
  neighbourUid : Nat
  peerCompat : Nat
  keyTx : Bytes
  keyRx : Bytes
  keyRxOld : Bytes
  keyIndex : Nat
  /-- frames sent under the link's present key, its 64-bit frame counter (R333) -/
  frames : Nat
  /-- the nonce of this end's outstanding offer, empty for none -/
  nonce : Bytes
  keyedAt : Nat
  deriving DecidableEq, Repr

/-- A link that has heard nothing. -/
def TfLink.blank : TfLink := ⟨0, 0, 0, [], [], [], 0, 0, [], 0⟩

/-- A device record in the database and its last refresh (R357). -/
structure DbEntry where
  record : DevRecord
  refreshed : Nat
  deriving DecidableEq, Repr

/-- A route update that waits for its activation (R363). -/
structure StagedRoutes where
  generation : Nat
  flood : Nat
  entries : Tab Nat
  uids : Tab Nat
  deriving DecidableEq, Repr

/-- What waits for the outcome of a remote request. -/
inductive RraFor where
  /-- a window write or a posted TF_RRA: nothing waits -/
  | nothing
  /-- the part of a window read, held under this number, that begins at this byte of it (R386, R387) -/
  | windowRead (id : Nat) (at_ : Int)
  /-- a PCIe AtomicOp (R390) -/
  | atomicOp (id : Nat)
  /-- command TF_RRA (R376) -/
  | command (c : Call)
  deriving DecidableEq, Repr

/-- An outstanding remote request (R367). `sent` tells whether it has left this device; `atomic` is the read-modify-write
it belongs to: 2 FetchAdd, 3 Swap, 4 CAS, 0 none; `oper` and `compare` are that operation's operands, and `old` the value
its lock read returned. -/
structure RraOut where
  init : Nat
  target : Nat
  tag : Nat
  op : Nat
  width : Nat
  be : Nat
  offset : Nat
  data : Nat
  issued : Nat
  waiter : RraFor
  atomic : Nat
  oper : Nat
  compare : Nat
  old : Nat
  deriving DecidableEq, Repr

/-- A fence that has not completed: its initiator, target, the tags it waits for, the failures so far, and its command
(R372). -/
structure Fence where
  init : Nat
  target : Nat
  tags : List Nat
  failures : Nat
  call : Call
  deriving DecidableEq, Repr

/-- The register-bus lock (R374): its holder, the offset, and the counter instant it was taken. -/
structure BusLock where
  device : Nat
  init : Nat
  offset : Nat
  taken : Nat
  deriving DecidableEq, Repr

/-- An access to the register space that waits for the lock's release (R374). -/
inductive LockWait where
  /-- a request from another device -/
  | remote (device : Nat) (r : Rra)
  /-- a write from the host or SPI: offset and data, 4 bytes or 8 -/
  | write (offset : Nat) (data : Bytes)
  /-- a BAR0 read -/
  | barRead (offset : Nat) (speculative : Bool)
  /-- a read through a window to this device, with the lane rule and whether it is speculative -/
  | windowRead (window : Nat) (offset width : Nat) (lane speculative : Bool)
  /-- a local AtomicOp: window (16 for BAR0), offset, width, lane, operation, operand and compare value -/
  | atomic (window offset width : Nat) (lane : Bool) (op oper compare : Nat)
  /-- SPI transactions -/
  | spiRead (offset words : Nat)
  | spiWrite (offset : Nat) (data : Bytes)
  /-- an access of the debug port: whether a write, its offset, its width in bytes, whether a read clears, its data -/
  | debug (write : Bool) (offset width : Nat) (clr : Bool) (data : Nat)
  deriving DecidableEq, Repr

/-- The fabric. -/
structure TfState where
  links : Tab TfLink
  /-- links whose protection is in effect until the next route generation (R365) -/
  protected_ : List Nat
  /-- loss instants of links whose protection has not taken effect (R346, R365) -/
  lost : Tab Nat
  db : Tab DbEntry
  dbChanged : Nat
  coordUid : Option Nat
  /-- the fabric identity record (R360): this device's persisted ID and the ID table -/
  persisted : Nat
  idTable : Tab Nat
  /-- IDs the coordinator has assigned, by UID -/
  assigned : Tab Nat
  routes : Tab Nat
  staged : Option StagedRoutes
  /-- the graph this coordinator last computed routes on: each device present and the neighbours it told of -/
  graph : List (Nat × List Nat)
  /-- this device's record as it was last flooded (R357) -/
  told : Option DevRecord
  /-- members whose acknowledgement of the staged routes the coordinator awaits -/
  ackWait : List Nat
  unreachableSince : Tab Nat
  nextTag : Tab Nat
  outstanding : List RraOut
  /-- requests held at 1,024 outstanding posted writes or 64 non-posted requests (R367, R371, R389) -/
  held : List RraOut
  fences : List Fence
  /-- per initiator (device * 4 + index): incarnation and last tag performed (R368) -/
  lastTag : Tab (Nat × Nat)
  lock : Option BusLock
  lockQueue : List LockWait
  /-- the deferred-error ring's records as little-endian numbers (R370) -/
  derr : Tab Nat
  derrLost : Bool
  dualSeq : Nat
  /-- by source device: the elimination of its dual copies (R366) -/
  dualSeen : Tab RecRun
  topology : Nat
  /-- frames the full queue 3 of the cipher engine has refused on their way to a link, not yet counted and reported (R315) -/
  refused : Nat
  /-- tags of posted writes declared FATE_UNKNOWN, to recognise late responses (R369) -/
  fate : List (Nat × Nat × Nat)
  deriving DecidableEq, Repr

end Sys2Proof.Machine
end

