-- ==== Sys2Proof/Machine/TypesGateway.lean ====
section
/-! DEFINITION. Plain data of the margin planner and the life record (chapter 2), the CAN engines and their message memory
(chapters 3 and 4), the signal gateway (chapters 5 to 7) and the check channels (chapter 12). -/

namespace Sys2Proof.Machine

/-! ### Margin planner and life record (chapter 2) -/

/-- The planner's state beyond the MP registers. -/
structure MpState where
  /-- device SI samples of the last second, newest first: (instant, SI in Q4.12) (R55, MP_SPEED) -/
  samples : List (Nat × Nat)
  /-- the bound exposure in progress: (start, lowest SI) (R51) -/
  exposure : Option (Nat × Nat)
  deratedAt : Nat
  lastRaise : Option Nat
  /-- since when SI has held the ample margin of the lowering row of Table 2.3 -/
  ampleSince : Option Nat
  /-- until when a lowering holds -/
  lowerHold : Nat
  /-- consecutive failed AVSBus transactions -/
  avsFails : Nat
  /-- Voltage writes put out since the last readback, and whether the command of MP_VDD_FIX is owed (R53, R54) -/
  avsWrites : Nat
  fixDue : Bool
  lastReadback : Nat
  /-- V_req125 by operating hour, newest first: (hours, µV) (R58) -/
  vreq : List (Nat × Nat)
  /-- the margin at the last event 0x0007 (R58) -/
  warnedAt : Option Nat
  started : Bool
  deriving DecidableEq, Repr

/-- One entry of the life record's offender table (Table 2.6, R69). -/
structure Offender where
  channel : Nat
  group : Nat
  node : Nat
  count : Nat
  seconds : Nat
  longestMs : Nat
  deriving DecidableEq, Repr

/-- One checkpoint page of the life record (Table 2.6): its own fields and the counters it holds, by page offset. -/
structure LrPage where
  seq : Nat
  dt : Nat
  cause : Nat
  rotation : Nat
  grade : Nat
  lifeYears : Nat
  counts : Tab Nat
  ns : Tab Nat
  offenders : List Offender
  deriving DecidableEq, Repr

/-- The life record (R63–R69). `counts` holds each counter by its page offset; `ns` the time histograms by page offset, in
nanoseconds, settled up to `since`. -/
structure LrState where
  counts : Tab Nat
  ns : Tab Nat
  since : Nat
  offenders : List Offender
  /-- pages held, newest first -/
  pages : List LrPage
  view : Option LrPage
  lastCheckpoint : Nat
  written : Nat
  /-- the MRAM pages in rotation, and the place among them of the next one to be written (R63) -/
  rot : List Nat
  next : Nat
  /-- the MRAM pages that fail write verification -/
  worn : List Nat
  /-- the operating time at the last checkpoint, in ns (R64) -/
  opMark : Nat
  /-- the wake die's record of a completed switch-off (R66) -/
  cleanSwitchOff : Bool
  /-- a wake-die reset since: the next start counts an unclean shutdown (R499) -/
  wakeDieLost : Bool
  deriving DecidableEq, Repr

/-! ### Gateway elements -/

/-- One route behind an element, as it was built with (R137, R151): index, budget, stale action, whether recorded stale,
and the origin it packed. -/
structure RouteRec where
  route : Nat
  budget : Nat
  action : Nat
  stale : Bool
  origin : Origin
  deriving DecidableEq, Repr

/-- The gateway's record of an element it placed: its template (0xFFFE a forwarded copy), its routes, and for a forwarded
copy its origin and budget (R135); the counter value a transmit check channel offered and the freshness value a
secured PDU entry offered (R302, R336). -/
structure GwRec where
  tpl : Nat
  routes : List RouteRec
  copy : Option (Origin × Nat)
  ckOffer : Option (Nat × Nat)
  secOffer : Option (Nat × Nat)
  deriving DecidableEq, Repr

/-! ### CAN engines (chapters 3 and 4) -/

/-- Who asked for a cancellation and is told of its resolution (R89). -/
inductive CancelBy where
  | buffer
  | queue
  | command (c : Call)
  deriving DecidableEq, Repr

/-- A pending transmit element: its index (R100), whether a host element, the gateway's record, the cancellations that
wait for the end of its attempt, whether the device removes it then (R89), whether it is being rebuilt (R87), for a second
slot of R82 the element whose attempt had begun, the instant at which it became pending (R85), and whether a sweep has
marked a host element's own origin (R26). -/
structure Pend where
  idx : Nat
  host : Bool
  gw : Option GwRec
  cancels : List CancelBy
  removing : Bool
  rebuilding : Bool
  secondOf : Option Nat
  since : Nat
  unknown : Bool
  deriving DecidableEq, Repr

/-- A selection point (R85, R86): its instant; the projected start-of-frame; the instant by which the candidate must be
ready, which is the start-of-frame or another node's earlier one; whether the channel starts its frame then, or another
node's frame keeps it from it. -/
structure SelPoint where
  at_ : Nat
  sof : Nat
  due : Nat
  starts : Bool
  deriving DecidableEq, Repr

/-- The candidate offered: its element, the selection point that chose it, and the content it starts with. From the start of
its frame on its attempt has begun (R82, R87). -/
structure Offer where
  idx : Nat
  point : SelPoint
  frame : CanFrame
  deriving DecidableEq, Repr

/-- A rebuild in progress: the element and the selection point it is for (R88). -/
structure Rebuild where
  idx : Nat
  point : SelPoint
  deriving DecidableEq, Repr

/-- Where a frame accepted for the host is stored (Table 4.5). -/
inductive StoreTo where
  | fifo (n : Nat)
  | mailbox (m : Nat)
  deriving DecidableEq, Repr

/-- A store into message memory: its target, the frame and the words its element will hold beside the data, and the
element it goes to once it has begun (R110, R111). -/
structure Store where
  target : StoreTo
  frame : CanFrame
  stamp : Nat
  epoch : Nat
  highPriority : Bool
  noMatch : Bool
  filter : Nat
  begun : Option Nat
  deriving DecidableEq, Repr

/-- A message memory partition (R100, R510). -/
structure Partition where
  txStart : Nat
  txSize : Nat
  txBuffers : Nat
  txqDepth : Nat
  gwShare : Nat
  fltStart : Nat
  fltCap : Nat
  rxStart : Tab Nat
  rxCount : Tab Nat
  rxSize : Tab Nat
  mbStart : Nat
  mbCount : Nat
  mbSize : Nat
  efStart : Nat
  efCount : Nat
  deriving DecidableEq, Repr

/-- One CAN channel beyond its registers and its message memory. -/
structure CanCh where
  /-- the mode to take at the next bus idle (R78) -/
  pendingMode : Option Nat
  /-- pending elements in the order in which they became pending (R83) -/
  pends : List Pend
  offer : Option Offer
  rebuild : Option Rebuild
  /-- a selection point whose candidate has been removed since: the next one is due (Table 3.6 t1) -/
  again : Option SelPoint
  /-- stores in acceptance order; the head is the one in progress (R110) -/
  stores : List Store
  rxStored : Tab Nat
  efStored : Nat
  part : Partition
  /-- a write has left the partition unchecked (R510) -/
  unchecked : Bool
  /-- the channel was the transmitter of the preceding frame (R85) -/
  transmittedLast : Bool
  busOffAt : Nat
  /-- the hold-off latched at bus-off entry, ms (R91) -/
  holdoff : Nat
  /-- since when recessive sequences are being counted, and how many had been then (R91, R95) -/
  recovAt : Nat
  recovBase : Nat
  /-- where the secondary sample point of the last frame lay, in CAN clocks (R75) -/
  secondary : Option Nat
  cloakIgnored : Nat
  cloakGroup : Nat
  deriving DecidableEq, Repr

/-! ### Signal gateway (chapters 5 to 7) -/

/-- A signal slot (Table 5.4). -/
structure Slot where
  value : Nat
  origin : Int
  uOrigin : Nat
  fanFirst : Nat
  fanCount : Nat
  uc : Nat
  nd : Bool
  written : Bool
  wip : Bool
  remote : Bool
  ageUnknown : Bool
  clamped : Bool
  kind : Nat
  device : Nat
  channel : Nat
  epoch : Nat
  writer : Nat
  index : Nat
  deriving DecidableEq, Repr

/-- A signal update record waiting for its destination device (R140): the sending slot, the destination slot, the slot's
content when it was queued, and its value bytes. -/
structure SigRec where
  fromSlot : Nat
  toSlot : Nat
  slot : Slot
  value : Bytes
  deriving DecidableEq, Repr

/-- What the gateway keeps per template beside its table entry: the cycle grid (anchor and the offset in force, in ns, R162),
the last build on each target (R164), a deferred build, since when its stale-map bit is set (R172), and the kind its target
stream had when the template was written (R180). -/
structure TplRun where
  anchor : Option Nat
  offset : Nat
  /-- the cycle instant taken last, so that none is taken twice -/
  lastCycle : Option Nat
  lastBuild : Tab Nat
  deferred : Option Nat
  staleSince : Nat
  streamKind : Nat
  deriving DecidableEq, Repr

/-- A trigger that waits for the end of a rebuild of its template's element (R170): an on-change or deferred one, a cycle
instant, or SG_TPL_TRIGGER. -/
inductive Trigger where
  | change
  | cycle
  | command (c : Call)
  deriving DecidableEq, Repr

/-- A message of an open ACF PDU (R184): the frame, its channel of origin (none for a template element), its origin, and
the gateway's record (none for a mirror copy). -/
structure StreamItem where
  frame : CanFrame
  channel : Option Nat
  origin : Origin
  gw : Option GwRec
  deriving DecidableEq, Repr

/-- A transmit stream at run time: the open PDU's items and opening instant, and the sequence numbers (R181, R185, R190). -/
structure StreamTx where
  items : List StreamItem
  openedAt : Nat
  seq : Nat
  encapSeq : Nat
  deriving DecidableEq, Repr

/-- A receive stream at run time (R187): the last accepted sequence and its instant, none before the first PDU after the
entry became valid. -/
structure StreamRx where
  last : Nat
  acceptedAt : Option Nat
  deriving DecidableEq, Repr

/-- A frame the gateway has handed to the switch core: its class, its bytes, and what becomes of the counters and freshness
values of its content when it enters (R303, R336). -/
structure SgFrame where
  cls : Nat
  bytes : Bytes
  left : List (Option (Nat × Nat) × Option (Nat × Nat))
  deriving DecidableEq, Repr

/-- A channel's token bucket (R168): tokens in units of 10^-9 token, as of an instant. -/
structure Bucket where
  units : Nat
  at_ : Nat
  deriving DecidableEq, Repr

/-- The signal gateway. Tables hold each entry as the little-endian number of its bytes. -/
structure SgState where
  slots : Tab Slot
  routes : Tab Nat
  canRoutes : Tab Nat
  rxPdus : Tab Nat
  unpacks : Tab Nat
  destLists : Tab Nat
  convs : Tab Nat
  fanOut : Tab Nat
  templates : Tab Nat
  staleParams : Tab Nat
  streams : Tab Nat
  /-- allocated runs of byte-array blocks, by first block: length in blocks (R127, R157) -/
  runs : Tab Nat
  tplRun : Tab TplRun
  /-- templates waiting on a channel (R167) -/
  waiters : Tab (List Nat)
  buckets : Tab Bucket
  /-- records queued for a destination device (R140) -/
  records : Tab (List SigRec)
  streamTx : Tab StreamTx
  streamRx : Tab StreamRx
  mirrorSeen : Tab Nat
  /-- check channel entries (table 12, R297) -/
  checks : Tab Nat
  /-- triggers that wait for the end of a rebuild, by template, in order of arrival (R170) -/
  held : List (Nat × Trigger)
  /-- frames the gateway has handed to the switch core through the SGW port, oldest first (R177) -/
  toSwitch : List SgFrame
  enabledAt : Nat
  readyAt : Nat
  deriving DecidableEq, Repr

end Sys2Proof.Machine
end

