-- ==== Sys2Proof/Machine/TypesHost.lean ====
section
/-! DEFINITION. Plain data of the host bridge (chapter 15) beyond the HB registers. -/

namespace Sys2Proof.Machine

/-- A window read to another device, from its issue until it completes, is collected or is discarded (R386, R387): the
window, its target offset, its width in bytes, the window's configuration at arrival, how many fabric reads are still
awaited, the first failure status and the bytes so far, and when the last result arrived. `attached` tells that a host read
waits for it now, `deferred` that it is one of the entries the bridge holds, `discard` that its result is dropped on arrival. -/
structure HeldRead where
  id : Nat
  window : Nat
  offset : Nat
  width : Nat
  config : Nat
  lane : Bool
  attached : Bool
  deferred : Bool
  speculative : Bool
  discard : Bool
  /-- since when HB_RD_WAIT runs for the waiting host read -/
  since : Nat
  waiting : Nat
  status : Nat
  bytes : Bytes
  arrived : Option Nat
  deriving DecidableEq, Repr

/-- A PCIe AtomicOp in progress (R390): its window (16 for BAR0), target offset, width and lane rule. -/
structure HeldAtomic where
  id : Nat
  window : Nat
  offset : Nat
  width : Nat
  lane : Bool
  since : Nat
  deriving DecidableEq, Repr

/-- The host bridge beyond its registers. -/
structure HbState where
  reads : List HeldRead
  atomics : List HeldAtomic
  nextId : Nat
  /-- rings whose completion interrupt is pending (R392 sources 40–47) -/
  ringIrq : Nat
  /-- MSI-X table dwords that differ from reset, by dword number, and the pending bits -/
  msix : Tab Nat
  pba : Nat
  /-- descriptors a host ring holds, from its head on -/
  rings : Tab (List HostDesc)
  deriving DecidableEq, Repr

end Sys2Proof.Machine
end

