-- ==== Sys2Proof/Machine/TypesPower.lean ====
section
/-! DEFINITION. Plain data of the wake die (chapter 17), of starts and updates (chapter 18) and of the lifecycle and the debug
port (chapter 19), beyond their registers. -/

namespace Sys2Proof.Machine

/-! ### The wake die -/

/-- A node that requests its group: until when, and the channel of its latest NM frame (R431). -/
structure WkNode where
  node : Nat
  channel : Nat
  until_ : Nat
  deriving DecidableEq, Repr

/-- A sleep group (R430–R437): its state (0 disabled, 1 AWAKE, 2 READY, 3 PREPARE, 4 SLEEP) and since when, the members its
latest state change found, the local request, the end of its wake hold, the requesting nodes, the bitmap of nodes seen, the
watched node with the start of its watch and whether it is an offender, the last wake source, and the next NM period. -/
structure WkGroup where
  state : Nat
  since : Nat
  members : List Nat
  local_ : Bool
  holdEnd : Option Nat
  nodes : List WkNode
  seen : Nat
  watch : Option (WkNode × Nat × Bool)
  lastSrc : Nat
  nextNm : Nat
  deriving DecidableEq, Repr

/-- A schedule entry (R440): hold and period in ms, the first DT in ns. -/
structure WkSched where
  valid : Bool
  hold : Nat
  period : Nat
  first : Nat
  deriving DecidableEq, Repr

/-- A return in progress (R443): its wake source, the recognition instant, and the scheduled occurrence it precedes, with its
entry. -/
structure WkReturn where
  src : Nat
  at_ : Nat
  occurrence : Option (Nat × Nat)
  deriving DecidableEq, Repr

/-- The wake die. -/
structure WkState where
  groups : Tab WkGroup
  sched : Tab WkSched
  /-- the state being entered (2 Doze, 3 Standby, 4 Hibernate), none while no entry is in progress (R442) -/
  entry : Option Nat
  ret : Option WkReturn
  /-- the switch-off instant, and its DT -/
  offAt : Nat
  offDt : Nat
  /-- Ethernet ports whose link was up at the switch-off instant (R429) -/
  upPorts : Nat
  /-- events raised while the core die is off, oldest first: source, code, instance, DT, data (R445) -/
  heldEvents : List Event
  /-- the instant and the source code of the latest wake counted (R445) -/
  counted : Option (Nat × Nat)
  /-- every STB output is high until start step 12 has completed or been skipped since wake-die power-on (R424) -/
  stbFree : Bool
  deriving DecidableEq, Repr

/-! ### Starts and updates -/

/-- The start record (Table 18.4). `slot_state` is with the slots; `fails` and `alt` by step. -/
structure StartRecord where
  seq : Nat
  failStep : Nat
  failReason : Nat
  state : Nat
  fw : Nat
  prevValid : Bool
  ws : Nat
  tbl : Nat
  confirmReq : Bool
  recovery : Bool
  fabPrepared : Bool
  trialStarts : Nat
  fails : Tab Nat
  alt : Nat
  verActive : Nat
  verPrev : Nat
  genActive : Nat
  genPrev : Nat
  startCount : Nat
  fabId : Nat
  fabDecision : Nat
  commitAt : Nat
  fabMembers : Nat
  secverMin : Nat
  deriving DecidableEq, Repr

/-- How a copy of a two-copy record stands: its data with their check, its data under a check that does not match, other data, or the
whole of the record before the last write (R308, R455). -/
inductive CopyState where
  | good
  | badCheck
  | badData
  | older
  deriving DecidableEq, Repr

/-- The two copies of a record. -/
structure TwoCopies where
  a : CopyState
  b : CopyState
  deriving DecidableEq, Repr

/-- A firmware or table slot of the external flash (R457): its state (Table 18.4), its header, the body bytes programmed, and
how far it is erased. -/
structure ImageSlot where
  state : Nat
  header : Bytes
  body : Bytes
  erased : Nat
  deriving DecidableEq, Repr

/-- An image being received (R459, R460): the slot, its kind, whether it is encrypted and its cipher request, the header, the
body as it was sent, and the tag of the command that opened it. -/
structure Upload where
  slot : Nat
  kind : Nat
  enc : Bool
  keySlot : Nat
  iv : Bytes
  header : Bytes
  data : Bytes
  request : Option Nat
  tag : Nat
  deriving DecidableEq, Repr

/-- A settings generation (R468): its number and schema, the register words it holds by address, the schedule, and the journal
bytes it takes. -/
structure Generation where
  number : Nat
  schema : Nat
  regs : Tab Nat
  sched : Tab WkSched
  size : Nat
  deriving DecidableEq, Repr

/-- A fabric commit at its initiator (R467). -/
structure FabCommit where
  started : Nat
  call : Option Call
  /-- members that replied PREPARED, with their target's compat -/
  prepared : Tab Nat
  failing : Nat
  acked : List Nat
  decided : Bool
  deriving DecidableEq, Repr

/-- The table snapshot in MRAM (R470), and the slots and generation its seal names. `words` are the entries of table 13
without their freshness values; `rules` the live rules of the turn current then, with their miss action. -/
structure Snapshot where
  fw : Nat
  tbl : Nat
  gen : Nat
  sg : SgState
  ext : List Host.Cell
  sw : SwState
  vlans : Tab Nat
  nextHops : Tab Nat
  statics : Tab Nat
  pfx4 : Tab Nat
  pfx6 : Tab Nat
  words : Tab Nat
  profiles : Tab Nat
  rules : List Bytes
  miss : Nat
  deriving DecidableEq, Repr

/-- Starts, images, settings (chapter 18). -/
structure BtState where
  record : StartRecord
  /-- the start record before its last write, and how the copies of each kind of two-copy record stand (R308) -/
  before : StartRecord
  copies : Tab TwoCopies
  slots : Tab ImageSlot
  upload : Option Upload
  /-- kinds the latest activation covers, and those a preparation covers: bit 0 firmware, bit 1 table -/
  kinds : Nat
  preparing : Nat
  /-- the manifest of the firmware that runs, from step 9 on -/
  running : Bytes
  gens : List Generation
  /-- why the core die awaits a start (SYS_RESET_CAUSE encoding), none while it runs -/
  due : Option Nat
  /-- when the start that follows a failure begins (R451) -/
  retryAt : Option Nat
  /-- the step that hangs, and since when (R450) -/
  hung : Option (Nat × Nat)
  /-- supply rails below their thresholds, and RESET_N low (bit 3): what holds the core die in reset (R499, R500) -/
  holds : Nat
  /-- VBAT below the wake die's threshold -/
  vbatLow : Bool
  /-- the header digest held in wake-die SRAM (R470) -/
  digest : Option Bytes
  fab : Option FabCommit
  lastQuery : Nat
  /-- COMMIT told to this member, until it restarts (R467) -/
  told : Bool
  snapshot : Option Snapshot
  deriving DecidableEq, Repr

/-! ### Lifecycle and debug -/

/-- A control processor as the debug port sees it (R481): halted and why, its program counter, and the words of its memory and
its breakpoints that are known. -/
structure CpDebug where
  halted : Bool
  cause : Nat
  bp : Nat
  pc : Nat
  maddr : Nat
  words : Tab Nat
  bps : Tab Nat
  deriving DecidableEq, Repr

/-- Lifecycle, unlock, alarms and the TAP (chapter 19). -/
structure LcState where
  /-- the device secret is fused; the returned derivation is in use; the derivation fuse is blown (R475) -/
  secret : Bool
  returned : Bool
  blown : Bool
  /-- the challenge nonce and its issue instant (R483) -/
  chal : Option (Bytes × Nat)
  lockoutEnd : Nat
  sessionEnd : Nat
  /-- the level the unlock of the session in progress asked for -/
  asked : Nat
  /-- when the core-die reset of a voltage or clock alarm is due (R488) -/
  resetAt : Option Nat
  /-- what the next Capture-DR of DBG_ACCESS shows (Table 19.4): bits [3:0], with the state in [1:0]; status; data -/
  dbgState : Nat
  dbgStatus : Nat
  dbgData : Nat
  /-- the boundary scan register and whether EXTEST drives it -/
  bscan : Nat
  driving : Bool
  /-- the TAP's instruction register -/
  ir : Nat
  cps : Tab CpDebug
  /-- since when some processor is halted -/
  haltedAt : Nat
  deriving DecidableEq, Repr

end Sys2Proof.Machine
end

