-- ==== Sys2Proof/Machine/State.lean ====
section
/-! DEFINITION. The state of the device as the host sees it, the reasons a step can stop, and the state after reset. -/

namespace Sys2Proof.Machine

/-- Reasons a step ends in a fault. Raised by no meaning of this model: the device answers every command it can be given
with a state, and reports its errors in status codes, counters and events (safe). -/
inductive Fault where
  /-- never raised -/
  | none_
  deriving DecidableEq, Repr

/-- Reasons a command is refused. -/
inductive Refusal where
  /-- an arm of `exec` with no meaning yet raises it; safe -/
  | notModelled (mnemonic : String)
  deriving DecidableEq, Repr

/-- The device. `now` is the counter instant in ns of the 250 MHz counter clock since start step 3 (R13, R14); `regs` holds
every register field by its key, a field not listed being at its reset value; the fields between are the blocks' state
beyond their registers; `out`, `freeCtr` and `pending` are the model's own: what the device has put out, how many free
values have been drawn, and the commands that wait, first in first out. -/
structure State where
  now : Nat
  regs : Tab Nat
  /-- pending interrupt sources by number (R392) -/
  irq : Nat
  dt : DtState
  ev : EvState
  mp : MpState
  lr : LrState
  can : Tab CanCh
  /-- the 64 KiB CAN message memory of each channel, channel n at n * 65536 (R99) -/
  mem : Memory
  sg : SgState
  /-- the byte-array area, block b at b * 64 (R127) -/
  ba : Memory
  cx : CxState
  sw : SwState
  ft : FtState
  pe : PeState
  cl : ClState
  tf : TfState
  hb : HbState
  cmd : CmdState
  wk : WkState
  bt : BtState
  lc : LcState
  out : List Out
  freeCtr : Nat
  pending : List Instr
  deriving DecidableEq, Repr

/-- Chapter 1 at power-on (R15): DT at 0, FREE_UNSYNC, no Sync accepted. -/
def DtState.reset : DtState where
  segs := [⟨0, 0, 0, 0⟩]
  usegs := [⟨0, true, 0, 0, 0, 0, 0, 0, 0⟩]
  measured := false
  history := []
  lastSync := 0
  slewing := false
  satRaised := false
  firstOffset := 0
  pending := none
  announce := []
  announceAt := []
  slave := none
  gm := none
  linkDelay := []
  pdelaySent := []
  extPorts := none
  syncsSent := []
  captured := none

/-- Event paths at power-on: nothing buffered, nothing limited. -/
def EvState.reset : EvState := ⟨[], 0, [], []⟩

/-- The planner at power-on: no sample yet. -/
def MpState.reset : MpState where
  samples := []
  exposure := none
  deratedAt := 0
  lastRaise := none
  ampleSince := none
  lowerHold := 0
  avsFails := 0
  avsWrites := 0
  fixDue := false
  lastReadback := 0
  vreq := []
  warnedAt := none
  started := false

/-- A part with a fresh life record (R63): no page written, every counter 0. -/
def LrState.reset : LrState where
  counts := []
  ns := []
  since := 0
  offenders := []
  pages := []
  view := none
  lastCheckpoint := 0
  written := 0
  rot := List.range 240
  next := 0
  worn := []
  opMark := 0
  cleanSwitchOff := false
  wakeDieLost := false

/-- The reset partition, which counts as checked (R510): the values of CAN_TXCFG and CAN_MM_TX at reset, no other region. -/
def Partition.reset : Partition := ⟨0, 7, 16, 64, 32, 0, 0, [], [], [], 0, 0, 7, 0, 0⟩

/-- A CAN channel at power-on. -/
def CanCh.reset : CanCh where
  pendingMode := none
  pends := []
  offer := none
  rebuild := none
  again := none
  stores := []
  rxStored := []
  efStored := 0
  part := Partition.reset
  unchecked := false
  transmittedLast := false
  busOffAt := 0
  holdoff := 0
  recovAt := 0
  recovBase := 0
  secondary := none
  cloakIgnored := 0
  cloakGroup := 0

/-- The signal gateway at power-on: every table empty. -/
def SgState.reset : SgState where
  slots := []
  routes := []
  canRoutes := []
  rxPdus := []
  unpacks := []
  destLists := []
  convs := []
  fanOut := []
  templates := []
  staleParams := []
  streams := []
  runs := []
  tplRun := []
  waiters := []
  buckets := []
  records := []
  streamTx := []
  streamRx := []
  mirrorSeen := []
  checks := []
  held := []
  toSwitch := []
  enabledAt := 0
  readyAt := 0

/-- The fabric at power-on: no link trained, no identity persisted. -/
def TfState.reset : TfState where
  links := []
  protected_ := []
  lost := []
  db := []
  dbChanged := 0
  coordUid := none
  persisted := 0
  idTable := []
  assigned := []
  routes := []
  staged := none
  graph := []
  told := none
  ackWait := []
  unreachableSince := []
  nextTag := []
  outstanding := []
  held := []
  fences := []
  lastTag := []
  lock := none
  lockQueue := []
  derr := []
  derrLost := false
  dualSeq := 0
  dualSeen := []
  topology := 0
  refused := 0
  fate := []

/-- The cipher engine before start step 8: every slot EMPTY, no entry valid. -/
def CxState.reset : CxState where
  slots := []
  stored := []
  reqs := []
  nextReq := 0
  rr := 7
  voids := []
  secPdus := []
  secStats := []
  reserveUp := 0
  journal := 0
  profiles := []
  secys := []
  txSas := []
  rxSas := []
  sent := []
  verifKeys := []

/-- The host bridge at power-on: nothing held, every MSI-X vector masked. -/
def HbState.reset : HbState := ⟨[], [], 0, 0, [], 0, []⟩

/-- The command transports at power-on. -/
def CmdState.reset : CmdState where
  long := []
  held := []
  forwards := []
  nonces := []
  spiReply := none
  spiBusy := false
  spiDiscarded := false
  late := []
  enabling := 0
  subs := []
  seqRecorded := []
  seqAccepted := []

/-- The switch core at power-on: empty. -/
def SwState.reset : SwState where
  frames := []
  nextId := 0
  receiving := []
  arrived := []
  voqs := []
  sending := []
  served := []
  mirrorSeen := []
  streams := []
  policers := []
  gens := []
  recs := []
  meters := []
  recRuns := []
  polStats := []
  cbStats := []
  operLists := []
  adminLists := []
  credits := []
  shadows := []

/-- The forwarding tables at power-on: empty. -/
def FtState.reset : FtState := ⟨[], [], [], [], [], [], [], [], [], []⟩

/-- An engine at power-on: free. -/
def Engine.reset : Engine where
  window := []
  g := List.replicate 16 0
  m := List.replicate 16 0
  c := 0
  pc := 0
  slots := 0
  frame := none
  bank := 0
  waiting := false
  halted := false
  detached := false
  cause := 0
  bp := 0
  pastBp := false
  bps := [0, 0, 0, 0]

/-- The parse engines at power-on: no image. -/
def PeState.reset : PeState := ⟨[], [], none, [], 18, [], []⟩

/-- The classification after a core-die power-up (R291): turn 0, no entries, the reset miss action. -/
def ClState.reset : ClState := ⟨0, none, none, [], [(0, 1)], [], 0⟩

/-- The wake die at power-on: no group, no schedule. -/
def WkState.reset : WkState where
  groups := []
  sched := []
  entry := none
  ret := none
  offAt := 0
  offDt := 0
  upPorts := 0
  counted := none
  heldEvents := []
  stbFree := false

/-- The start record of a part no start has written (Table 18.4). -/
def StartRecord.reset : StartRecord where
  seq := 0
  failStep := 0
  failReason := 0
  state := 0
  fw := 0
  prevValid := false
  ws := 0
  tbl := 0
  confirmReq := false
  recovery := false
  fabPrepared := false
  trialStarts := 0
  fails := []
  alt := 0
  verActive := 0
  verPrev := 0
  genActive := 0
  genPrev := 0
  startCount := 0
  fabId := 0
  fabDecision := 0
  commitAt := 0
  fabMembers := 0
  secverMin := 0

/-- Every slot EMPTY, no settings generation, no start due. -/
def BtState.reset : BtState where
  record := StartRecord.reset
  before := StartRecord.reset
  copies := []
  slots := []
  upload := none
  kinds := 0
  preparing := 0
  running := []
  gens := []
  due := none
  retryAt := none
  hung := none
  holds := 0
  vbatLow := false
  digest := none
  fab := none
  lastQuery := 0
  told := false
  snapshot := none

/-- A BLANK part whose device secret is fused (DESIGN CHOICE, assumption 41): the TAP at IDCODE, no session. -/
def LcState.reset : LcState where
  secret := true
  returned := false
  blown := false
  chal := none
  lockoutEnd := 0
  sessionEnd := 0
  asked := 0
  resetAt := none
  dbgState := 0
  dbgStatus := 0
  dbgData := 0
  bscan := 0
  driving := false
  ir := 2
  cps := []
  haltedAt := 0

/-- The device right after reset. -/
def State.reset : State where
  now := 0
  regs := []
  irq := 0
  dt := DtState.reset
  ev := EvState.reset
  mp := MpState.reset
  lr := LrState.reset
  can := []
  mem := []
  sg := SgState.reset
  ba := []
  cx := CxState.reset
  sw := SwState.reset
  ft := FtState.reset
  pe := PeState.reset
  cl := ClState.reset
  tf := TfState.reset
  hb := HbState.reset
  cmd := CmdState.reset
  wk := WkState.reset
  bt := BtState.reset
  lc := LcState.reset
  out := []
  freeCtr := 0
  pending := []

end Sys2Proof.Machine
end

