-- ==== Sys2Proof/Machine/Table.lean ====
section
/-! DEFINITION. Sparse tables: the one container the state keeps numbered things in. Entries stand in rising order of
their number, so equal tables are equal data; a reading of a number not listed answers its owner's default. -/

namespace Sys2Proof.Machine

/-- The entry at `k`. -/
def Tab.find {α : Type} : Tab α → Nat → Option α
  | [], _ => none
  | (n, v) :: t, k => if n = k then some v else Tab.find t k

/-- The entry at `k`, or `d`. -/
def Tab.get {α : Type} (t : Tab α) (k : Nat) (d : α) : α := (Tab.find t k).getD d

/-- The table with `v` at `k`, in rising order. -/
def Tab.put {α : Type} : Tab α → Nat → α → Tab α
  | [], k, v => [(k, v)]
  | (n, x) :: t, k, v =>
    if k < n then (k, v) :: (n, x) :: t
    else if n = k then (k, v) :: t
    else (n, x) :: Tab.put t k v

/-- The table without an entry at `k`. -/
def Tab.del {α : Type} : Tab α → Nat → Tab α
  | [], _ => []
  | (n, x) :: t, k => if n = k then Tab.del t k else (n, x) :: Tab.del t k

/-- The table that answers `v` at `k`, listing it only where it differs from the default `d`. -/
def Tab.set {α : Type} [DecidableEq α] (t : Tab α) (k : Nat) (d v : α) : Tab α :=
  if v = d then Tab.del t k else Tab.put t k v

/-- The table with the entry at `k` changed by `f`, starting from `d` where none is listed. -/
def Tab.upd {α : Type} (t : Tab α) (k : Nat) (d : α) (f : α → α) : Tab α :=
  Tab.put t k (f (Tab.get t k d))

/-- The numbers listed. -/
def Tab.keys {α : Type} (t : Tab α) : List Nat := t.map Prod.fst

/-- Every listed entry changed by `f`. -/
def Tab.mapAll {α β : Type} (f : Nat → α → β) (t : Tab α) : Tab β := t.map (fun p => (p.1, f p.1 p.2))

/-- The entries that satisfy `p`. -/
def Tab.keep {α : Type} (p : Nat → α → Bool) (t : Tab α) : Tab α := t.filter (fun e => p e.1 e.2)

/-- Whether the numbers rise strictly from above `b`. -/
def Tab.risesFrom {α : Type} : Option Nat → Tab α → Bool
  | _, [] => true
  | none, (n, _) :: t => Tab.risesFrom (some n) t
  | some b, (n, _) :: t => decide (b < n) && Tab.risesFrom (some n) t

end Sys2Proof.Machine
end

