-- ==== Sys2Proof/Machine/Ops.lean ====
section
/-! DEFINITION. The operations every chapter shares: register fields, the counter clock, device time as it reads, free
values, fabric frames leaving the device, the rate limiter of events, and the raising and delivery of event records. -/

namespace Sys2Proof.Machine

/-! ### Register fields -/

/-- The value of field `f`, instance `(i, j)`. -/
def rd (s : State) (f : Fld) (i : Nat := 0) (j : Nat := 0) : Nat := Tab.get s.regs (f.key i j) (f.resetAt i j)

/-- Field `f`, instance `(i, j)`, set to the low bits of `v`. -/
def wr (s : State) (f : Fld) (v : Nat) (i : Nat := 0) (j : Nat := 0) : State :=
  { s with regs := Tab.set s.regs (f.key i j) (f.resetAt i j) (v % 2 ^ f.len) }

/-- A one-bit field as a Boolean; a wider one tells whether it is not 0. -/
def rdB (s : State) (f : Fld) (i : Nat := 0) (j : Nat := 0) : Bool := rd s f i j != 0

/-- A counter field raised by `n`, saturating (R41 and the like: statistics saturate). -/
def bumpBy (s : State) (f : Fld) (n : Nat) (i : Nat := 0) (j : Nat := 0) : State :=
  wr s f (min (rd s f i j + n) (2 ^ f.len - 1)) i j

/-- A counter field raised by 1, saturating. -/
def bump (s : State) (f : Fld) (i : Nat := 0) (j : Nat := 0) : State := bumpBy s f 1 i j

/-- Bit `k` of a field set. -/
def setBitF (s : State) (f : Fld) (k : Nat) (i : Nat := 0) (j : Nat := 0) : State :=
  wr s f (orBit (rd s f i j) k) i j

/-- Bit `k` of a field cleared. -/
def clrBitF (s : State) (f : Fld) (k : Nat) (i : Nat := 0) (j : Nat := 0) : State :=
  wr s f (clrBit (rd s f i j) k) i j

/-! ### The counter clock and free values -/

/-- The counter clock at the instant a command comes about; it never runs back. -/
def tick (t : Nat) (s : State) : State := { s with now := max s.now t }

/-- One second, millisecond and microsecond of the counter clock. -/
def sec : Nat := 1000000000
def ms : Nat := 1000000
def us : Nat := 1000

/-- The state after a free value has been drawn. -/
def drawn (s : State) : State := { s with freeCtr := s.freeCtr + 1 }

/-- The next free number, within `lo..hi`. -/
def freeIn (s : State) (lo hi : Nat) : Nat := lo + Config.freeNat s.freeCtr % (hi - lo + 1)

/-- The next `n` free bytes. -/
def freeBytes (s : State) (n : Nat) : Bytes := bytesOf n (Config.freeByte s.freeCtr)

/-- The state with one more thing put out. -/
def emit (s : State) (o : Out) : State := { s with out := s.out ++ [o] }

/-! ### Device time (R13, R14) -/

/-- The stretch of device time in force at counter instant `t`. -/
def segAt (s : State) (t : Nat) : DtSeg :=
  ((s.dt.segs.find? (fun g => decide (g.t0 ≤ t))).orElse (fun _ => s.dt.segs.getLast?)).getD ⟨0, 0, 0, 0⟩

/-- DT of stretch `g` at counter instant `t`, in units of 2^-32 ns: 4 ns and the adjustment per 4 ns edge. -/
def segDt (g : DtSeg) (t : Nat) : Nat :=
  ((g.dt0 : Int) + ((t / 4 - g.t0 / 4 : Nat) : Int) * (17179869184 + g.adj)).toNat

/-- DT in ns at counter instant `t`: its value at the last counter edge at or before `t` (R14). -/
def dtAt (s : State) (t : Nat) : Nat := segDt (segAt s t) t / 4294967296 % 2 ^ 64

/-- DT now. -/
def dtNow (s : State) : Nat := dtAt s s.now

/-- The step epoch at counter instant `t` (R25). -/
def epochAt (s : State) (t : Nat) : Nat := (segAt s t).epoch

/-- Whether DT is synchronised: exactly in LOCKED (2) and HOLDOVER (3) (R16). -/
def dtSynced (s : State) : Bool :=
  rd s Reg.DT_STATUS.state == 2 || rd s Reg.DT_STATUS.state == 3

/-- The assigned fabric device ID, 0 for none. -/
def ownId (s : State) : Nat := rd s Reg.TF_STATUS.device_id

/-- Whether the device is in TRANSIT_FULL (R361). -/
def transitFull (s : State) : Bool := rd s Reg.TF_STATUS.state == 3

/-! ### Fabric frames leaving the device (R347, R348, R363, R365, R366) -/

/-- The route entry to destination `d` (Table 14.8), w0 in the low word. -/
def routeOf (s : State) (d : Nat) : Nat := Tab.get s.tf.routes d 0

/-- Whether link `l` is UP. -/
def linkUp (s : State) (l : Nat) : Bool := decide (l < 4) && rd s Reg.TF_LINK_STATUS.state l == 3

/-- The link a frame for `d` is decided for: the primary, or the alternate where the primary's protection is in effect
(R365). -/
def routeLink (s : State) (d : Nat) : Option Nat :=
  let e := routeOf s d
  let l := if (s.tf.protected_).contains (bitsOf e 0 3) then bitsOf e 3 3 else bitsOf e 0 3
  if bitSet e 31 && decide (l < 4) then some l else none

/-- Whether destination `d` is reachable: a link of its entry is up, the primary only while not protected (R365). -/
def reachable (s : State) (d : Nat) : Bool :=
  let e := routeOf s d
  bitSet e 31 && rd s Reg.TF_STATUS.state == 2 &&
    ((linkUp s (bitsOf e 0 3) && !(s.tf.protected_).contains (bitsOf e 0 3)) || linkUp s (bitsOf e 3 3))

/-- Whether link `l` encrypts frames of type `typ` (R351). -/
def encrypts (s : State) (l typ : Nat) : Bool :=
  rdB s Reg.TF_LINK_STATUS.encrypted l &&
    ((decide (2 ≤ typ) && decide (typ ≤ 5)) || (decide (7 ≤ typ) && decide (typ ≤ 10)))

/-- The 16 bytes of a frame's header (Table 14.2). -/
def headerBytes (f : FabFrame) : Bytes :=
  leBytes 1 (f.typ % 16 + f.cls % 8 * 16 + b2n f.dual * 128) ++ leBytes 1 (f.hops % 128 + f.keyIx % 2 * 128) ++
    leBytes 1 (f.src % 64) ++ leBytes 1 (f.dst % 64 + b2n f.flood * 64 + b2n f.linkLocal * 128) ++ leBytes 1 (f.dstPort % 32) ++
    leBytes 1 (f.orgPort % 32) ++ leBytes 2 (f.vid % 4096 + f.pcp % 8 * 4096 + b2n f.dei * 32768) ++
    leBytes 2 f.payload.length ++ leBytes 2 f.seq ++ leBytes 1 (f.init % 4) ++ zeros 1 ++ leBytes 2 f.incarnation

/-- The IV of the frame counted `n` under a link key of 36 bytes: its salt, then the counter (R333). -/
def linkIv (key : Bytes) (n : Nat) : Bytes := key.drop 32 ++ beBytes 8 n

/-- Whether the cipher engine takes requests at all: enabled, its keys not erased (R322, R343). -/
def cipherOn (s : State) : Bool := rdB s Reg.CX_CTRL.en && !rdB s Reg.CX_STATUS.erased

/-- Requests waiting in queue `q`: those held here, and, in the queues whose requests hold nothing once they start, those that
wait for the engine's throughput alone, a free value of the queue and the instant (R315, R317, assumption 104). -/
def queueFill (s : State) (q : Nat) : Nat :=
  min 64 ((s.cx.reqs.filter (fun r => r.queue == q && r.pipe.isNone)).length +
    (if q = 0 ∨ q = 2 ∨ q = 3 then Config.cipherBacklog q s.now else 0))

/-- A frame put out on link `l`, with its tag where it is encrypted: TF_STAT_TX. -/
def sendOnLink (s : State) (l : Nat) (f : FabFrame) (tag : Bytes) : State := bump (emit s (.fabric l f tag)) Reg.TF_STAT_TX.value

/-- A frame for link `l` (R333, R351): in clear, or encrypted under the link's key with the next value of its frame counter;
discarded where the engine does not take it, noted where its queue is full (R315). -/
def putOnLink (s : State) (l : Nat) (f : FabFrame) : State :=
  let x := Tab.get s.tf.links l TfLink.blank
  if !encrypts s l f.typ then sendOnLink s l f []
  else if !cipherOn s || x.keyTx.isEmpty then s
  else if queueFill s 3 = 64 then { s with tf := { s.tf with refused := s.tf.refused + 1 } }
  else
    let f := { f with keyIx := x.keyIndex }
    let key := x.keyTx.take 32
    let iv := linkIv x.keyTx x.frames
    let c := gcmCrypt key iv f.payload
    let s := { s with tf := { s.tf with links := Tab.put s.tf.links l { x with frames := x.frames + 1 } } }
    sendOnLink s l { f with payload := c } (gcmTag key iv (headerBytes f) c)

/-- What became of a frame this device sent. -/
inductive Sent where
  | ok
  | flushed
  | noRoute
  deriving DecidableEq, Repr

/-- The header of a unicast frame this device originates. -/
def fabHeader (s : State) (typ cls dst : Nat) (payload : Bytes) : FabFrame where
  typ := typ
  cls := cls
  dual := false
  hops := 127
  keyIx := 0
  src := ownId s
  dst := dst
  flood := false
  linkLocal := false
  dstPort := 31
  orgPort := 31
  vid := 0
  pcp := 0
  dei := false
  seq := 0
  init := 0
  incarnation := 0
  payload := payload

/-- A unicast frame decided for its destination's link and sent: removed at enqueue while the link's loss awaits protection
(R346), discarded where no route exists (R365), and sent on the dual link as well where it is dual and its entry names a dual link, as in a dual ring it does (R366).
-/
def fabSend (s : State) (f : FabFrame) : State × Sent :=
  match routeLink s f.dst with
  | none => (bump s Reg.TF_STAT_NO_ROUTE.value, .noRoute)
  | some l =>
    if !reachable s f.dst then (bump s Reg.TF_STAT_NO_ROUTE.value, .noRoute)
    else if linkUp s l then
      let d := bitsOf (routeOf s f.dst) 6 3
      let dual := f.dual && linkUp s d && !(s.tf.protected_).contains d
      let f := { f with seq := if f.dual then s.tf.dualSeq else f.seq, dual := dual }
      let s := if f.dual then { s with tf := { s.tf with dualSeq := (s.tf.dualSeq + 1) % 65536 } } else s
      let s := putOnLink s l f
      (if dual then putOnLink s d f else s, .ok)
    else (bump s Reg.TF_STAT_FLUSH.value, .flushed)

/-! ### Command packets (R396, R397) -/

/-- A command packet or reply: header, body, CRC-32C trailer. -/
def packet (flags opcode tag dst src status seq : Nat) (body : Bytes) : Bytes :=
  let h : Bytes := leBytes 1 1 ++ leBytes 1 flags ++ leBytes 2 opcode ++ leBytes 2 tag ++ leBytes 2 body.length ++
    leBytes 1 dst ++ leBytes 1 src ++ leBytes 2 status ++ leBytes 4 seq
  let x := h ++ body
  x ++ leBytes 4 (crc32c x)

/-! ### Event records (R9, R416–R418, R509) -/

/-- The 32 bytes of an event record (Table 0.10). -/
def eventBytes (e : Event) (lostBefore : Bool) : Bytes :=
  leBytes 8 e.dt ++ leBytes 2 e.source ++ leBytes 2 e.code ++ leBytes 2 e.inst ++
    leBytes 2 (b2n e.synced + 2 * b2n lostBefore + e.origin * 1024) ++ padTo 16 e.data

/-- The key of the limiter for source, code and scope (R509). -/
def limitKey (src code scope : Nat) : Nat := (src * 65536 + code) * 65536 + scope

/-- `n` occurrences of a limited event at counter instant `now`: the limiter's table afterwards, and, where the event is
raised, the occurrences since its previous raising, these included (R509). -/
def limited (limits : Tab (Nat × Nat)) (now key n : Nat) : Tab (Nat × Nat) × Option Nat :=
  match Tab.find limits key with
  | none => (Tab.put limits key (now, 0), some n)
  | some (last, c) =>
    if last + sec ≤ now then (Tab.put limits key (now, 0), some (c + n))
    else (Tab.put limits key (last, c + n), none)

/-- A record stored in event ring `r`, or dropped where the ring is full; tells whether it was dropped (R417). -/
def ringStore (s : State) (r : Nat) (e : Event) : State × Bool :=
  if rdB s Reg.CMD_EVR_CFG.en r && bitSet (rd s Reg.CMD_EVR_MASK.mask r) (e.source - 1) then
    let size := 2 ^ rd s Reg.CMD_EVR_CFG.log2 r
    let put := rd s Reg.CMD_EVR_PUT.put r
    if (put + 1) % size = rd s Reg.CMD_EVR_GET.get r % size then
      let s := bump s Reg.CMD_STAT_EVR_DROP.value
      let s := wr s Reg.CMD_INT_STATUS.evr_ovf 1
      ({ s with ev := { s.ev with ringLost := Tab.put s.ev.ringLost r true } }, true)
    else
      let lost := Tab.get s.ev.ringLost r false
      let s := emit s (.hostWrite (rd s Reg.CMD_EVR_BASE.base r + 32 * put) (eventBytes e lost))
      let s := wr s Reg.CMD_EVR_PUT.put ((put + 1) % size) r
      let s := setBitF s Reg.CMD_INT_STATUS.evr r
      ({ s with ev := { s.ev with ringLost := Tab.put s.ev.ringLost r false } }, false)
  else (s, false)

/-- A record stored in the event buffer of 256; tells whether one was dropped (R416). -/
def bufferStore (s : State) (e : Event) : State × Bool :=
  if s.ev.buffer.length < 256 then ({ s with ev := { s.ev with buffer := s.ev.buffer ++ [e] } }, false)
  else ({ s with ev := { s.ev with buffer := s.ev.buffer.drop 1 ++ [e], dropped := s.ev.dropped + 1 } }, true)

/-- A record sent to the collector as SYS_EVENT_PUSH where forwarding covers its source; tells whether it was dropped
(R418). -/
def forwardEvent (s : State) (e : Event) : State × Bool :=
  if rdB s Reg.CMD_EVT_FWD.en && bitSet (rd s Reg.CMD_EVT_FWD_MASK.mask) (e.source - 1) then
    let d := rd s Reg.CMD_EVT_FWD.device
    let p := packet 0 0x0020 0 d (ownId s) 0 0 (eventBytes e false)
    match fabSend s (fabHeader s 7 (rd s Reg.TF_CTRL.rra_class) d p) with
    | (s, .ok) => (s, false)
    | (s, _) => (bump s Reg.CMD_STAT_FWD_DROP.value, true)
  else (s, false)

/-- The event record of an event raised now. -/
def eventOf (s : State) (src code inst : Nat) (data : Bytes) : Event :=
  ⟨dtNow s, dtSynced s, src, code, inst, 0, data⟩

/-- The limited event that tells of a record dropped (Tables 16.11 and 16.12), offered as `offer` does. -/
def lossEvent (offer : Event → State → State) (dropped : Bool) (src code inst : Nat) (s : State) : State :=
  if dropped then
    match limited s.ev.limits s.now (limitKey src code inst) 1 with
    | (l, none) => { s with ev := { s.ev with limits := l } }
    | (l, some n) =>
      let s := { s with ev := { s.ev with limits := l } }
      let s := setBitF s (if src = 14 then Reg.CMD_INT_STATUS.event else Reg.SYS_INT_STATUS.event) (code - 1)
      offer (eventOf s src code inst (leBytes 4 n)) s
  else s

/-- A record offered to every path (R416), to forwarding only where `fwd`; a loss on a path raises that path's own limited
event, which is offered in the same way. `fuel` bounds those: there are four of them, and each is raised at most once at an instant
(R509), so that 5 reaches the last. -/
def offerEvent : Nat → Bool → Event → State → State
  | 0, _, _, s => s
  | fuel + 1, fwd, e, s =>
    let (s, d0) := ringStore s 0 e
    let (s, d1) := ringStore s 1 e
    let (s, db) := bufferStore s e
    let (s, df) := if fwd then forwardEvent s e else (s, false)
    let lost := lossEvent (offerEvent fuel true)
    lost df 14 6 (rd s Reg.CMD_EVT_FWD.device) (lost db 1 4 0xFFFF (lost d1 14 5 1 (lost d0 14 5 0 s)))

/-- An event raised now (R416). -/
def raise (s : State) (src code inst : Nat) (data : Bytes) : State :=
  offerEvent 5 true (eventOf s src code inst data) s

/-- `n` occurrences of a limited event with scope `scope`: raised, with its data made from the count since the last
raising, where R509 lets it. -/
def raiseLimited (s : State) (src code inst scope n : Nat) (data : Nat → Bytes) : State :=
  match limited s.ev.limits s.now (limitKey src code scope) n with
  | (l, none) => { s with ev := { s.ev with limits := l } }
  | (l, some k) => raise { s with ev := { s.ev with limits := l } } src code inst (data k)

/-- Whether R509 lets a limited event of this key be raised now. -/
def mayRaise (s : State) (src code scope : Nat) : Bool :=
  match Tab.find s.ev.limits (limitKey src code scope) with
  | none => true
  | some (last, _) => decide (last + sec ≤ s.now)

/-- An event whose INT_STATUS bit is bit `code - 1` of field `f` (instance `i`), raised now. -/
def raiseIn (s : State) (f : Fld) (i : Nat) (src code inst : Nat) (data : Bytes) : State :=
  raise (setBitF s f (code - 1) i) src code inst data

/-- The same, limited: the INT_STATUS bit is set when the event is raised. -/
def raiseInLimited (s : State) (f : Fld) (i : Nat) (src code inst scope n : Nat) (data : Nat → Bytes) : State :=
  let s := if mayRaise s src code scope then setBitF s f (code - 1) i else s
  raiseLimited s src code inst scope n data

end Sys2Proof.Machine
end

