-- ==== Sys2Proof/Machine/Irq.lean ====
section
/-! DEFINITION. Interrupt sources, MSI-X messages and IRQ pins (R392), and the end every command comes to. -/

namespace Sys2Proof.Machine

/-- The word of INT_STATUS bits (or of INT_EN bits) that fields make up, instance `i`. -/
def wordOf (s : State) (fs : List Fld) (i : Nat) : Nat := (fs.map (fun f => rd s f i * 2 ^ f.lo)).sum

/-- One block source: its number, how many channels or ports the block has, its enable field, its status fields. -/
structure IrqSrc where
  src : Nat
  count : Nat
  en : Fld
  bits : List Fld

/-- The CAN_INT_STATUS fields (chapters 3 and 4). -/
def canIntFields : List Fld := [
  Reg.CAN_INT_STATUS.txdone, Reg.CAN_INT_STATUS.txcdone, Reg.CAN_INT_STATUS.txq_cres, Reg.CAN_INT_STATUS.ew,
  Reg.CAN_INT_STATUS.err_passive, Reg.CAN_INT_STATUS.busoff, Reg.CAN_INT_STATUS.busoff_rec,
  Reg.CAN_INT_STATUS.cloak, Reg.CAN_INT_STATUS.host_stale, Reg.CAN_INT_STATUS.cfg_err, Reg.CAN_INT_STATUS.pxe,
  Reg.CAN_INT_STATUS.txq_pres, Reg.CAN_INT_STATUS.rxf0_new, Reg.CAN_INT_STATUS.rxf0_wm,
  Reg.CAN_INT_STATUS.rxf0_full, Reg.CAN_INT_STATUS.rxf0_lost, Reg.CAN_INT_STATUS.rxf1_new,
  Reg.CAN_INT_STATUS.rxf1_wm, Reg.CAN_INT_STATUS.rxf1_full, Reg.CAN_INT_STATUS.rxf1_lost,
  Reg.CAN_INT_STATUS.mb_new, Reg.CAN_INT_STATUS.mb_ovw, Reg.CAN_INT_STATUS.hp, Reg.CAN_INT_STATUS.txef_new,
  Reg.CAN_INT_STATUS.txef_wm, Reg.CAN_INT_STATUS.txef_lost, Reg.CAN_INT_STATUS.refused, Reg.CAN_INT_STATUS.ecc]

/-- The DT_INT_STATUS fields (chapter 1). -/
def dtIntFields : List Fld := [
  Reg.DT_INT_STATUS.acquired, Reg.DT_INT_STATUS.lost, Reg.DT_INT_STATUS.holdover_expired, Reg.DT_INT_STATUS.step,
  Reg.DT_INT_STATUS.gm_change, Reg.DT_INT_STATUS.uncert_sat, Reg.DT_INT_STATUS.drift_violation]

/-- The block sources 1–19 (Table 0.11, R392). Source 14 follows CMD event bits only (R420). -/
def blockSources : List IrqSrc := [
  ⟨1, 1, Reg.SYS_INT_EN.enable, [Reg.SYS_INT_STATUS.event]⟩,
  ⟨2, 1, Reg.DT_INT_EN.enable, dtIntFields⟩,
  ⟨3, 64, Reg.CAN_INT_EN.enable, canIntFields⟩,
  ⟨4, 12, Reg.ETH_INT_EN.enable, [Reg.ETH_INT_STATUS.event]⟩,
  ⟨5, 1, Reg.SW_INT_EN.enable, [Reg.SW_INT_STATUS.event]⟩,
  ⟨6, 1, Reg.FT_INT_EN.enable, [Reg.FT_INT_STATUS.event, Reg.FT_INT_STATUS.dma_done]⟩,
  ⟨7, 1, Reg.PE_INT_EN.enable, [Reg.PE_INT_STATUS.event]⟩,
  ⟨8, 1, Reg.CL_INT_EN.enable, [Reg.CL_INT_STATUS.event]⟩,
  ⟨9, 1, Reg.SG_INT_EN.enable, [Reg.SG_INT_STATUS.event]⟩,
  ⟨10, 1, Reg.CK_INT_EN.enable, [Reg.CK_INT_STATUS.event]⟩,
  ⟨11, 1, Reg.CX_INT_EN.enable, [Reg.CX_INT_STATUS.event]⟩,
  ⟨12, 1, Reg.TF_INT_EN.enable, [Reg.TF_INT_STATUS.event, Reg.TF_INT_STATUS.derr]⟩,
  ⟨13, 1, Reg.HB_INT_EN.enable, [Reg.HB_INT_STATUS.event]⟩,
  ⟨14, 1, Reg.CMD_INT_EN.enable, [Reg.CMD_INT_STATUS.event]⟩,
  ⟨15, 1, Reg.WK_INT_EN.enable, [Reg.WK_INT_STATUS.event]⟩,
  ⟨16, 1, Reg.BT_INT_EN.enable, [Reg.BT_INT_STATUS.event]⟩,
  ⟨17, 1, Reg.LC_INT_EN.enable, [Reg.LC_INT_STATUS.event]⟩,
  ⟨18, 1, Reg.MP_INT_EN.enable, [Reg.MP_INT_STATUS.event]⟩,
  ⟨19, 1, Reg.LR_INT_EN.enable, [Reg.LR_INT_STATUS.event]⟩]

/-- Whether instance `i` of a block has an enabled status bit set. -/
def instPending (s : State) (b : IrqSrc) (i : Nat) : Bool :=
  (rd s b.en i * 2 ^ b.en.lo) &&& wordOf s b.bits i != 0

/-- Whether a block source is pending: any channel or port of the block has an enabled status bit set (R392). -/
def blockPending (s : State) (b : IrqSrc) : Bool := (List.range b.count).any (instPending s b)

/-- Whether bit `k` of CMD_INT_STATUS is set and enabled. -/
def cmdPending (s : State) (k : Nat) : Bool :=
  bitSet (rd s Reg.CMD_INT_EN.enable) k &&
    bitSet (wordOf s [Reg.CMD_INT_STATUS.cq, Reg.CMD_INT_STATUS.evr, Reg.CMD_INT_STATUS.spi_reply,
      Reg.CMD_INT_STATUS.evr_ovf] 0) k

/-- The pending sources, bit s for source s: 1–19 the blocks, 32–39 bits 0–7 of CMD_INT_STATUS (R420), 40–47 the host
rings (R392). -/
def irqMask (s : State) : Nat :=
  (blockSources.map (fun b => b2n (blockPending s b) * 2 ^ b.src)).sum +
    ((List.range 8).map (fun k => b2n (cmdPending s k) * 2 ^ (32 + k))).sum +
    s.hb.ringIrq % 256 * 2 ^ 40

/-- The MSI-X table dword at `n` (four per vector: address low and high, data, vector control); PRESUMED from the PCI
Express base specification: every vector is masked at reset (assumption 21). -/
def msixDword (s : State) (n : Nat) : Nat := Tab.get s.hb.msix n (if n % 4 = 3 then 1 else 0)

/-- Whether MSI-X vector `v` is masked. -/
def msixMasked (s : State) (v : Nat) : Bool := bitSet (msixDword s (4 * v + 3)) 0

/-- The message of source `src`: sent to its vector where HB_IRQ_MAP enables it and the PCIe link is up; a masked vector
sets its PBA bit instead (R392). -/
def msixSend (s : State) (src : Nat) : State :=
  let v := rd s Reg.HB_IRQ_MAP.vector src
  if rdB s Reg.HB_IRQ_MAP.msix_en src && rdB s Reg.HB_STATUS.link then
    if msixMasked s v then { s with hb := { s.hb with pba := orBit s.hb.pba v } }
    else { s with out := s.out ++ [.msix v] }
  else s

/-- The messages of the sources of a list. -/
def msixSendAll (srcs : List Nat) (s : State) : State := srcs.foldl msixSend s

/-- The numbers of the sources pending in `new` and not in `old`. -/
def becamePending (old new : Nat) : List Nat := (List.range 48).filter (fun k => bitSet new k && !bitSet old k)

/-- Whether IRQk_N is asserted: a source mapped to it is pending (R392). -/
def pinAsserted (s : State) (k : Nat) : Bool :=
  (List.range 48).any (fun src => bitSet s.irq src && bitSet (rd s Reg.HB_IRQ_MAP.pins src) k)

/-- The end of every command: each source that became pending sends its message, and the pending sources are noted. -/
def settle (s : State) : State :=
  { msixSendAll (becamePending s.irq (irqMask s)) s with irq := irqMask s }

/-- Whether the core die runs: powered and ungated, out of reset, not waiting for a start, and not in a start step that hangs
(R353, R442, R450, R451, R499, R500). -/
def coreOn (s : State) : Bool :=
  decide (rd s Reg.WK_STATUS.state < 2) && s.bt.due.isNone && s.bt.hung.isNone && s.bt.holds == 0 && !s.bt.vbatLow

/-- Whether the core die has power and is out of reset, Doze and a start in progress included. -/
def diePowered (s : State) : Bool :=
  decide (rd s Reg.WK_STATUS.state < 3) && s.bt.due.isNone && s.bt.holds == 0 && !s.bt.vbatLow

/-- Whether the hardware loop of the planner runs: ungated, from start step 3 on, a later step that hangs or not (R52, R60). -/
def loopOn (s : State) : Bool :=
  diePowered s && decide (rd s Reg.WK_STATUS.state < 2) && s.bt.hung.all (fun h => decide (3 < h.1))

/-- Whether any processor is halted by the debug port (R481). -/
def anyHalted (s : State) : Bool := s.lc.cps.any (fun c => c.2.halted)

/-- Whether processor `p` is halted: 0 CP0, 1 CP1, 2 the SP. -/
def halted (s : State) (p : Nat) : Bool := s.lc.cps.any (fun c => c.1 == p && c.2.halted)

/-- Whether the control processor that executes `work` is halted: an opcode, or `plannerWork` for the firmware planner loop.
Which of the two executes what is free. -/
def cpHalted (s : State) (work : Nat) : Bool := halted s (Config.cpOf work % 2)

/-- The firmware planner loop as work of a control processor. -/
def plannerWork : Nat := 0x10000

/-- A command that ends in a state. -/
def done (s : State) : Host.Outcome State Fault Refusal := .next (settle s)

/-- A row of the core die: it has its effect while the core die runs, and none otherwise. -/
def powered (t : Nat) (s : State) (r : Host.Outcome State Fault Refusal) : Host.Outcome State Fault Refusal :=
  if coreOn s then r else done (tick t s)

/-- A row of the planner's hardware loop. -/
def looping (t : Nat) (s : State) (r : Host.Outcome State Fault Refusal) : Host.Outcome State Fault Refusal :=
  if loopOn s then r else done (tick t s)

/-- Whether forwarding, CAN and the fabric run: the core die does, and not in RECOVERY (R454). -/
def operating (s : State) : Bool := coreOn s && !s.bt.record.recovery

/-- A row of forwarding, CAN and the fabric. -/
def running (t : Nat) (s : State) (r : Host.Outcome State Fault Refusal) : Host.Outcome State Fault Refusal :=
  if operating s then r else done (tick t s)

/-- Whether the gateway's cycles are counted: forwarding runs, or the core die is in Doze (R165). -/
def cycling (s : State) : Bool :=
  operating s || (diePowered s && rd s Reg.WK_STATUS.state == 2 && s.bt.hung.isNone && !s.bt.record.recovery)

/-- A row of the gateway that Doze does not stop (R165). -/
def inDoze (t : Nat) (s : State) (r : Host.Outcome State Fault Refusal) : Host.Outcome State Fault Refusal :=
  if cycling s then r else done (tick t s)

/-- The same for a row without an instant of its own. -/
def runningNow (s : State) (r : Host.Outcome State Fault Refusal) : Host.Outcome State Fault Refusal :=
  if operating s then r else done s

/-- The reception of a frame: none is accepted while the entry into a low-power state is in progress (R442). -/
def receiving (t : Nat) (s : State) (r : Host.Outcome State Fault Refusal) : Host.Outcome State Fault Refusal :=
  if operating s && s.wk.entry.isNone then r else done (tick t s)

end Sys2Proof.Machine
end

