-- ==== Sys2Proof/Machine/Reply.lean ====
section
/-! DEFINITION. Replies of commands and the transports they return on (R397, R400, R401, R403, R405, R408, R409). -/

namespace Sys2Proof.Machine

/-- The statuses of Table 0.9 the commands answer with. -/
def stOk : Nat := 0
def stBusy : Nat := 1
def stBadOpcode : Nat := 2
def stBadLength : Nat := 3
def stBadParam : Nat := 4
def stNoSpace : Nat := 5
def stNotFound : Nat := 6
def stDenied : Nat := 7
def stTurnStalled : Nat := 8
def stTimeout : Nat := 9
def stUnreachable : Nat := 10
def stFateUnknown : Nat := 11
def stIntegrity : Nat := 12
def stTooLate : Nat := 13
def stStale : Nat := 14
def stFabricFull : Nat := 15
def stLocked : Nat := 16

/-- What a command's meaning answers: the state, and its reply's status and result, or none where the reply is sent at
completion. -/
abbrev CmdAnswer := State × Option (Nat × Bytes)

/-- A reply of status `st` with no result. -/
def fail (s : State) (st : Nat) : CmdAnswer := (s, some (st, []))

/-- A reply OK with a result. -/
def okay (s : State) (result : Bytes) : CmdAnswer := (s, some (stOk, result))

/-- The key a slot holds (R319). -/
def keyOf (s : State) (slot : Nat) : Bytes := (Tab.get s.cx.slots slot ⟨0, 0, 0, 0, 0, [], none⟩).key

/-- The reply packet of a command, from the device that executed it (R397). -/
def replyFrom (d op : Nat) (c : Call) (st : Nat) (result : Bytes) : Bytes :=
  packet (orBit c.flags 0) op c.tag c.src d st c.seq result

/-- The reply packet of a command executed here. -/
def replyPacket (s : State) (op : Nat) (c : Call) (st : Nat) (result : Bytes) : Bytes := replyFrom (ownId s) op c st result

/-- Whether the host bridge still owes an answer on the transport a command came by: not on a queue pair once the bridge has
been reset (R404). -/
def callLive (s : State) (c : Call) : Bool :=
  match c.via with
  | .queue _ _ _ _ enabling => enabling == s.cmd.enabling
  | _ => true

/-- A reply written to queue pair `q`: the packet into the reply buffer, cut to its size, then the completion entry, then
cq[q] (R403, Table 16.4). -/
def queueReply (s : State) (q slot size addr tag st : Nat) (pkt : Bytes) : State :=
  if rdB s Reg.CMD_QP_CTRL.en q then
    let tail := rd s Reg.CMD_QP_CQ_TAIL.tail q
    let phase := rd s Reg.CMD_QP_CQ_TAIL.phase q
    let s := if pkt.isEmpty then s else emit s (.hostWrite addr (pkt.take size))
    let entry := leBytes 2 tag ++ leBytes 2 st ++ leBytes 4 pkt.length ++ leBytes 2 slot ++
      leBytes 1 (phase + 2 * b2n (decide (size < pkt.length))) ++ zeros 5
    let s := emit s (.hostWrite (rd s Reg.CMD_QP_CQ_BASE.base q + 16 * tail) entry)
    let s := wr s Reg.CMD_QP_CQ_TAIL.tail ((tail + 1) % 256) q
    let s := if tail = 255 then wr s Reg.CMD_QP_CQ_TAIL.phase (1 - phase) q else s
    setBitF s Reg.CMD_INT_STATUS.cq q
  else s

/-- The Ethernet payload of an in-band command or reply, with its MAC (Table 16.7). -/
def inbandPayload (key : Bytes) (k : Nat) (pkt : Bytes) : Bytes :=
  let x : Bytes := leBytes 1 0x43 ++ leBytes 1 k ++ zeros 2 ++ pkt
  x ++ cmac key x

/-- The key slot CMD_INB_CFG names for key `k`. -/
def inbandSlot (s : State) (k : Nat) : Nat :=
  if k = 0 then rd s Reg.CMD_INB_CFG.key0 else rd s Reg.CMD_INB_CFG.key1

/-- A reply in an Ethernet frame to the command frame's source MAC on its arrival port, with the same tag state and VID
(R408); what else its tag holds is free. -/
def inbandReply (s : State) (d op : Nat) (c : Call) (st : Nat) (result : Bytes) (port k mac : Nat) (tagged : Bool)
    (vid : Nat) : State :=
  let pkt := replyFrom d op c st result
  let pkt := if rd s Reg.ETH_CFG.max_len port < pkt.length + 22 then replyFrom d op c stNoSpace [] else pkt
  let hdr : Bytes := leBytes 6 mac ++ leBytes 6 (rd s Reg.CMD_INB_MAC.mac) ++
    (if tagged then beBytes 2 0x8100 ++ beBytes 2 (vid + 4096 * freeIn s 0 15) else []) ++ beBytes 2 0x88B5
  emit (drawn s) (.ethFrame port (hdr ++ inbandPayload (keyOf s (inbandSlot s k)) k pkt))

/-- The reply of device `d` to a command delivered on the transport it came by; a command of the long list ends with it (R400,
R401). -/
def sendReplyFrom (s : State) (d op : Nat) (c : Call) (st : Nat) (result : Bytes) : State :=
  let s := { s with cmd := { s.cmd with long := s.cmd.long.filter (fun l => l.call != c) } }
  let s := emit s (.reply op c st result)
  match c.via with
  | .queue q slot size addr _ =>
    if callLive s c then queueReply s q slot size addr c.tag st (replyFrom d op c st result) else s
  | .spi =>
    let s := { s with cmd := { s.cmd with spiReply := some (replyFrom d op c st result), spiBusy := false } }
    wr s Reg.CMD_INT_STATUS.spi_reply 1
  | .inband port k mac tagged vid => inbandReply s d op c st result port k mac tagged vid
  | .fabric f => (fabSend s (fabHeader s 7 (rd s Reg.TF_CTRL.rra_class) f (replyFrom d op c st result))).1

/-- A command's reply. -/
def sendReply (s : State) (op : Nat) (c : Call) (st : Nat) (result : Bytes) : State := sendReplyFrom s (ownId s) op c st result

/-- A command's answer carried out: its reply now, or its place among the long commands (R401). -/
def answer (op : Nat) (c : Call) (a : CmdAnswer) : State :=
  match a.2 with
  | some (st, result) => sendReply a.1 op c st result
  | none => { a.1 with cmd := { a.1.cmd with long := a.1.cmd.long ++ [⟨op, c, a.1.now⟩] } }

end Sys2Proof.Machine
end

