-- ==== Sys2Proof/Machine/LifeRecord.lean ====
section
/-! DEFINITION. The life record (R63–R71): its counters and histograms, checkpoints, wear pace, live view and commands. -/

namespace Sys2Proof.Machine

/-! ### Counters by page offset (Table 2.6) -/

/-- Offsets of Table 2.6. -/
def Life.powerOns : Nat := 0x020
def Life.unclean : Nat := 0x024
def Life.tjHist : Nat := 0x030
def Life.vddHist : Nat := 0x070
def Life.stateS : Nat := 0x0B0
def Life.wakes : Nat := 0x0C8
def Life.busOff : Nat := 0x100
def Life.tyeth : Nat := 0x200
def Life.ecc : Nat := 0x240
def Life.updates : Nat := 0x2A0
def Life.stepFail : Nat := 0x2B0
def Life.alarms : Nat := 0x2F0
def Life.exposures : Nat := 0x304
def Life.deratedS : Nat := 0x308
def Life.avsFaults : Nat := 0x30C
def Life.vreq1kh : Nat := 0x31A
def Life.evictions : Nat := 0x31C

/-- Counter `i` of the array at `off`, raised by `n`, saturating (R65). -/
def lifeAdd (s : State) (off i n : Nat) : State :=
  { s with lr := { s.lr with counts := Tab.upd s.lr.counts (off + 4 * i) 0 (fun v => min (v + n) 0xFFFFFFFF) } }

/-- Counter `i` of the array at `off`, one count taken back. -/
def lifeUncount (s : State) (off i : Nat) : State :=
  { s with lr := { s.lr with counts := Tab.upd s.lr.counts (off + 4 * i) 0 (fun v => v - 1) } }

/-- Counter `i` of the array at `off`, raised by 1. -/
def lifeCount (s : State) (off i : Nat) : State := lifeAdd s off i 1

/-- The Tj bin of a temperature in 0.1 °C. -/
def tjBin (tenths : Int) : Nat :=
  if tenths < -250 then 0 else min 15 ((tenths + 350) / 100).toNat

/-- The VDD_CORE bin of a commanded voltage in mV. -/
def vddBin (mv : Nat) : Nat := min 15 ((mv - 720) / 12)

/-- The power state: 0 Run, 1 Idle, 2 Doze, 3 Standby, 4 Hibernate. -/
def powerState (s : State) : Nat := rd s Reg.WK_STATUS.state

/-- Tj in 0.1 °C. -/
def tjNow (s : State) : Int := signed 16 (rd s Reg.MP_TJ.tj)

/-- The time histograms brought up to now, under the temperature, voltage and power state of the time since they were last
brought up; the core die's only while it is powered and out of reset. -/
def lifeSettle (s : State) : State :=
  let d := s.now - s.lr.since
  let add := fun (off i : Nat) (t : Tab Nat) => if d = 0 then t else Tab.upd t (off + 4 * i) 0 (· + d)
  let ns := add Life.stateS (powerState s) s.lr.ns
  let ns := if diePowered s then add Life.vddHist (vddBin (rd s Reg.MP_STATUS.vdd_cmd_mv))
    (add Life.tjHist (tjBin (tjNow s)) ns) else ns
  let ns := if rdB s Reg.MP_STATUS.derated && diePowered s then add Life.deratedS 0 ns else ns
  { s with lr := { s.lr with ns := ns, since := s.now } }

/-- The time spent in power state `k` so far, in ns. -/
def stateNs (s : State) (k : Nat) : Nat := Tab.get (lifeSettle s).lr.ns (Life.stateS + 4 * k) 0

/-- Operating time in ns: Run, Idle and Doze. -/
def opNs (s : State) : Nat := stateNs s 0 + stateNs s 1 + stateNs s 2

/-- Operating time in hours. -/
def opHours (s : State) : Nat := opNs s / (3600 * sec)

/-- All seconds of state_s. -/
def lifeSeconds (s : State) : Nat := (stateNs s 0 + stateNs s 1 + stateNs s 2 + stateNs s 3 + stateNs s 4) / sec

/-- Fraction of the paced life elapsed, in permille, a year being 8,766 hours (R67). -/
def lifePermille (s : State) : Nat := lifeSeconds s * 1000 / (rd s Reg.LR_CTRL.life_years * 8766 * 3600)

/-- Fraction of the budget of 24,000,000 checkpoints consumed, in permille (R66, R67). -/
def wearPermille (s : State) : Nat := s.lr.written * 1000 / 24000000

/-! ### Pages (Table 2.6) -/

/-- DT now, while the core die is off as the 32.768 kHz timer counts it (R28). -/
def wakeDt (s : State) : Nat :=
  match s.dt.captured with
  | none => dtNow s
  | some c => c.dt + (s.now - c.at_) * 32768 / sec * sec / 32768

/-- An event that the core die cannot report now, held for delivery after its next start (R445, R451). -/
def holdEvent (s : State) (src code inst : Nat) (data : Bytes) : State :=
  { s with wk := { s.wk with heldEvents := s.wk.heldEvents ++ [{ eventOf s src code inst data with dt := wakeDt s }] } }

/-- The live counters as a page, with cause and sequence number. -/
def livePage (s : State) (seq cause : Nat) : LrPage :=
  let s := lifeSettle s
  let mp : Tab Nat := s.lr.counts
  ⟨seq, wakeDt s, cause, rd s Reg.LR_STATUS.rotation, rd s Reg.SYS_ID.grade, rd s Reg.LR_CTRL.life_years,
    mp, s.lr.ns, s.lr.offenders⟩

/-- The bytes of an offender entry. -/
def offenderBytes (o : Offender) : Bytes :=
  leBytes 1 o.channel ++ leBytes 1 o.group ++ leBytes 2 o.node ++ leBytes 4 o.count ++ leBytes 4 o.seconds ++
    leBytes 4 o.longestMs

/-- Whether the counter at a page offset is a histogram in seconds. -/
def isTimeOffset (off : Nat) : Bool := decide (0x030 ≤ off) && decide (off < 0x0C4) || off == Life.deratedS

/-- The 32-bit word of a page at offset `off` of its counter area. -/
def pageWord (p : LrPage) (off : Nat) : Nat :=
  if isTimeOffset off then min (Tab.get p.ns off 0 / sec) 0xFFFFFFFF
  else if off = 0x310 then Tab.get p.counts 0x310 0 % 65536 + Tab.get p.counts 0x312 60 % 65536 * 65536
  else if off = 0x318 then Tab.get p.counts 0x318 0xFFFF % 65536 + Tab.get p.counts 0x31A 0 % 65536 * 65536
  else Tab.get p.counts off 0

/-- The 4,096 bytes of a page, its CRC last. -/
def pageBytes (p : LrPage) : Bytes :=
  let head : Bytes := leBytes 4 0x4C525047 ++ leBytes 4 p.seq ++ leBytes 8 p.dt ++ leBytes 2 1 ++ leBytes 2 p.cause ++
    leBytes 2 p.rotation ++ leBytes 1 p.grade ++ leBytes 1 p.lifeYears ++ zeros 8
  let words : Bytes := ((List.range 192).map (fun k => leBytes 4 (pageWord p (0x020 + 4 * k)))).flatten
  let counters : Bytes := words ++ zeros (0x400 - 0x020 - 768)
  let off : Bytes := padTo 512 ((p.offenders.map offenderBytes).flatten)
  let body := head ++ counters ++ off ++ zeros (0xFFC - 0x600)
  body ++ leBytes 4 (crc32c body)

/-- The live view at LR offsets 0x1000–0x1FFF: the last snapshot, or the live counters before any (R68). -/
def viewBytes (s : State) : Bytes := pageBytes (s.lr.view.getD (livePage s (rd s Reg.LR_SEQ.seq) 0))

/-! ### Checkpoints (R63, R64, R67) -/

/-- LR event `code` (Table 2.7): raised, or held where the wake die writes while the core die is off. -/
def lrEvent (s : State) (code inst : Nat) (data : Bytes) : State :=
  if powerState s < 3 then raiseIn s Reg.LR_INT_STATUS.event 0 19 code inst data else holdEvent s 19 code inst data

/-- The life record changed by `f`. -/
def modLr (s : State) (f : LrState → LrState) : State := { s with lr := f s.lr }

/-- The page next in rotation, `page`, retired for a failed write verification: a spare takes its place, or the rotation shrinks
(R63). Pages 240–255 are the spares, used in rising order (assumption 93). -/
def retirePage (s : State) (page : Nat) : State :=
  let spares := rd s Reg.LR_STATUS.spares
  let s := modLr s (fun l => { l with written := l.written + 1 })
  if spares = 0 then
    let s := modLr s (fun l => { l with rot := l.rot.eraseIdx l.next })
    let n := s.lr.rot.length
    let s := wr (modLr s (fun l => { l with next := if l.next < n then l.next else 0 })) Reg.LR_STATUS.rotation n
    lrEvent (lrEvent s 2 page (leBytes 2 0)) 4 0xFFFF (leBytes 2 n)
  else
    let s := modLr s (fun l => { l with rot := setNth l.rot l.next (256 - spares) })
    lrEvent (wr s Reg.LR_STATUS.spares (spares - 1)) 2 page (leBytes 2 (spares - 1))

/-- Pages retired one after another until the next in rotation holds what is written to it. -/
def retireWorn : Nat → State → State
  | 0, s => s
  | n + 1, s =>
    match s.lr.rot[s.lr.next]? with
    | some p => if s.lr.worn.contains p then retireWorn n (retirePage s p) else s
    | none => s

/-- The wear pace judged after a checkpoint (R67). -/
def judgePace (s : State) : State :=
  let wear := wearPermille s
  let life := lifePermille s
  if rdB s Reg.LR_STATUS.pace_exceeded then
    if wear < life then wr s Reg.LR_STATUS.pace_exceeded 0 else s
  else if life + 50 ≤ wear then
    lrEvent (wr s Reg.LR_STATUS.pace_exceeded 1) 3 0xFFFF (leBytes 2 (min wear 65535) ++ leBytes 2 (min life 65535))
  else s

/-- A checkpoint of this cause: one complete page, the next in rotation that holds, where any does (R63). -/
def checkpoint (s : State) (cause : Nat) : State :=
  let s := retireWorn 257 (lifeSettle s)
  let n := s.lr.rot.length
  if n = 0 then s
  else
    let seq := rd s Reg.LR_SEQ.seq + 1
    let p := livePage s seq cause
    let s := modLr (wr s Reg.LR_SEQ.seq seq) (fun l => { l with
      pages := (p :: l.pages).take n
      next := (l.next + 1) % n
      lastCheckpoint := s.now
      opMark := opNs s
      written := l.written + 1 })
    judgePace s

/-- Pages found worn: every later write to one of them fails verification. -/
def wornPages (ps : List Nat) (s : State) : State := modLr s (fun l => { l with worn := l.worn ++ ps })

/-- The checkpoint period in minutes: doubled below 64 pages and again while the wear pace is exceeded, up to 60. -/
def checkpointMinutes (s : State) : Nat :=
  let p := rd s Reg.LR_CTRL.period_min
  let p := if rd s Reg.LR_STATUS.rotation < 64 then p * 2 else p
  min 60 (if rdB s Reg.LR_STATUS.pace_exceeded then p * 2 else p)

/-- The least gap before a Standby entry's checkpoint, in seconds (R64, R67). -/
def standbyGap (s : State) : Nat := if rdB s Reg.LR_STATUS.pace_exceeded then 600 else 60

/-- CHECKPOINT_PERIOD: once the period has passed in Run, Idle and Doze since the last checkpoint (R64). -/
def checkpointPeriodOp (s : State) : State :=
  if powerState s < 3 ∧ s.lr.opMark + checkpointMinutes s * 60 * sec ≤ opNs s then checkpoint s 0 else s

/-- A snapshot of every live counter into the view (R68). -/
def snapTake (s : State) : State :=
  let s := wr s Reg.LR_SNAP.done 1
  { s with lr := { s.lr with view := some (livePage s (rd s Reg.LR_SEQ.seq) 0) } }

/-- LR_READ_PAGE (R68). -/
def opReadPage (p : Bytes) (s : State) : CmdAnswer :=
  let seq := leAt p 0 4
  if p.length ≠ 4 then fail s stBadLength
  else
    match (if seq = 0 then s.lr.pages.head? else s.lr.pages.find? (fun g => g.seq == seq)) with
    | none => fail s stNotFound
    | some g => okay s (pageBytes g)

/-- LR_CHECKPOINT (R68). -/
def opCheckpoint (p : Bytes) (s : State) : CmdAnswer :=
  if p.length ≠ 0 then fail s stBadLength
  else
    let s := checkpoint s 4
    okay s (leBytes 4 (rd s Reg.LR_SEQ.seq))

/-! ### Keep-awake offenders (R69) -/

/-- An offence of a node logged: its entry, or the entry with the lowest count replaced. -/
def logOffender (s : State) (ch group node heldMs : Nat) : State :=
  let same := fun (o : Offender) => o.channel == ch && o.group == group && o.node == node
  let more := fun (o : Offender) => { o with
    count := min (o.count + 1) 0xFFFFFFFF
    seconds := min (o.seconds + heldMs / 1000) 0xFFFFFFFF
    longestMs := max o.longestMs (min heldMs 0xFFFFFFFF) }
  let fresh : Offender := ⟨ch, group, node, 1, heldMs / 1000, min heldMs 0xFFFFFFFF⟩
  let os := s.lr.offenders
  if os.any same then
    { s with lr := { s.lr with offenders := os.map (fun o => if same o then more o else o) } }
  else if os.length < 32 then { s with lr := { s.lr with offenders := os ++ [fresh] } }
  else
    match leastBy (fun i => (os.getD i fresh).count) (List.range os.length) with
    | none => s
    | some i => lifeCount { s with lr := { s.lr with offenders := setNth os i fresh } } Life.evictions 0

/-! ### The rows -/

/-! ### Commands as rows -/

/-- Idle left for Run by due work (R165, R438). -/
def leaveIdle (s : State) : State := if powerState s = 1 then wr (lifeSettle s) Reg.WK_STATUS.state 0 else s

/-- Whether a command needs the SP: key loading, and the verification of a signature (R482). -/
def needsSp (op : Nat) (c : Call) : Bool := op == 0x4001 || op == 0x7001 || bitSet c.flags 1

/-- The opcodes the SP ROM executes in RECOVERY (R454). -/
def recoveryOps : List Nat := [0x0001, 0x0005, 0x7001, 0x7002, 0x7003, 0x7004, 0x7005, 0x7009]

/-- Whether the SP ROM takes commands from a transport: queue pair 0 and SPI (R454). -/
def recoveryVia (v : Via) : Bool :=
  match v with
  | .queue q .. => q == 0
  | .spi => true
  | _ => false

/-- A command executed while the core die runs: `run` does what it does and replies. It returns the device from Idle (R438). It
waits while the processor that executes it is halted (R481, R482). In RECOVERY the SP ROM executes a few opcodes and denies the
others. -/
def commandRow (t op : Nat) (c : Call) (p : Bytes) (s : State) (run : State → State) : Host.Outcome State Fault Refusal :=
  let s := tick t s
  if !coreOn s then done s
  else if s.bt.record.recovery then
    done (if !recoveryVia c.via then s else if recoveryOps.contains op then run s else sendReply s op c stDenied [])
  else if cpHalted s op || (needsSp op c && halted s 2) then
    let packet := packet c.flags op c.tag c.dst c.src 0 c.seq p
    done { s with cmd := { s.cmd with held := s.cmd.held ++ [⟨c.via, packet, true⟩] } }
  else done (run (leaveIdle s))

/-- LIFE_RECORD_CHECKPOINT (R63). -/
def execLifeRecordCheckpoint (t : Nat) (cause : Fin 6) (worn : List Nat) (s : State) :
    Host.Outcome State Fault Refusal :=
  powered t s <|
  done (checkpoint (wornPages worn (tick t s)) cause)

/-- CHECKPOINT_PERIOD (R64). -/
def execCheckpointPeriod (t : Nat) (s : State) : Host.Outcome State Fault Refusal :=
  done (if diePowered s && s.bt.hung.isNone then checkpointPeriodOp (tick t s) else tick t s)

/-- LR_CTRL_CHECKPOINT (R64). -/
def execLrCtrlCheckpoint (t : Nat) (s : State) : Host.Outcome State Fault Refusal :=
  powered t s <|
  done (checkpoint (tick t s) 4)

/-- LR_SNAP_TAKE (R68). -/
def execLrSnapTake (t : Nat) (s : State) : Host.Outcome State Fault Refusal :=
  powered t s <|
  done (snapTake (tick t s))

/-- LR_READ_PAGE (R68). -/
def execLrReadPage (t : Nat) (c : Call) (p : Bytes) (s : State) : Host.Outcome State Fault Refusal :=
  commandRow t 0x8010 c p s (fun s => answer 0x8010 c (opReadPage p s))

/-- LR_CHECKPOINT (R68). -/
def execLrCheckpoint (t : Nat) (c : Call) (p : Bytes) (s : State) : Host.Outcome State Fault Refusal :=
  commandRow t 0x8011 c p s (fun s => answer 0x8011 c (opCheckpoint p s))

end Sys2Proof.Machine
end

