-- ==== Sys2Proof/Machine/Cipher.lean ====
section
/-! DEFINITION. The cipher engine (chapter 13): queues and pipelines, keys, host requests, streaming release, secured PDUs and
MACsec configuration. What a request makes of its input is the arithmetic of Modes.lean. -/

namespace Sys2Proof.Machine

/-! ### Keys (R319–R322) -/

/-- Key slot `n`. -/
def keySlot (s : State) (n : Nat) : KeySlot := Tab.get s.cx.slots n ⟨0, 0, 0, 0, 0, [], none⟩

/-- Key slot `n` set. -/
def setKeySlot (s : State) (n : Nat) (k : KeySlot) : State :=
  { s with cx := { s.cx with slots := Tab.put s.cx.slots n k } }

/-- OK, or why slot `n` may not be used for the path of usage bit `bit`: NOT_FOUND unless LOADED, DENIED without the bit
(R320). -/
def keyCheck (s : State) (n bit : Nat) : Nat :=
  let k := keySlot s n
  if k.state ≠ 1 then stNotFound else if bitSet k.usage bit then stOk else stDenied

/-- The key of generation `gen` of slot `n`: the present one or the one before it (R321). -/
def keyGen (s : State) (n gen : Nat) : Bytes :=
  let k := keySlot s n
  match k.prev with
  | some (g, b) => if g = gen then b else k.key
  | none => k.key

/-- Whether a running request uses generation `gen` of slot `n` (R321). -/
def genInUse (s : State) (n gen : Nat) : Bool :=
  s.cx.reqs.any (fun r => r.pipe.isSome && ((r.slot == n && r.gen == gen) || r.mac == some (n, gen)))

/-- The previous generation of a slot zeroised once no running request uses it (R321). -/
def dropPrev (s : State) (n : Nat) : State :=
  let k := keySlot s n
  match k.prev with
  | none => s
  | some (g, _) => if genInUse s n g then s else setKeySlot s n { k with prev := none }

/-- The generation a load or erase leaves behind: kept while a running request uses it. -/
def supersede (s : State) (n : Nat) : Option (Nat × Bytes) :=
  let k := keySlot s n
  if k.state = 1 ∧ genInUse s n k.gen = true then some (k.gen, k.key) else none

/-- Whether bytes `[off, off + n)` of parameters are all 0. -/
def zeroAt (p : Bytes) (off n : Nat) : Bool := leAt p off n == 0

/-- CX_KEY_LOAD (R320, R321, Table 13.12). -/
def opKeyLoad (p : Bytes) (s : State) : CmdAnswer :=
  let slot := leAt p 0 2
  let cls := byteAt p 2
  let usage := byteAt p 3
  let len := byteAt p 4
  let wrapped := byteAt p 5
  let wslot := leAt p 6 2
  let lifecycle := rd s Reg.LC_STATUS.state
  let key := p.drop 16
  let k := keySlot s slot
  if p.length < 16 then fail s stBadLength
  else if !(len == 16 || len == 24 || len == 32) then fail s stBadParam
  else if p.length ≠ 16 + len + (if wrapped = 0 then 0 else 8) then fail s stBadLength
  else if 1 < wrapped || !(cls == 1 || cls == 2) || 64 ≤ usage || 511 < slot || !zeroAt p 8 8 then fail s stBadParam
  else if slot < 8 || rdB s Reg.CX_STATUS.erased then fail s stDenied
  else if wrapped = 0 && 1 < lifecycle then fail s stDenied
  else if k.prev.isSome then fail s stBusy
  else if wrapped = 1 && keyCheck s wslot 5 ≠ stOk then fail s stDenied
  else if wrapped = 1 && !Config.unwrapOk (keyOf s wslot) key then fail s stIntegrity
  else
    let value := if wrapped = 1 then bytesOf len (Config.unwrap (keyOf s wslot) key) else key
    let k' : KeySlot := ⟨cls, len, usage, k.gen + 1, 1, value, supersede s slot⟩
    let s := setKeySlot s slot k'
    let s := { s with cx := { s.cx with
      stored :=
        if cls = 1 then Tab.put s.cx.stored slot { k' with prev := none } else Tab.del s.cx.stored slot } }
    let s := if rd s Reg.CMD_INB_CFG.key0 = slot then wr s Reg.CMD_INB_SEQ.seq 0 0 else s
    let s := if rd s Reg.CMD_INB_CFG.key1 = slot then wr s Reg.CMD_INB_SEQ.seq 0 1 else s
    okay s (leBytes 4 (k.gen + 1))

/-- CX_KEY_ERASE (R321). -/
def opKeyErase (p : Bytes) (s : State) : CmdAnswer :=
  let slot := leAt p 0 2
  let k := keySlot s slot
  if p.length ≠ 4 then fail s stBadLength
  else if slot < 8 || 511 < slot then fail s stDenied
  else if k.prev.isSome then fail s stBusy
  else
    let s := { s with cx := { s.cx with stored := Tab.del s.cx.stored slot } }
    okay (setKeySlot s slot ⟨0, 0, 0, k.gen, 0, [], supersede s slot⟩) []

/-- CX_KEY_INFO (R342). -/
def opKeyInfo (p : Bytes) (s : State) : CmdAnswer :=
  let slot := leAt p 0 2
  let k := keySlot s slot
  if p.length ≠ 4 then fail s stBadLength
  else okay s (leBytes 1 k.cls ++ leBytes 1 k.usage ++ leBytes 1 k.len ++ leBytes 1 k.state ++ leBytes 4 k.gen)

/-! ### Queues, hold buffers and pipelines (R315, R316, R325) -/

/-- Hold units in use on pipeline `k`. -/
def holdUsed (s : State) (k : Nat) : Nat :=
  ((s.cx.reqs.filter (fun r => r.pipe == some k)).map (fun r => r.units)).sum

/-- The hold units a request takes when it starts (R325): those of its output, where a tag or padding is to be verified; a
streaming request holds one 4,096-byte chunk. -/
def holdUnits (verifies streaming : Bool) (mode dataLen : Nat) : Nat :=
  if !verifies then 0
  else
    let outLen := if mode = 3 ∨ mode = 4 then 0 else dataLen
    ceilDiv (if streaming then min outLen 4096 else outLen) 256

/-- The lowest-numbered pipeline with `units` free of its 256 (R316). -/
def freePipe (s : State) (units : Nat) : Option Nat :=
  firstFrom (fun k => decide (holdUsed s k + units ≤ 256)) 0 4

/-- The request at the head of queue `q`. -/
def queueHead (s : State) (q : Nat) : Option CxReq := s.cx.reqs.find? (fun r => r.queue == q && r.pipe.isNone)

/-- The queue to serve next: 0–4 in strict priority, then 5–7 in rotation after the one served last (R316). -/
def nextQueue (s : State) : Option Nat :=
  (([0, 1, 2, 3, 4] ++ (match s.cx.rr with | 5 => [6, 7, 5] | 6 => [7, 5, 6] | _ => [5, 6, 7])).find?
    (fun q => (queueHead s q).isSome))

/-- The void record of a registration as the device writes it (Table 13.6). -/
def voidRecord (v : VoidReg) : Bytes := leBytes 4 v.state ++ leBytes 4 v.released ++ leBytes 2 v.tag ++ zeros 6

/-- A write to host memory for the request of `w`; none where a host bridge reset has cut its command off (R404). -/
def hostWriteFor (s : State) (w : CxFor) (addr : Nat) (data : Bytes) : State :=
  match w with
  | .host c => if callLive s c then emit s (.hostWrite addr data) else s
  | _ => emit s (.hostWrite addr data)

/-- Void registration `id` changed to `v` and its record written to host memory. -/
def setVoid (s : State) (w : CxFor) (id : Nat) (v : VoidReg) : State :=
  hostWriteFor { s with cx := { s.cx with voids := Tab.put s.cx.voids id v } } w v.addr (voidRecord v)

/-- A request starts on pipeline `k` with its key's generation at that instant (R321); a streaming host request opens its
void record (R327). -/
def startReq (s : State) (r : CxReq) (k : Nat) : State :=
  let r' := { r with
    pipe := some k
    gen := (keySlot s r.slot).gen
    mac := r.mac.map (fun m => (m.1, (keySlot s m.1).gen)) }
  let s := { s with cx := { s.cx with
    reqs := s.cx.reqs.map (fun x => if x.id = r.id then r' else x)
    rr := if 5 ≤ r.queue then r.queue else s.cx.rr } }
  match r.streaming, r.waiter with
  | true, .host c =>
    match Tab.find s.cx.voids r.voidId with
    | some v => setVoid s r.waiter r.voidId { v with state := 1, released := 0, tag := c.tag }
    | none => s
  | _, _ => s

/-- Requests started while the next one to serve fits (R316, R325). -/
def schedule : Nat → State → State
  | 0, s => s
  | fuel + 1, s =>
    match (nextQueue s).bind (queueHead s) with
    | none => s
    | some r =>
      match freePipe s r.units with
      | none => s
      | some k => schedule fuel (startReq s r k)

/-- A request put into its queue; it starts at once where the engine has room, and returns the device from Idle (R438). -/
def enqueueReq (s : State) (r : CxReq) : State :=
  let s := leaveIdle s
  let s := { s with cx := { s.cx with reqs := s.cx.reqs ++ [{ r with id := s.cx.nextReq }], nextReq := s.cx.nextReq + 1 } }
  schedule (s.cx.reqs.length) s

/-- A queue found full by one request: counted and reported (R315). -/
def queueFull (s : State) (q : Nat) : State :=
  raiseInLimited (bump s Reg.CX_STAT_QFULL.value) Reg.CX_INT_STATUS.event 0 11 4 q q 1 (leBytes 4)

/-- A request leaves the engine: its units are freed, a superseded key generation goes, waiting requests start. -/
def retireReq (s : State) (r : CxReq) : State :=
  let s := { s with cx := { s.cx with reqs := s.cx.reqs.filter (fun x => x.id != r.id) } }
  let s := (r.mac.toList.map Prod.fst).foldl dropPrev (dropPrev s r.slot)
  schedule s.cx.reqs.length s

/-- The queues whose requests hold nothing once they start: whether one of them is full (R315). -/
def queueFullNow (s : State) (q : Nat) : Bool := queueFill s q == 64

/-! ### What a request makes of its input (R314, R318, R330) -/

/-- The key a request runs under: its slot's in its generation, or its link's (R321, R333). -/
def CxReq.key (s : State) (r : CxReq) : Bytes :=
  match r.waiter with
  | .link _ _ k => k.take 32
  | _ => keyGen s r.slot r.gen

/-- The output of a request on its data, before any padding is removed. -/
def CxReq.output (s : State) (r : CxReq) (data : Bytes) : Bytes :=
  match r.mode with
  | 0 => ctrMode (r.key s) r.iv data
  | 1 => if r.op = 0 then cbcEncrypt r.noPad (r.key s) r.iv data else cbcDecrypt (r.key s) r.iv data
  | 2 => gcmCrypt (r.key s) (r.iv.take 12) data
  | _ => []

/-- The tag over a request's additional data and its ciphertext, its most significant bytes to the length asked for. -/
def CxReq.tagOver (s : State) (r : CxReq) (aad cipher : Bytes) : Bytes :=
  (match r.mode with
   | 2 => gcmTag (r.key s) (r.iv.take 12) aad cipher
   | 3 => gcmTag (r.key s) (r.iv.take 12) aad []
   | 4 => cmac (r.key s) cipher
   | _ => []).take r.tagLen

/-- Whether a request's tag verifies: that of its mode, or the CMAC under its second key over everything it carries (R330). -/
def CxReq.tagRight (s : State) (r : CxReq) (aad cipher : Bytes) : Bool :=
  match r.mac with
  | some (n, g) => (cmac (keyGen s n g) (aad ++ cipher)).take r.tagLen == r.tag.take r.tagLen
  | none => r.tagOver s aad cipher == r.tag.take r.tagLen

/-- The end of a request that verifies: whether its tag and its padding are right, and its output. -/
def CxReq.verdict (s : State) (r : CxReq) (aad cipher : Bytes) : Bool × Bytes :=
  let out := r.output s cipher
  let plain := if r.mode = 1 ∧ r.noPad = false then unpadded out else some out
  (r.tagRight s aad cipher && plain.isSome, plain.getD out)

/-- A request's additional data and its data: those host memory holds from its source on, or those it carries. -/
def CxReq.parts (r : CxReq) (aad data : Bytes) : Bytes × Bytes :=
  match r.waiter with
  | .host _ => (sliceBytes aad 0 r.aadLen, sliceBytes data 0 r.dataLen)
  | _ => (sliceBytes r.input 0 r.aadLen, sliceBytes r.input r.aadLen r.dataLen)

/-! ### Host requests (R318, R326, Table 13.3) -/

/-- Whether a CX_REQUEST descriptor breaks Table 13.3. -/
def badDescriptor (p : Bytes) : Bool :=
  let mode := byteAt p 0
  let op := byteAt p 1
  let slot := leAt p 2 2
  let flags := leAt p 4 2
  let tagLen := byteAt p 6
  let aad := leAt p 8 4
  let data := leAt p 12 4
  let streaming := bitSet flags 0
  let noPad := bitSet flags 1
  let tagged := mode == 2 || mode == 3 || mode == 4
  4 < mode || 1 < op || slot < 8 || 511 < slot || 4 ≤ flags ||
    (if tagged then tagLen < 4 || 16 < tagLen else tagLen != 0) ||
    (if mode = 2 ∨ mode = 3 then 65536 < aad else aad != 0) ||
    (mode == 3 && data != 0) ||
    (65536 < data && op == 1 && ((mode == 2 && !streaming) || (mode == 1 && !noPad))) ||
    (mode == 1 && noPad && data % 16 != 0) ||
    (mode == 4 && !zeroAt p 16 16) ||
    ((mode == 2 || mode == 3) && !zeroAt p 28 4) ||
    (streaming && 63 < byteAt p 7) || (streaming && !(mode == 2 && op == 1))

/-- Whether registration `id` is STREAMING, or a request for it waits to be. -/
def voidBusy (s : State) (id : Nat) : Bool :=
  ((Tab.find s.cx.voids id).map (fun v => v.state)) == some 1 ||
    s.cx.reqs.any (fun r => r.streaming && r.voidId == id && decide (r.waiter ≠ .image))

/-- CX_REQUEST (R318): refused, or queued and answered at completion. -/
def opCxRequest (c : Call) (p : Bytes) (s : State) : CmdAnswer :=
  let mode := byteAt p 0
  let slot := leAt p 2 2
  let flags := leAt p 4 2
  let data := leAt p 12 4
  let streaming := bitSet flags 0
  let noPad := bitSet flags 1
  let op := byteAt p 1
  let verifies := op == 1 && (mode == 2 || mode == 3 || mode == 4 || (mode == 1 && !noPad))
  let q := if queueFill s 7 < queueFill s 6 then 7 else 6
  let void := Tab.find s.cx.voids (byteAt p 7)
  if p.length ≠ 64 then fail s stBadLength
  else if !rdB s Reg.CX_CTRL.en then fail s stDenied
  else if badDescriptor p then fail s stBadParam
  else if keyCheck s slot 4 ≠ stOk then fail s (keyCheck s slot 4)
  else if streaming && void.isNone then fail s stNotFound
  else if streaming && voidBusy s (byteAt p 7) then fail s stBusy
  else if streaming && decide ((void.map (fun v => v.size)).getD 0 < data) then fail s stBadParam
  else if queueFullNow s q then fail (queueFull s q) stBusy
  else
    (enqueueReq s {
      id := 0
      queue := q
      mode := mode
      op := op
      slot := slot
      gen := 0
      mac := none
      streaming := streaming
      noPad := noPad
      tagLen := byteAt p 6
      voidId := byteAt p 7
      aadLen := leAt p 8 4
      dataLen := data
      iv := sliceBytes p 16 16
      tag := sliceBytes p 48 16
      input := []
      src := leAt p 32 8
      dst := leAt p 40 8
      units := holdUnits verifies streaming mode data
      verifies := verifies
      pipe := none
      released := 0
      waiter := .host c }, none)

/-- The 24-byte result of CX_REQUEST. -/
def cxResult (written : Nat) (tag : Bytes) : Bytes := leBytes 4 written ++ zeros 4 ++ padTo 16 tag

/-- A host request without verification ends: its output and its tag are delivered (R318). -/
def hostComplete (s : State) (r : CxReq) (c : Call) (output tag : Bytes) : State :=
  let s := if output.isEmpty then s else hostWriteFor s (.host c) r.dst output
  let s := bump s Reg.CX_STAT_REQ.value
  sendReply s 0x4010 c stOk (cxResult output.length tag)

/-- The failure of a tag or padding, counted and reported (R325). -/
def tagFailed (s : State) (q : Nat) : State :=
  raiseInLimited (bump s Reg.CX_STAT_TAG_FAIL.value) Reg.CX_INT_STATUS.event 0 11 1 q q 1 (leBytes 4)

/-- A streaming destination voided: its record VOID, zeros over every released byte, VOID_ZEROED (R327). -/
def voidStream (s : State) (w : CxFor) (id : Nat) : State :=
  match Tab.find s.cx.voids id with
  | none => s
  | some v =>
    let s := setVoid s w id { v with state := 3 }
    let s := hostWriteFor s w (v.addr + 16) (zeros v.released)
    let s := setVoid s w id { v with state := 4 }
    let s := bump s Reg.CX_STAT_VOID.value
    raiseIn s Reg.CX_INT_STATUS.event 0 11 2 id (leBytes 4 v.released ++ leBytes 2 v.tag)

/-- A host request with verification ends (R325, R327). A streaming one has only its final chunk left to release; of a failed
CBC decryption only the final block is held back (R314). The tag field of a verification's result is a free value: the spec
states none (assumption 24). -/
def hostVerified (s : State) (r : CxReq) (c : Call) (ok : Bool) (output : Bytes) : State :=
  if ok then
    if r.streaming then
      match Tab.find s.cx.voids r.voidId with
      | none => sendReply s 0x4010 c stOk (cxResult output.length [])
      | some v =>
        let last := output.drop r.released
        let s := if last.isEmpty then s else hostWriteFor s (.host c) (v.addr + 16 + v.released) last
        let total := v.released + last.length
        let s := setVoid s r.waiter r.voidId { v with state := 2, released := total }
        let s := bump s Reg.CX_STAT_REQ.value
        sendReply (drawn s) 0x4010 c stOk (cxResult total (freeBytes s 16))
    else hostComplete (drawn s) r c output (freeBytes s 16)
  else
    let s := if r.streaming then voidStream s r.waiter r.voidId else s
    let early := if r.mode = 1 then output.take ((r.dataLen - 1) / 16 * 16) else []
    let s := if early.isEmpty then s else hostWriteFor s (.host c) r.dst early
    sendReply s 0x4010 c stIntegrity []

/-- One 4,096-byte chunk of a streaming host request written, then its released count (R327). -/
def hostChunk (s : State) (r : CxReq) (chunk : Bytes) : State :=
  match Tab.find s.cx.voids r.voidId with
  | none => s
  | some v =>
    let s := hostWriteFor s r.waiter (v.addr + 16 + v.released) chunk
    setVoid s r.waiter r.voidId { v with released := v.released + chunk.length }

/-- CX_VOID_REG (R326): the lowest free registration. -/
def opVoidReg (p : Bytes) (s : State) : CmdAnswer :=
  let addr := leAt p 0 8
  if p.length ≠ 16 then fail s stBadLength
  else if addr % 16 ≠ 0 || !zeroAt p 12 4 then fail s stBadParam
  else
    match firstFrom (fun i => (Tab.find s.cx.voids i).isNone) 0 64 with
    | none => fail s stNoSpace
    | some i =>
      okay { s with cx := { s.cx with voids := Tab.put s.cx.voids i ⟨addr, leAt p 8 4, 0, 0, 0⟩ } } (leBytes 4 i)

/-- CX_VOID_UNREG. -/
def opVoidUnreg (p : Bytes) (s : State) : CmdAnswer :=
  if p.length ≠ 4 then fail s stBadLength
  else
    match Tab.find s.cx.voids (byteAt p 0) with
    | none => fail s stNotFound
    | some v =>
      if voidBusy s (byteAt p 0) then fail s stBusy
      else okay { s with cx := { s.cx with voids := Tab.del s.cx.voids (byteAt p 0) } } []

/-! ### Secured PDUs (R334–R338) -/

/-- Entry `n` of table 13. -/
def secPdu (s : State) (n : Nat) : SecPdu := Tab.get s.cx.secPdus n ⟨0, 0, 0⟩

/-- Fields of a secured PDU entry (Table 13.9). -/
def SecPdu.target (e : SecPdu) : Nat := bitsOf e.words 0 14
def SecPdu.dir (e : SecPdu) : Nat := bitsOf e.words 14 1
def SecPdu.slot (e : SecPdu) : Nat := bitsOf e.words 15 9
def SecPdu.failInval (e : SecPdu) : Bool := bitSet e.words 24
def SecPdu.failBlock (e : SecPdu) : Bool := bitSet e.words 25
def SecPdu.valid (e : SecPdu) : Bool := bitSet e.words 31
def SecPdu.authLen (e : SecPdu) : Nat := bitsOf e.words 32 12
def SecPdu.tBits (e : SecPdu) : Nat := bitsOf e.words 44 7
def SecPdu.macBytes (e : SecPdu) : Nat := bitsOf e.words 51 5
def SecPdu.hdrLen (e : SecPdu) : Nat := bitsOf e.words 56 2
def SecPdu.reserveLog2 (e : SecPdu) : Nat := bitsOf e.words 58 5
def SecPdu.dataId (e : SecPdu) : Nat := bitsOf e.words 64 16
def SecPdu.window (e : SecPdu) : Nat := bitsOf e.words 80 16

/-- The valid entry of direction `dir` that names `target` (R334: at most one). -/
def secEntryFor (s : State) (dir target : Nat) : Option Nat :=
  (s.cx.secPdus.find? (fun x => x.2.valid && x.2.dir == dir && x.2.target == target)).map (fun x => x.1)

/-- A secured PDU counter of entry `n` (CX_SEC_STAT) raised by `k`. -/
def secCount (s : State) (n field k : Nat) : State :=
  { s with cx := { s.cx with
    secStats :=
      Tab.upd s.cx.secStats (n * 8 + field) 0 (fun v => min (v + k) 0xFFFFFFFF) } }

/-- The MAC bytes over data_id, the authentic bytes and the full FV (R335). -/
def secMac (s : State) (e : SecPdu) (auth : Bytes) (fv : Nat) : Bytes :=
  (cmac (keyOf s e.slot) (beBytes 2 e.dataId ++ auth ++ beBytes 8 fv)).take e.macBytes

/-- The length of the trailer in bytes. -/
def SecPdu.trailerLen (e : SecPdu) : Nat := ceilDiv (e.tBits + 8 * e.macBytes) 8

/-- The trailer: the t low bits of the FV, then the MAC, most significant bit first, the last byte's unused bits 0 (R335). -/
def secTrailer (e : SecPdu) (mac : Bytes) (fv : Nat) : Bytes :=
  let bits := e.tBits + 8 * e.macBytes
  let v := fv % 2 ^ e.tBits * 2 ^ (8 * e.macBytes) + beNat mac
  beBytes e.trailerLen (v * 2 ^ (8 * e.trailerLen - bits))

/-- A PDU with the header and trailer a transmit entry writes for freshness value `v` (R336). -/
def secWrite (s : State) (e : SecPdu) (pdu : Bytes) (v : Nat) : Bytes :=
  let pdu := putBytes pdu 0 (beBytes e.hdrLen e.authLen)
  let auth := sliceBytes pdu e.hdrLen e.authLen
  putBytes pdu (e.hdrLen + e.authLen) (secTrailer e (secMac s e auth v) v)

/-- The effective reserve of an entry: raised with the journal's pace, up to 24 (R338). -/
def secReserve (s : State) (e : SecPdu) : Nat := max e.reserveLog2 (min 24 (e.reserveLog2 + s.cx.reserveUp))

/-- Journal wear in permille of the 2,000,000,000 records it is sized for (R338). -/
def journalWear (s : State) : Nat := s.cx.journal * 1000 / 2000000000

/-- A record written to the freshness journal; where its wear passes the life elapsed by 50 permille the reserves rise and
event 0x0009 is raised (R338). -/
def journalRecord (s : State) : State :=
  let s := { s with cx := { s.cx with journal := s.cx.journal + 1 } }
  let s := wr s Reg.CX_FV_WEAR.wear (min (journalWear s) 65535)
  let exceeded := decide (lifePermille s + 50 < journalWear s)
  if exceeded && !rdB s Reg.CX_FV_WEAR.pace_exceeded then
    let s := wr { s with cx := { s.cx with reserveUp := s.cx.reserveUp + 1 } } Reg.CX_FV_WEAR.pace_exceeded 1
    raiseIn s Reg.CX_INT_STATUS.event 0 11 9 0xFFFF
      (leBytes 2 (min (journalWear s) 65535) ++ leBytes 2 (lifePermille s))
  else if exceeded then s
  else wr s Reg.CX_FV_WEAR.pace_exceeded 0

/-- Entry `n` with its freshness value at `v`: a transmit entry that has passed its last ceiling less half the reserve
records a new one (R338). -/
def setFv (s : State) (n v : Nat) : State :=
  let e := secPdu s n
  let r := secReserve s e
  if e.dir = 1 ∧ e.recorded < v + 2 ^ (r - 1) then
    journalRecord { s with cx := { s.cx with
      secPdus :=
        Tab.put s.cx.secPdus n { e with fv := v, recorded := min (v + 2 ^ r) (2 ^ 64 - 1) } } }
  else { s with cx := { s.cx with secPdus := Tab.put s.cx.secPdus n { e with fv := v } } }

/-- A transmitted secured PDU: its entry's fv becomes `v` at the leave instant (R336). -/
def secLeave (s : State) (n v : Nat) : State := secCount (setFv s n v) n 0 1

/-- What R337 makes of a received secured PDU. -/
inductive SecOutcome where
  | ok (fv lost : Nat)
  | duplicate
  | replay
  | authFail
  | short
  deriving DecidableEq, Repr

/-- The tries of R337's procedure from candidate `c` on, in its arithmetic of 64 bits. -/
def secTry (s : State) (e : SecPdu) (auth mac : Bytes) : Nat → Nat → SecOutcome
  | 0, _ => .authFail
  | n + 1, c =>
    let ahead := (c + 2 ^ 64 - e.fv) % 2 ^ 64
    if e.window ≠ 0 ∧ e.window < ahead then .replay
    else if secMac s e auth c = mac then .ok c ((ahead + 2 ^ 64 - 1) % 2 ^ 64)
    else secTry s e auth mac n ((c + 1) % 2 ^ 64)

/-- R337's procedure on a received PDU. -/
def secReceive (s : State) (e : SecPdu) (pdu : Bytes) : SecOutcome :=
  let a := if e.hdrLen = 0 then e.authLen else beAt pdu 0 e.hdrLen
  if e.authLen < a ∨ pdu.length < e.hdrLen + a + e.trailerLen then .short
  else
    let auth := sliceBytes pdu e.hdrLen a
    let bits := e.tBits + 8 * e.macBytes
    let v := beAt pdu (e.hdrLen + a) e.trailerLen / 2 ^ (8 * e.trailerLen - bits)
    let rx := v / 2 ^ (8 * e.macBytes) % 2 ^ e.tBits
    let mac := beBytes e.macBytes (v % 2 ^ (8 * e.macBytes))
    let m := 2 ^ e.tBits
    if rx = e.fv % m ∧ secMac s e auth e.fv = mac then .duplicate
    else
      let c := e.fv / m * m + rx
      let tries := if e.tBits ≠ 0 then 1 else if e.window = 0 then 1 else min e.window 16
      if e.fv < c then secTry s e auth mac tries c
      else if e.tBits = 64 ∨ (c + m) % 2 ^ 64 ≤ e.fv then .replay
      else secTry s e auth mac tries (c + m)

/-- The bookkeeping of a receive entry's outcome: its counters, its FV, and event 0x0005 for a failure (R337). -/
def secOutcome (s : State) (n : Nat) (o : SecOutcome) : State :=
  let failed := fun (s : State) (code field : Nat) =>
    raiseInLimited (secCount s n field 1) Reg.CX_INT_STATUS.event 0 11 5 n n 1
      (fun k => leBytes 1 code ++ leBytes 8 (secPdu s n).fv ++ leBytes 4 k)
  match o with
  | .ok fv lost => secCount (secCount (setFv s n fv) n 0 1) n 5 lost
  | .duplicate => secCount s n 1 1
  | .short => failed s 1 4
  | .replay => failed s 2 2
  | .authFail => failed s 3 3

/-- CX_FV_READ. -/
def opFvRead (p : Bytes) (s : State) : CmdAnswer :=
  let n := leAt p 0 2
  if p.length ≠ 4 then fail s stBadLength
  else if 1023 < n || !(secPdu s n).valid then fail s stNotFound
  else okay s (leBytes 8 (secPdu s n).fv)

/-- CX_FV_SET (R338): DENIED in FIELD for a transmit FV below the current one; otherwise set and recorded. -/
def opFvSet (p : Bytes) (s : State) : CmdAnswer :=
  let n := leAt p 0 2
  let v := leAt p 4 8
  let e := secPdu s n
  if p.length ≠ 12 then fail s stBadLength
  else if 1023 < n || (rd s Reg.LC_STATUS.state == 2 && e.dir == 1 && v < e.fv) then fail s stDenied
  else
    let rec_ := if e.dir = 1 then min (v + 2 ^ secReserve s e) (2 ^ 64 - 1) else v
    okay (journalRecord { s with cx := { s.cx with
      secPdus :=
        Tab.put s.cx.secPdus n { e with fv := v, recorded := rec_ } } }) []

/-! ### Cipher profiles and MACsec configuration (R329, R331, R332) -/

/-- CX_PROFILE_WRITE (Table 13.7). -/
def opProfileWrite (p : Bytes) (s : State) : CmdAnswer :=
  let n := byteAt p 0
  let e := leNat (p.drop 4)
  let mode := bitsOf e 0 2
  let needs := fun (slot : Nat) => bitSet (keySlot s slot).usage 2
  if p.length ≠ 20 then fail s stBadLength
  else if n = 0 || !zeroAt p 1 3 || bitsOf e 23 8 ≠ 0 || bitsOf e 62 2 ≠ 0 || bitsOf e 69 27 ≠ 0 || bitsOf e 96 32 ≠ 0 ||
      bitsOf e 64 5 < 12 || 16 < bitsOf e 64 5 || !needs (bitsOf e 2 9) ||
      (2 ≤ mode && !needs (bitsOf e 11 9)) then fail s stBadParam
  else okay { s with cx := { s.cx with profiles := Tab.put s.cx.profiles n e } } []

/-- The SecY of port `n`; none is configured at reset. -/
def secY (s : State) (n : Nat) : SecY := Tab.get s.cx.secys n ⟨0, 0, 0, false, false, false, false, 0, 0, none⟩

/-- MACSEC_PORT_CFG. -/
def opMacsecPort (p : Bytes) (s : State) : CmdAnswer :=
  let n := byteAt p 0
  let offset := byteAt p 2
  let flags := byteAt p 4
  if p.length ≠ 20 then fail s stBadLength
  else if 11 < n || 3 < byteAt p 1 || 2 < offset || 2 < byteAt p 3 || 16 ≤ flags || !zeroAt p 5 3 ||
      2 ^ 30 < leAt p 8 4 then fail s stBadParam
  else
    let y : SecY := ⟨byteAt p 1, offset, byteAt p 3, bitSet flags 0, bitSet flags 1, bitSet flags 2, bitSet flags 3,
      leAt p 8 4, leAt p 12 8, (secY s n).active⟩
    okay { s with cx := { s.cx with secys := Tab.put s.cx.secys n y } } []

/-- Whether suite `x` numbers packets with 64 bits (the XPN suites, 2 and 3). -/
def isXpn (x : Nat) : Bool := x == 2 || x == 3

/-- MACSEC_SA_INSTALL: DENIED without usage bit 0, BUSY while the SA is active. A transmit SA begins above every packet number
its port has sent under the same key (R332, assumption 106). -/
def opMacsecInstall (p : Bytes) (s : State) : CmdAnswer :=
  let n := byteAt p 0
  let dir := byteAt p 1
  let sc := byteAt p 2
  let an := byteAt p 3
  let slot := leAt p 4 2
  let (used, next) := Tab.get s.cx.sent (n * 512 + slot) (0, 0)
  let pn := if dir = 1 ∧ used = (keySlot s slot).gen then max next (leAt p 8 8) else leAt p 8 8
  let sa : MacsecSa := ⟨slot, pn, leAt p 16 4, sliceBytes p 24 12, leAt p 40 8, false, false⟩
  if p.length ≠ 48 then fail s stBadLength
  else if 11 < n || 1 < dir || 3 < an || (if dir = 1 then sc ≠ 0 else 15 < sc) || !bitSet (keySlot s slot).usage 0 then fail s stDenied
  else if dir = 1 then
    if (secY s n).active == some an then fail s stBusy
    else okay { s with cx := { s.cx with txSas := Tab.put s.cx.txSas (n * 4 + an) sa } } []
  else if ((Tab.find s.cx.rxSas (n * 64 + sc * 4 + an)).map (fun a => a.enabled)).getD false then fail s stBusy
  else okay { s with cx := { s.cx with rxSas := Tab.put s.cx.rxSas (n * 64 + sc * 4 + an) sa } } []

/-- MACSEC_SA_CTRL (R332): enables a receive SA or makes a transmit SA the active one, or disables it. -/
def opMacsecCtrl (p : Bytes) (s : State) : CmdAnswer :=
  let n := byteAt p 0
  let dir := byteAt p 1
  let sc := byteAt p 2
  let an := byteAt p 3
  let off := byteAt p 4 == 1
  if p.length ≠ 8 then fail s stBadLength
  else if 11 < n || 1 < dir || 3 < an || (if dir = 1 then sc ≠ 0 else 15 < sc) || 1 < byteAt p 4 then fail s stNotFound
  else if dir = 1 then
    match Tab.find s.cx.txSas (n * 4 + an) with
    | none => fail s stNotFound
    | some a =>
      let y := secY s n
      let y := { y with active := if off then (if y.active == some an then none else y.active) else some an }
      okay { s with cx := { s.cx with
        secys := Tab.put s.cx.secys n y
        txSas := Tab.put s.cx.txSas (n * 4 + an) { a with enabled := !off } } } (leBytes 8 a.pn)
  else
    match Tab.find s.cx.rxSas (n * 64 + sc * 4 + an) with
    | none => fail s stNotFound
    | some a =>
      okay { s with cx := { s.cx with rxSas := Tab.put s.cx.rxSas (n * 64 + sc * 4 + an) { a with enabled := !off } } }
        (leBytes 8 a.pn)

/-- Every slot, link key and hold buffer zeroised (R322): slots read ERASED, requests in flight are gone. What becomes of each
of those requests is the caller's. -/
def eraseKeys (s : State) (cause : Nat) : State :=
  let gone : KeySlot := ⟨0, 0, 0, 0, 2, [], none⟩
  let s := { s with
    cx := { s.cx with
      slots := (List.range 512).map (fun n => (n, { gone with gen := (keySlot s n).gen }))
      reqs := [] }
    tf := { s.tf with links := Tab.mapAll (fun _ x => { x with keyTx := [], keyRx := [], keyRxOld := [] }) s.tf.links } }
  let s := wr s Reg.CX_STATUS.erased 1
  raiseIn (drawn s) Reg.CX_INT_STATUS.event 0 11 3 0xFFFF (leBytes 1 cause ++ leBytes 2 (freeIn s 0 5000))

end Sys2Proof.Machine
end

