-- ==== Sys2Proof/Machine/Time.lean ====
section
/-! DEFINITION. Device time (chapter 1): synchronisation, steps and epochs, uncertainty, low-power capture, origins and ages. -/

namespace Sys2Proof.Machine

/-! ### Time uncertainty (R21, R22, R24, R28) -/

/-- The uncertainty terms in force at counter instant `t`. -/
def usegAt (s : State) (t : Nat) : USeg :=
  ((s.dt.usegs.find? (fun g => decide (g.t0 ≤ t))).orElse (fun _ => s.dt.usegs.getLast?)).getD
    ⟨0, true, 0, 0, 0, 0, 0, 0, 0⟩

/-- The absolute residual offset at counter instant `t`, in units of 2^-32 ns (R24). -/
def residualAt (g : USeg) (t : Nat) : Nat := g.residual - g.perCycle * (t / 4 - g.resT0 / 4)

/-- U in ns at counter instant `t`: U0, the fixed and residual terms and the drift bound times the time since the last
accepted Sync, the sum rounded up to a whole ns; all ones where unbounded or saturated (R22, R24). -/
def uAt (s : State) (t : Nat) : Nat :=
  let g := usegAt s t
  if g.unbounded then 0xFFFFFFFF
  else
    let drift := rd s Reg.DT_DRIFT_BOUND.ppb * (t - g.lastSync) + g.ppbNs
    let frac := ceilDiv (drift * 2 ^ 32 + residualAt g t * sec) (sec * 2 ^ 32)
    min (g.u0 + g.fixed + frac) 0xFFFFFFFF

/-- U now. -/
def uNow (s : State) : Nat := uAt s s.now

/-- New uncertainty terms from now on. -/
def setU (s : State) (g : USeg) : State :=
  { s with dt := { s.dt with usegs := ({ g with t0 := s.now } :: s.dt.usegs).take 8 } }

/-! ### The counter (R14, R24, R25) -/

/-- The stretches of device time up to now, without a planned end of a slew. -/
def pastSegs (s : State) : List DtSeg := s.dt.segs.filter (fun g => decide (g.t0 ≤ s.now))

/-- Device time from now on at `dt0` (2^-32 ns) and rate adjustment `adj`, epoch `e`; a slew in progress is over. -/
def setSeg (s : State) (dt0 : Nat) (adj : Int) (e : Nat) : State :=
  { s with dt := { s.dt with
    segs := (⟨s.now / 4 * 4, dt0, adj, e⟩ :: pastSegs s).take 8
    slewing := decide (adj ≠ 0) } }

/-- Device time now in units of 2^-32 ns. -/
def dtRaw (s : State) : Nat := segDt (segAt s s.now) s.now

/-- A slew in progress abandoned: DT runs on at its unslewed rate. -/
def stopSlew (s : State) : State := setSeg s (dtRaw s) 0 (epochAt s s.now)

/-- What a slew at `ppb` corrects per 4 ns cycle, in units of 2^-32 ns. -/
def slewPerCycle (ppb : Nat) : Nat := ppb * 2 ^ 34 / sec

/-- Offset `o` slewed out from now on at `ppb`, and the unslewed rate again from the edge at which nothing is left (R24). -/
def startSlew (s : State) (o : Int) (ppb : Nat) : State :=
  let step := slewPerCycle ppb
  if o = 0 ∨ step = 0 then stopSlew s
  else
    let cycles := ceilDiv (o.natAbs * 2 ^ 32) step
    let e := epochAt s s.now
    let raw := dtRaw s
    let t1 := s.now / 4 * 4 + cycles * 4
    let raw1 := ((raw : Int) + (cycles : Int) * 17179869184 - o * 4294967296).toNat
    let s := setSeg s raw (if o < 0 then (step : Int) else -(step : Int)) e
    { s with dt := { s.dt with segs := (⟨t1, raw1, 0, e⟩ :: s.dt.segs).take 8 } }

/-- The signed rate correction in force, in ppb (DT_RATE_ADJ). -/
def rateAdj (s : State) : Int :=
  let a := (segAt s s.now).adj
  let m : Int := (ceilDiv (a.natAbs * sec) (2 ^ 34) : Nat)
  if a < 0 then -m else m

/-! ### State and events (R16, R40) -/

/-- DT_STATUS.state; its synced bit is a view of it (R16). -/
def setDtState (s : State) (st : Nat) : State := wr s Reg.DT_STATUS.state st

/-- The DT_INT_STATUS bit of DT event `code`. -/
def dtIntBit (code : Nat) : Fld :=
  match code with
  | 1 => Reg.DT_INT_STATUS.acquired
  | 2 => Reg.DT_INT_STATUS.lost
  | 3 => Reg.DT_INT_STATUS.holdover_expired
  | 4 => Reg.DT_INT_STATUS.step
  | 5 => Reg.DT_INT_STATUS.gm_change
  | 6 => Reg.DT_INT_STATUS.uncert_sat
  | _ => Reg.DT_INT_STATUS.drift_violation

/-- DT event `code` (Table 1.5). -/
def dtEvent (s : State) (code : Nat) (data : Bytes) : State :=
  raise (wr s (dtIntBit code) 1) 2 code 0xFFFF data

/-- An entry into LOCKED from another state, with event 0x0001 (R24). -/
def enterLocked (s : State) : State :=
  if rd s Reg.DT_STATUS.state = 2 then s
  else
    dtEvent (setDtState s 2) 1
      (leBytes 8 (pattern 64 s.dt.firstOffset) ++ leBytes 1 (rd s Reg.DT_STATUS.sync_port))

/-! ### Best master clock algorithm (R17, R18, R40) -/

/-- PRESUMED from IEEE 802.1AS-2020: priority vectors compare component by component, the lower the better
(assumption 9). -/
def vectorOf (port : Nat) (a : Announce) : List Nat :=
  [a.priority1, a.clockQuality, a.priority2, a.gmIdentity, a.stepsRemoved, a.senderIdentity, port]

/-- Whether one list of numbers comes before another. -/
def lexLess : List Nat → List Nat → Bool
  | a :: as, b :: bs => if a = b then lexLess as bs else decide (a < b)
  | [], _ :: _ => true
  | _, [] => false

/-- Whether gPTP port `port` is enabled: an Ethernet port, or a Tyeth link (16–19). -/
def portEnabled (s : State) (port : Nat) : Bool :=
  if port < 12 then rdB s Reg.ETH_STATUS.en_eff port else decide (16 ≤ port) && linkUp s (port - 16)

/-- PRESUMED: a port whose measured propagation delay exceeds the threshold (800 ns on Ethernet, Table 1.2; 20 µs on a
Tyeth link, R350) takes no part; one not measured yet does (assumptions 9, 81). A port that is not enabled takes none (DT_CTRL.sync_en). -/
def portCapable (s : State) (port : Nat) : Bool :=
  portEnabled s port &&
    (match Tab.find s.dt.linkDelay port with
    | none => true
    | some d => decide (d ≤ if port < 12 then 800 else 20000))

/-- The best announcement among the ports that take part. -/
def bestAnnounce (s : State) : Option (Nat × Announce) :=
  (s.dt.announce.filter (fun x => portCapable s x.1)).foldl
    (fun best x =>
      match best with
      | none => some x
      | some b => if lexLess (vectorOf x.1 x.2) (vectorOf b.1 b.2) then some x else some b)
    none

/-- The slave port and grandmaster identity the algorithm selects, as the role restricts it (R18); this device's own
identity while it is grandmaster. Under external port configuration the slave port is the configured one, from which no Announce
names a grandmaster (R40); without one this device is grandmaster where its role lets it (assumption 80). -/
def selectGm (s : State) : Option Nat × Option Nat :=
  if !rdB s Reg.DT_CTRL.sync_en then (none, none)
  else match s.dt.extPorts with
  | some slave =>
    if rd s Reg.DT_CTRL.role = 1 then (none, some Config.ownClockIdentity)
    else match slave with
      | some p => (some p, none)
      | none => (none, if rd s Reg.DT_CTRL.role = 2 then none else some Config.ownClockIdentity)
  | none =>
    let own : Announce := ⟨rd s Reg.DT_CTRL.priority1, Config.ownClockQuality, rd s Reg.DT_CTRL.priority2,
      Config.ownClockIdentity, 0, Config.ownClockIdentity, 0⟩
    match rd s Reg.DT_CTRL.role, bestAnnounce s with
    | 1, _ => (none, some Config.ownClockIdentity)
    | 2, none => (none, none)
    | 2, some (p, a) => (some p, some a.gmIdentity)
    | _, none => (none, some Config.ownClockIdentity)
    | _, some (p, a) =>
      if lexLess (vectorOf 0 own) (vectorOf p a) then (none, some Config.ownClockIdentity) else (some p, some a.gmIdentity)

/-- The selection taken again: DT_STATUS follows it, a grandmaster has U0 = 0 (R21), and a change of the grandmaster
identity in force, or of the sync port while there is none, raises event 0x0005 (R40). -/
def reselect (s : State) : State :=
  let (port, gm) := selectGm s
  let a := if gm.isSome then port.bind (Tab.find s.dt.announce) else none
  let kept := if gm.isNone && port.isSome && decide (port = s.dt.slave) then rd s Reg.DT_STATUS.steps_removed else 0
  let steps := (a.map (fun x => x.stepsRemoved)).getD kept
  let own := port.isNone && gm.isSome
  let changed := decide (gm ≠ s.dt.gm) || (gm.isNone && decide (port ≠ s.dt.slave))
  let s := { s with dt := { s.dt with slave := port, gm := gm } }
  let s := wr s Reg.DT_STATUS.gm_local (b2n own)
  let s := wr s Reg.DT_STATUS.gm_device ((a.map (fun x => x.gmDevice)).getD 0)
  let s := wr s Reg.DT_STATUS.sync_port (port.getD 0xFF)
  let s := wr s Reg.DT_STATUS.steps_removed steps
  let s := if own then setU s { usegAt s s.now with u0 := 0 } else s
  if changed then dtEvent s 5 (leBytes 8 (gm.getD (2 ^ 64 - 1)) ++ leBytes 1 steps) else s

/-! ### Syncs (R18, R21, R24, R26) -/

/-- Whether a Sync on `port` from grandmaster `gm` is accepted: not during a sweep, and only on the slave port from the
selected grandmaster, whom external port configuration leaves unnamed (R18, R26, R40). -/
def syncAccepted (s : State) (port gm : Nat) : Bool :=
  rdB s Reg.DT_CTRL.sync_en && !rdB s Reg.DT_STATUS.sweep_pending && portCapable s port &&
    decide (s.dt.slave = some port) && (s.dt.extPorts.isSome || decide (s.dt.gm = some gm))

/-- The base uncertainty of a history of offsets, newest first (R21). -/
def baseU (history : List Nat) (steps : Nat) : Nat := history.foldl max 0 + 16 * steps

/-- An accepted Sync with offset `o` (R21, R24). The slew rate is a free value within DT_SLEW_MAX. -/
def acceptSync (s : State) (o : Int) (steps : Nat) : State :=
  let u := uNow s
  let st := rd s Reg.DT_STATUS.state
  let bounded := !(usegAt s s.now).unbounded
  let violated := bounded && decide (u < o.natAbs)
  let s := wr s Reg.DT_OFFSET.offset_ns (pattern 32 (satSigned 32 o))
  let s := wr s Reg.DT_LAST_SYNC.dt (dtNow s)
  let s := wr s Reg.DT_STATUS.steps_removed steps
  let first := if st = 1 && s.dt.measured then s.dt.firstOffset else o
  let s := { s with dt := { s.dt with
    lastSync := s.now
    firstOffset := first
    measured := true
    satRaised := false } }
  let s := if violated then dtEvent s 7 (leBytes 8 (pattern 64 o) ++ leBytes 4 u) else s
  if rdB s Reg.DT_CTRL.step_en && decide (rd s Reg.DT_STEP_THRESH.ns < o.natAbs) then
    let s := wr s Reg.DT_STATUS.sweep_pending 1
    { s with dt := { s.dt with pending := some ⟨-o, (epochAt s s.now + 1) % 16, steps⟩ } }
  else
    let history := (o.natAbs :: s.dt.history).take 8
    let s := { s with dt := { s.dt with history := history } }
    let ppb := freeIn s 1 (rd s Reg.DT_SLEW_MAX.ppb)
    let locks := st == 2 || decide (o.natAbs ≤ 1000)
    let s := startSlew (drawn s) o ppb
    let s := setU s ⟨0, false, baseU history steps, s.now, 0, 0, s.now / 4 * 4,
      if locks then 0 else o.natAbs * 2 ^ 32, slewPerCycle ppb⟩
    if locks then enterLocked s else setDtState s 1

/-- The pending step applied at one edge (R25, R26), `marked` origins having been marked unknown. -/
def applyStep (s : State) (p : PendingStep) (marked : Nat) : State :=
  let raw := ((dtRaw s : Int) + p.amount * 4294967296).toNat
  let s := setSeg s raw 0 p.epoch
  let s := { s with dt := { s.dt with pending := none, history := [0] } }
  let s := wr s Reg.DT_STATUS.sweep_pending 0
  let s := wr s Reg.DT_STATUS.epoch p.epoch
  let s := wr s Reg.DT_STEP_HIST.step (pattern 64 p.amount) p.epoch
  let s := dtEvent s 4 (leBytes 8 (pattern 64 p.amount) ++ leBytes 1 p.epoch ++ leBytes 3 marked)
  let s := setU s ⟨0, false, baseU [0] p.stepsRemoved, s.dt.lastSync, 0, 0, 0, 0, 0⟩
  enterLocked s

/-- The sync interval in ns (Table 1.2). -/
def syncInterval (s : State) : Nat := sec / 2 ^ (signed 4 (rd s Reg.DT_CTRL.log_sync_interval)).natAbs

/-- Loss of synchronisation, by state (R20, R23). -/
def loseSync (s : State) : State :=
  let lastDt := leBytes 8 (rd s Reg.DT_LAST_SYNC.dt)
  let lost := fun (s : State) => dtEvent s 2 (lastDt ++ leBytes 4 (uNow s))
  match rd s Reg.DT_STATUS.state with
  | 2 =>
    let s := lost (setDtState s 3)
    if rd s Reg.DT_HOLDOVER_LIMIT.ms = 0 then dtEvent (setDtState s 4) 3 lastDt else s
  | 1 =>
    if s.dt.measured then
      let g := usegAt s s.now
      let r := residualAt g s.now
      let s := stopSlew s
      let s := setU s { g with resT0 := s.now, residual := r, perCycle := 0 }
      lost (setDtState s 4)
    else setDtState s 0
  | _ => s

/-! ### Low power (R28) -/

/-- What the wake die captures on entering Standby or Hibernate. -/
def captureTime (s : State) : State :=
  let g := usegAt s s.now
  let accrued := g.ppbNs + rd s Reg.DT_DRIFT_BOUND.ppb * (s.now - g.lastSync)
  let s := { s with dt := { s.dt with
    captured := some ⟨dtNow s, accrued, g.u0 + g.fixed + ceilDiv (residualAt g s.now) (2 ^ 32),
      rd s Reg.DT_STATUS.state, s.dt.measured && !g.unbounded, s.now⟩ } }
  stopSlew s

/-- DT, U and the state on return from Standby or Hibernate: the captured DT plus whole 32.768 kHz ticks; U grown at the
always-on drift bound, plus the tick quantisation. -/
def restoreTime (s : State) : State :=
  match s.dt.captured with
  | none => s
  | some c =>
    let asleep := s.now - c.at_
    let ticks := asleep * 32768 / sec
    let dt := c.dt + ticks * sec / 32768
    let s := setSeg s (dt * 2 ^ 32) 0 (rd s Reg.DT_STATUS.epoch)
    let s := { s with dt := { s.dt with captured := none } }
    let grown : USeg := ⟨0, !c.measured, c.u, s.now, 30518, c.ppbNs + rd s Reg.DT_AON_DRIFT_BOUND.ppb * asleep, 0, 0, 0⟩
    let s := setU s grown
    let expired := decide (rd s Reg.DT_HOLDOVER_LIMIT.ms * ms ≤ s.now - s.dt.lastSync)
    match c.state with
    | 0 => setDtState s 0
    | 1 => setDtState s (if c.measured then 4 else 0)
    | 4 => setDtState s 4
    | _ => setDtState s (if expired then 4 else 3)

/-! ### Origins and ages (R29–R39) -/

/-- The sum of DT_STEP_HIST over the `n` epochs after `e` (R35). -/
def stepSumN (s : State) : Nat → Nat → Int
  | _, 0 => 0
  | e, n + 1 => signed 64 (rd s Reg.DT_STEP_HIST.step ((e + 1) % 16)) + stepSumN s ((e + 1) % 16) n

/-- S of R35: the steps of the epochs after `e`, up to and including the current one. -/
def stepSum (s : State) (e : Nat) : Int := stepSumN s e ((rd s Reg.DT_STATUS.epoch + 16 - e % 16) % 16)

/-- The stamp of a CAN frame whose start-of-frame edge fell at counter instant `t` (R29). -/
def canStamp (s : State) (ch t : Nat) : Nat :=
  if ch < 32 then dtAt s t else dtAt s t - rd s Reg.DT_CANX_RXDLY.rx_delay_ns (ch - 32)

/-- The receive stamp of an Ethernet frame at counter instant `t` (R30). -/
def ethStamp (s : State) (port t : Nat) : Nat := dtAt s t - rd s Reg.DT_ETH_LAT.ingress_ns port

/-- This device's own origin for a frame stamped `dt` at counter instant `t` on `channel` (R31), with U at the stamp, 0 in LOCKED as
grandmaster (R133). -/
def localOrigin (s : State) (dt : Nat) (t channel : Nat) : Origin :=
  let master := rd s Reg.DT_STATUS.state == 2 && rdB s Reg.DT_STATUS.gm_local
  ⟨dt, epochAt s t, if master then 0 else uAt s t, ownId s, channel, false, false⟩

/-- Whether an origin's age is unknown (R27, R37): marked by a sweep, of the epoch a pending sweep opens, or remote with an
unbounded or saturated uncertainty on either side. -/
def ageUnknown (s : State) (o : Origin) (t : Nat) : Bool :=
  o.unknown ||
    (match s.dt.pending with
     | some p => o.epoch == p.epoch
     | none => false) ||
    (o.remote && (o.u == 0xFFFFFFFF || uAt s t == 0xFFFFFFFF))

/-- The age of an origin at counter instant `t` in ns: none where unknown (R35–R37). -/
def ageAt (s : State) (o : Origin) (t : Nat) : Option Nat :=
  if ageUnknown s o t then none
  else
    let base : Int := (dtAt s t : Int) - (o.dt + stepSum s o.epoch)
    let a := if o.remote then base + (uAt s t : Int) + (o.u : Int) else base
    some a.toNat

/-- An age in pips (R38). -/
def pips (age : Option Nat) : Nat :=
  match age with
  | none => 0xFFFF
  | some a => min (a / 100000) 0xFFFF

/-- Whether content of this age exceeds budget `b` (R39). -/
def isStale (b : Nat) (age : Option Nat) : Bool :=
  if b = 0 then true
  else if b = 0xFFFF then false
  else
    match age with
    | none => true
    | some a => decide (b * 100000 < a)

/-- An explicit origin the host gives, in epoch `e`, as it is stored (R33): in the current epoch and not after now. -/
def hostOrigin (s : State) (dt : Int) (e : Nat) : Int :=
  min (dt + stepSum s e) (dtNow s : Int)

/-! ### The rows of chapter 1 but for STEP_APPLIED, which sweeps the stored origins -/

/-- SYNC_RECEIVED. -/
def syncReceivedOp (port gm : Nat) (o : Int) (steps : Nat) (s : State) : State :=
  if syncAccepted s port gm then reselect (acceptSync s o steps) else s

/-- RESIDUAL_WITHIN_1US (R24). -/
def residualOp (s : State) : State :=
  let g := usegAt s s.now
  if rd s Reg.DT_STATUS.state = 1 ∧ s.dt.measured = true ∧ residualAt g s.now ≤ 1000 * 2 ^ 32 then
    enterLocked (setU s { g with residual := 0 })
  else s

/-- SYNC_LOSS: without effect before three intervals have passed (R20). -/
def syncLossOp (s : State) : State :=
  if s.dt.lastSync + 3 * syncInterval s ≤ s.now then loseSync s else s

/-- HOLDOVER_LIMIT_EXPIRED (R23). -/
def holdoverOp (s : State) : State :=
  if rd s Reg.DT_STATUS.state = 3 ∧ s.dt.lastSync + rd s Reg.DT_HOLDOVER_LIMIT.ms * ms ≤ s.now then
    dtEvent (setDtState s 4) 3 (leBytes 8 (rd s Reg.DT_LAST_SYNC.dt))
  else s

/-- UNCERTAINTY_SATURATED (R23). -/
def saturatedOp (s : State) : State :=
  if uNow s = 0xFFFFFFFF ∧ (usegAt s s.now).unbounded = false ∧ s.dt.satRaised = false then
    dtEvent { s with dt := { s.dt with satRaised := true } } 6 []
  else s

/-- ANNOUNCE_RECEIVED (R18): on an enabled port. -/
def announceOp (port : Nat) (a : Announce) (s : State) : State :=
  if !portEnabled s port then s else reselect { s with dt := { s.dt with
    announce := Tab.put s.dt.announce port a
    announceAt := Tab.put s.dt.announceAt port s.now } }

/-- ANNOUNCE_RECEIPT_TIMEOUT (R17): without effect before three announce intervals have passed. -/
def announceTimeoutOp (port : Nat) (s : State) : State :=
  if (Tab.find s.dt.announceAt port).any (fun a => decide (a + 3 * Config.announceInterval ≤ s.now)) then
    reselect { s with dt := { s.dt with
      announce := Tab.del s.dt.announce port
      announceAt := Tab.del s.dt.announceAt port } }
  else s

/-- The stamp of an event message sent on `port` now, and of a frame received there now (R30, R350). -/
def egressStamp (s : State) (port : Nat) : Nat := if port < 12 then dtNow s + rd s Reg.DT_ETH_LAT.egress_ns port else dtNow s
def ingressStamp (s : State) (port : Nat) : Nat := if port < 12 then ethStamp s port s.now else dtNow s

/-- A peer-delay message on an enabled port (R17, R30). PRESUMED from IEEE 802.1AS-2020: the delay is half of what the exchange took
less the responder's turnaround. -/
def peerDelayMsg (port : Nat) (m : PdelayMsg) (s : State) : State :=
  match m with
  | .sent =>
    emit { s with dt := { s.dt with pdelaySent := Tab.put s.dt.pdelaySent port (egressStamp s port) } }
      (.gptp port .pdelayReq (egressStamp s port))
  | .request => emit s (.gptp port .pdelayResp (egressStamp s port))
  | .response turnaround =>
    match Tab.find s.dt.pdelaySent port with
    | some t1 => { s with dt := { s.dt with
        pdelaySent := Tab.del s.dt.pdelaySent port
        linkDelay := Tab.put s.dt.linkDelay port ((ingressStamp s port - t1 - turnaround) / 2) } }
    | none => s

/-- PEER_DELAY_MESSAGE (R17): the external port configuration in force is taken with it (assumption 80). -/
def peerDelayOp (port : Nat) (m : PdelayMsg) (ext : Option (Option Nat)) (s : State) : State :=
  let s := if rdB s Reg.DT_CTRL.sync_en && portEnabled s port then peerDelayMsg port m s else s
  reselect { s with dt := { s.dt with extPorts := ext } }

/-- SYNC_TRANSMISSION: a port acting as master sends a two-step Sync with its egress stamp (R17, R30). -/
def syncTransmitOp (port : Nat) (s : State) : State :=
  if rdB s Reg.DT_CTRL.sync_en && (s.dt.gm.isSome || s.dt.slave.isSome) && decide (s.dt.slave ≠ some port) && portEnabled s port &&
      portCapable s port then
    let s := { s with dt := { s.dt with syncsSent := Tab.upd s.dt.syncsSent port 0 (· + 1) } }
    emit s (.gptp port .sync (egressStamp s port))
  else s

/-- SYNC_RECEIVED (R24). -/
def execSyncReceived (t : Nat) (port : Fin 20) (gm : Nat) (offset : Int) (steps : Nat) (s : State) :
    Host.Outcome State Fault Refusal :=
  powered t s <|
  done (syncReceivedOp port gm offset steps (tick t s))

/-- RESIDUAL_WITHIN_1US (R24). -/
def execResidualWithin1us (t : Nat) (s : State) : Host.Outcome State Fault Refusal :=
  powered t s <|
  done (residualOp (tick t s))

/-- SYNC_LOSS (R20). -/
def execSyncLoss (t : Nat) (s : State) : Host.Outcome State Fault Refusal :=
  powered t s <|
  done (syncLossOp (tick t s))

/-- HOLDOVER_LIMIT_EXPIRED (R23). -/
def execHoldoverLimitExpired (t : Nat) (s : State) : Host.Outcome State Fault Refusal :=
  powered t s <|
  done (holdoverOp (tick t s))

/-- UNCERTAINTY_SATURATED (R23). -/
def execUncertaintySaturated (t : Nat) (s : State) : Host.Outcome State Fault Refusal :=
  powered t s <|
  done (saturatedOp (tick t s))

/-- ANNOUNCE_RECEIVED (R18). -/
def execAnnounceReceived (t : Nat) (port : Fin 20) (a : Announce) (s : State) : Host.Outcome State Fault Refusal :=
  powered t s <|
  done (announceOp port a (tick t s))

/-- ANNOUNCE_RECEIPT_TIMEOUT (R17). -/
def execAnnounceReceiptTimeout (t : Nat) (port : Fin 20) (s : State) : Host.Outcome State Fault Refusal :=
  powered t s <|
  done (announceTimeoutOp port (tick t s))

/-- PEER_DELAY_MESSAGE (R17). -/
def execPeerDelayMessage (t : Nat) (port : Fin 20) (m : PeerDelay) (s : State) : Host.Outcome State Fault Refusal :=
  powered t s <|
  done (peerDelayOp port m.message (m.external.map (fun p => p.map Fin.val)) (tick t s))

/-- SYNC_TRANSMISSION (R17). -/
def execSyncTransmission (t : Nat) (port : Fin 20) (s : State) : Host.Outcome State Fault Refusal :=
  powered t s <|
  done (syncTransmitOp port (tick t s))

end Sys2Proof.Machine
end

