-- ==== Sys2Proof/Machine/CanMem.lean ====
section
/-! DEFINITION. CAN message memory (chapter 4): the partition in use, elements, validation, the pending list, cancellation
results, host filters, receive FIFOs, mailboxes and the transmit event FIFO. -/

namespace Sys2Proof.Machine

/-! ### A channel and its partition -/

/-- Channel `n`. -/
def canCh (s : State) (n : Nat) : CanCh := Tab.get s.can n CanCh.reset

/-- Channel `n` changed by `f`. -/
def modCan (s : State) (n : Nat) (f : CanCh → CanCh) : State := { s with can := Tab.put s.can n (f (canCh s n)) }

/-- The partition of channel `n` in use (R510). -/
def partOf (s : State) (n : Nat) : Partition := (canCh s n).part

/-- Data bytes of a data size code (Table 4.2). -/
def dataSize (code : Nat) : Nat := [8, 12, 16, 20, 24, 32, 48, 64, 128, 256, 512, 2048].getD code 0

/-- The address of byte `a` of channel `n`'s message memory in the state's memory (R99). -/
def mmAddr (n a : Nat) : Nat := n * 65536 + a % 65536

/-- `len` bytes of channel `n`'s message memory from `a`. -/
def mmRead (s : State) (n a len : Nat) : Bytes := Memory.readBytes s.mem (mmAddr n a) len

/-- Bytes stored into channel `n`'s message memory at `a`. -/
def mmWrite (s : State) (n a : Nat) (bs : Bytes) : State := { s with mem := Memory.writeBytes s.mem (mmAddr n a) bs }

/-- The offset of transmit element `k`. -/
def Partition.txAt (p : Partition) (k : Nat) : Nat := 4 * p.txStart + k * (32 + dataSize p.txSize)

/-- How many transmit elements the partition holds. -/
def Partition.txCount (p : Partition) : Nat := p.txBuffers + p.txqDepth

/-- The offset of element `k` of FIFO `f`. -/
def Partition.rxAt (p : Partition) (f k : Nat) : Nat :=
  4 * Tab.get p.rxStart f 0 + k * (32 + dataSize (Tab.get p.rxSize f 7))

/-- The offset of mailbox `m`. -/
def Partition.mbAt (p : Partition) (m : Nat) : Nat := 4 * p.mbStart + m * (32 + dataSize p.mbSize)

/-- The partition the registers of channel `n` describe. -/
def partWritten (s : State) (n : Nat) : Partition where
  txStart := rd s Reg.CAN_MM_TX.start_w n
  txSize := rd s Reg.CAN_MM_TX.dsize n
  txBuffers := rd s Reg.CAN_TXCFG.tx_buffers n
  txqDepth := rd s Reg.CAN_TXCFG.txq_depth n
  gwShare := rd s Reg.CAN_TXCFG.gw_share n
  fltStart := rd s Reg.CAN_FLT_CFG.start_w n
  fltCap := rd s Reg.CAN_FLT_CFG.cap n
  rxStart := [(0, rd s Reg.CAN_RXF_CFG.start_w n 0), (1, rd s Reg.CAN_RXF_CFG.start_w n 1)]
  rxCount := [(0, rd s Reg.CAN_RXF_CFG.count n 0), (1, rd s Reg.CAN_RXF_CFG.count n 1)]
  rxSize := [(0, rd s Reg.CAN_RXF_CFG.dsize n 0), (1, rd s Reg.CAN_RXF_CFG.dsize n 1)]
  mbStart := rd s Reg.CAN_MB_CFG.start_w n
  mbCount := rd s Reg.CAN_MB_CFG.count n
  mbSize := rd s Reg.CAN_MB_CFG.dsize n
  efStart := rd s Reg.CAN_TXEF_CFG.start_w n
  efCount := rd s Reg.CAN_TXEF_CFG.count n

/-- The regions of a partition: start and length in bytes (Table 4.1). -/
def Partition.regions (p : Partition) : List (Nat × Nat) := [
  (4 * p.fltStart, 12 * p.fltCap),
  (p.rxAt 0 0, Tab.get p.rxCount 0 0 * (32 + dataSize (Tab.get p.rxSize 0 7))),
  (p.rxAt 1 0, Tab.get p.rxCount 1 0 * (32 + dataSize (Tab.get p.rxSize 1 7))),
  (p.mbAt 0, p.mbCount * (32 + dataSize p.mbSize)),
  (4 * p.efStart, 16 * p.efCount),
  (p.txAt 0, p.txCount * (32 + dataSize p.txSize))]

/-- Whether two regions overlap; one of no bytes overlaps nothing. -/
def overlaps (a b : Nat × Nat) : Bool :=
  a.2 != 0 && b.2 != 0 && decide (a.1 < b.1 + b.2) && decide (b.1 < a.1 + a.2)

/-- Whether regions lie within the 64 KiB and apart (R100). -/
def regionsFit : List (Nat × Nat) → Bool
  | [] => true
  | r :: rs => (r.2 == 0 || decide (r.1 + r.2 ≤ 65536)) && !rs.any (overlaps r) && regionsFit rs

/-! ### Frames as words (Tables 4.3 and 4.9) -/

/-- The id word of a frame. -/
def idWord (f : CanFrame) : Nat := f.id % 2 ^ 29 + b2n f.xtd * 2 ^ 29 + b2n f.rtr * 2 ^ 30 + b2n f.esi * 2 ^ 31

/-- The fmt word of a frame, bits 27–24 `epoch`, the bits above `hi`. -/
def fmtWord (f : CanFrame) (epoch hi : Nat) : Nat :=
  f.dlc % 16 + f.fmt % 4 * 16 + b2n f.brs * 64 + b2n f.sec * 128 + f.sdt % 256 * 256 + f.vcid % 256 * 65536 +
    epoch % 16 * 16777216 + hi * 268435456

/-- The data length an FD or CC code stands for (R103). -/
def fdLength (dlc : Nat) : Nat := if dlc < 9 then dlc else [12, 16, 20, 24, 32, 48, 64].getD (dlc - 9) 64

/-- The data length of a frame (R103): the XL data length is that of its data. -/
def dataLength (f : CanFrame) : Nat :=
  match f.fmt with
  | 0 => if f.rtr then 0 else min f.dlc 8
  | 1 => fdLength f.dlc
  | _ => f.data.length

/-- The frame that words id, fmt, af and data stand for. -/
def frameOf (id fmt af : Nat) (data : Bytes) : CanFrame where
  fmt := bitsOf fmt 4 2
  id := bitsOf id 0 29
  xtd := bitSet id 29
  rtr := bitSet id 30
  brs := bitSet fmt 6
  esi := bitSet id 31
  dlc := bitsOf fmt 0 4
  sec := bitSet fmt 7
  sdt := bitsOf fmt 8 8
  vcid := bitsOf fmt 16 8
  af := af
  data := data

/-! ### Transmit elements (R113–R115) -/

/-- The bytes of transmit element `k`: header and data area. -/
def elemBytes (s : State) (n k : Nat) : Bytes :=
  mmRead s n ((partOf s n).txAt k) (32 + dataSize (partOf s n).txSize)

/-- Transmit element `k` stored. -/
def putElem (s : State) (n k : Nat) (e : Bytes) : State := mmWrite s n ((partOf s n).txAt k) e

/-- The frame of an element. -/
def elemFrame (e : Bytes) : CanFrame :=
  frameOf (leAt e 0 4) (leAt e 4 4) (leAt e 8 4) (sliceBytes e 32 (bitsOf (leAt e 12 4) 0 12))

/-- The origin of an element: always this device's own (R115), stored in the epoch of its fmt word; `unknown` where a sweep has
marked it (R26). -/
def elemOrigin (s : State) (n : Nat) (unknown : Bool) (e : Bytes) : Origin :=
  ⟨signed 64 (leAt e 16 8), bitsOf (leAt e 4 4) 24 4, 0, ownId s, n, false, unknown⟩

/-- Whether the host has set a reserved bit of a transmit element that it brings whole: bytes 0x1B and 0x1E–0x1F, which a
write into message memory cannot reach (Table 4.9). -/
def reservedBytesSet (e : Bytes) : Bool := byteAt e 0x1B != 0 || leAt e 0x1E 2 != 0

/-- Table 4.10's first failing reason for a host element, 0 for none; `whole` tells an element that a command brings. -/
def elemReason (s : State) (n : Nat) (whole : Bool) (e : Bytes) : Nat :=
  let id := leAt e 0 4
  let fmt := leAt e 4 4
  let len := leAt e 12 4
  let f := bitsOf fmt 4 2
  let dlc := bitsOf fmt 0 4
  let l := bitsOf len 0 12
  let xl := f == 2
  if (canCh s n).unchecked then 8
  else if f = 3 || (f == 1 && !rdB s Reg.CAN_CTRL.fd_en n) || (xl && !rdB s Reg.CAN_CTRL.xl_en n) then 1
  else if bitSet fmt 6 && (f == 0 || !rdB s Reg.CAN_CTRL.brs_en n) then 2
  else if dataSize (partOf s n).txSize < l || (f == 0 && (if bitSet id 30 then l != 0 else l != min dlc 8)) ||
      (f == 1 && l != fdLength dlc) || (xl && (l == 0 || decide (2048 < l))) then 3
  else if bitSet id 30 && f != 0 then 4
  else if (!bitSet id 29 && bitsOf id 11 18 != 0) || (bitSet id 29 && xl) then 5
  else if bitsOf fmt 28 4 != 0 || bitsOf len 12 4 != 0 || bitsOf len 26 6 != 0 || bitsOf (byteAt e 26) 1 7 != 0 ||
      (whole && reservedBytesSet e) || (!xl && (bitSet fmt 7 || bitsOf fmt 8 16 != 0 || leAt e 8 4 != 0)) then 7
  else 0

/-- What the engine writes into a host element at its request instant: its origin and epoch (R115), gw 0 and template
0xFFFF (R113). -/
def stampElem (s : State) (e : Bytes) : Bytes :=
  let fmt := leAt e 4 4
  let o : Int := if bitSet (byteAt e 26) 0 then hostOrigin s (leAt e 16 8) (bitsOf fmt 24 4) else (dtNow s : Int)
  let e := putBytes e 4 (leBytes 4 (setBits fmt 24 4 (rd s Reg.DT_STATUS.epoch)))
  let e := putBytes e 12 (leBytes 4 (clrBit (leAt e 12 4) 25))
  let e := putBytes e 16 (leBytes 8 (pattern 64 o))
  putBytes e 28 (leBytes 2 0xFFFF)

/-- A refusal recorded in CAN_MM_ERR (R113, R114). -/
def mmRefuse (s : State) (n reason k : Nat) : State :=
  let s := wr s Reg.CAN_MM_ERR.reason reason n
  let s := wr s Reg.CAN_MM_ERR.element k n
  wr s Reg.CAN_INT_STATUS.refused 1 n

/-- The element the gateway stores (R113, R158): gw 1, its template, its oldest origin. -/
def gwElem (f : CanFrame) (origin : Int) (epoch budget tpl : Nat) : Bytes :=
  leBytes 4 (idWord { f with esi := false }) ++ leBytes 4 (fmtWord f epoch 0) ++ leBytes 4 f.af ++
    leBytes 4 (dataLength f % 4096 + 2 ^ 25) ++ leBytes 8 (pattern 64 origin) ++ leBytes 2 budget ++ zeros 2 ++
    leBytes 2 tpl ++ zeros 2 ++ f.data

/-! ### Pending elements (R81, R83, R89) -/

/-- The pending element of index `k`. -/
def pendOf (s : State) (n k : Nat) : Option Pend := (canCh s n).pends.find? (fun p => p.idx == k)

/-- Whether element `k` is pending. -/
def isPending (s : State) (n k : Nat) : Bool := (pendOf s n k).isSome

/-- Whether element index `k` is a buffer. -/
def isBuffer (s : State) (n k : Nat) : Bool := decide (k < (partOf s n).txBuffers)

/-- Whether the element is a host buffer or a host-share slot. -/
def isHostElem (s : State) (n k : Nat) : Bool :=
  let p := partOf s n
  decide (k < p.txBuffers + (p.txqDepth - p.gwShare))

/-- The lowest free gateway-share slot, as an element index; none while the partition is unchecked (R81, R510). -/
def freeGwSlot (s : State) (n : Nat) : Option Nat :=
  let p := partOf s n
  if (canCh s n).unchecked then none
  else firstFrom (fun k => !isPending s n k) (p.txBuffers + (p.txqDepth - p.gwShare)) p.gwShare

/-- The lowest free host-share slot, as an element index. -/
def freeHostSlot (s : State) (n : Nat) : Option Nat :=
  let p := partOf s n
  firstFrom (fun k => !isPending s n k) p.txBuffers (p.txqDepth - p.gwShare)

/-- An element made pending, last in order. -/
def addPend (s : State) (n : Nat) (p : Pend) : State := modCan s n (fun c => { c with pends := c.pends ++ [p] })

/-- A pending element changed. -/
def modPend (s : State) (n k : Nat) (f : Pend → Pend) : State :=
  modCan s n (fun c => { c with pends := c.pends.map (fun p => if p.idx == k then f p else p) })

/-- Whether the attempt of a selection point's candidate has begun: its frame has started. -/
def SelPoint.begun (p : SelPoint) (now : Nat) : Bool := p.starts && decide (p.due ≤ now)

/-- The element whose attempt has begun (R82): offered, and its start-of-frame has come. -/
def begunIdx (s : State) (n : Nat) : Option Nat := ((canCh s n).offer.filter (fun o => o.point.begun s.now)).map (fun o => o.idx)

/-- The selection point that loses its candidate with element `k`: the element is offered and its attempt has not begun, or it
is being rebuilt for that point. -/
def pointLost (s : State) (n k : Nat) : Option SelPoint :=
  let c := canCh s n
  ((c.offer.filter (fun o => o.idx == k && !o.point.begun s.now)).map (fun o => o.point)).orElse (fun _ =>
    (c.rebuild.filter (fun r => r.idx == k)).map (fun r => r.point))

/-- An element no longer pending; an offer or a rebuild of it is gone, its selection point due again, and a second slot behind
it stands alone. -/
def dropPend (s : State) (n k : Nat) : State :=
  modCan s n (fun c => { c with
    pends := (c.pends.filter (fun p => p.idx != k)).map (fun p => if p.secondOf == some k then { p with secondOf := none } else p)
    offer := c.offer.filter (fun o => o.idx != k)
    rebuild := c.rebuild.filter (fun r => r.idx != k)
    again := (pointLost s n k).orElse (fun _ => c.again) })

/-- Whether the attempt of element `k` has begun. -/
def hasBegun (s : State) (n k : Nat) : Bool := begunIdx s n == some k

/-- The cancellation of buffer `k` resolved: CDONE set, DONE telling whether it was transmitted (R89). -/
def bufferResolved (s : State) (n k : Nat) (transmitted : Bool) : State :=
  let s := clrBitF s Reg.CAN_TXBUF_CANCEL.cancel k n
  let s := setBitF s Reg.CAN_TXBUF_CDONE.cdone k n
  let s := if transmitted then s else clrBitF s Reg.CAN_TXBUF_DONE.done k n
  wr s Reg.CAN_INT_STATUS.txcdone 1 n

/-- CAN_TXQ_CRES reports a resolution. -/
def queueResolved (s : State) (n slot st : Nat) (transmitted : Bool) : State :=
  let s := wr s Reg.CAN_TXQ_CRES.status st n
  let s := wr s Reg.CAN_TXQ_CRES.slot slot n
  let s := wr s Reg.CAN_TXQ_CRES.transmitted (b2n transmitted) n
  let s := wr s Reg.CAN_TXQ_CRES.resolved 1 n
  wr s Reg.CAN_INT_STATUS.txq_cres 1 n

/-- One cancellation of element `k` told of its end (R89, Table 3.10). -/
def tellCancel (s : State) (n k : Nat) (transmitted : Bool) (by_ : CancelBy) : State :=
  let st := if transmitted then stTooLate else stOk
  match by_ with
  | .buffer => bufferResolved s n k transmitted
  | .queue => queueResolved s n (k - (partOf s n).txBuffers) st transmitted
  | .command c =>
    let s := if isBuffer s n k then bufferResolved s n k transmitted else s
    sendReply s 0x2011 c st (leBytes 1 (b2n transmitted) ++ leBytes 1 (b2n !transmitted) ++ zeros 2)

/-- Every cancellation of an element told of its end. -/
def tellCancels (s : State) (n : Nat) (p : Pend) (transmitted : Bool) : State :=
  p.cancels.foldl (fun s b => tellCancel s n p.idx transmitted b) s

/-- Element `k` removed, its cancellations resolved with OK. -/
def removeElem (s : State) (n k : Nat) : State :=
  match pendOf s n k with
  | none => s
  | some p => tellCancels (dropPend s n k) n p false

/-- An element removed by the device: at once, or, where its attempt has begun, at the end of that attempt (R89). -/
def deviceRemove (s : State) (n k : Nat) : State :=
  if hasBegun s n k then modPend s n k (fun p => { p with removing := true }) else removeElem s n k

/-- A removal that a host buffer sees as CDONE with DONE clear even without a cancellation (R87, R117, R510). -/
def removeReported (s : State) (n k : Nat) : State :=
  if isBuffer s n k then bufferResolved (removeElem s n k) n k false else removeElem s n k

/-- A cancellation of element `k`: at once, or at the end of its attempt (Table 3.6); tells whether it was pending. -/
def cancelElem (s : State) (n k : Nat) (by_ : CancelBy) : State × Bool :=
  if !isPending s n k then (s, false)
  else
    let s := modPend s n k (fun p => { p with cancels := p.cancels ++ [by_] })
    (if hasBegun s n k then s else removeElem s n k, true)

/-! ### Host requests (R81, R114) -/

/-- A validated host element made pending. -/
def requestElem (s : State) (n k : Nat) (e : Bytes) : State :=
  addPend (putElem s n k (stampElem s e)) n ⟨k, true, none, [], false, false, none, s.now, false⟩

/-- Buffer `k` requested. -/
def requestBuffer (s : State) (n k : Nat) : State :=
  if (partOf s n).txBuffers ≤ k || isPending s n k then s
  else
    let e := elemBytes s n k
    match elemReason s n false e with
    | 0 => requestElem s n k e
    | r => mmRefuse s n r k

/-- CAN_TXQ_PRES reports the outcome of a put. -/
def putResult (s : State) (n slot st : Nat) : State :=
  let s := wr s Reg.CAN_TXQ_PRES.status st n
  let s := wr s Reg.CAN_TXQ_PRES.slot slot n
  if st = stOk then s else wr s Reg.CAN_INT_STATUS.txq_pres 1 n

/-- CAN_TXQ_PUT of a slot. -/
def queuePut (s : State) (n slot : Nat) : State :=
  let p := partOf s n
  let k := p.txBuffers + slot
  if (canCh s n).unchecked then putResult (mmRefuse s n 8 k) n slot stBadParam
  else if p.txqDepth - p.gwShare ≤ slot then putResult s n slot stBadParam
  else if isPending s n k then putResult s n slot stBusy
  else
    let e := elemBytes s n k
    match elemReason s n false e with
    | 0 => putResult (requestElem s n k e) n slot stOk
    | r => putResult (mmRefuse s n r k) n slot stBadParam

/-- CAN_TX_ENQUEUE (Table 3.10). An element that brings no whole header is malformed; one longer than the slot fails reason 3;
the data bytes it does not bring keep what the slot holds (assumption 94). -/
def opTxEnqueue (p : Bytes) (s : State) : CmdAnswer :=
  let n := byteAt p 0
  if p.length < 16 || leAt p 2 2 ≠ p.length - 16 then fail s stBadLength
  else if 63 < n || byteAt p 1 ≠ 0 || leNat ((p.drop 4).take 12) ≠ 0 then fail s stBadParam
  else
    let pt := partOf s n
    let slot := freeHostSlot s n
    let k := slot.getD pt.txBuffers
    if (canCh s n).unchecked then fail (mmRefuse s n 8 k) stBadParam
    else if slot.isNone then fail s stNoSpace
    else if p.length < 48 then fail s stBadParam
    else
      let size := dataSize pt.txSize
      let e := (p.drop 16).take (32 + size) ++ sliceBytes (elemBytes s n k) (p.length - 16) (48 + size - p.length)
      match (if elemReason s n true e = 0 && decide (48 + size < p.length) then 3 else elemReason s n true e) with
      | 0 => okay (requestElem s n k e) (leBytes 2 (k - pt.txBuffers) ++ zeros 2)
      | r => fail (mmRefuse s n r k) stBadParam

/-- CAN_TX_CANCEL (Table 3.10): its reply is sent at resolution. -/
def opTxCancel (c : Call) (p : Bytes) (s : State) : CmdAnswer :=
  let n := byteAt p 0
  let kind := byteAt p 1
  let num := leAt p 2 2
  let pt := partOf s n
  if p.length ≠ 4 then fail s stBadLength
  else if 63 < n then (s, some (stNotFound, zeros 4))
  else
    let k := if kind = 0 then num else pt.txBuffers + num
    if 1 < kind || (if kind = 0 then pt.txBuffers else pt.txqDepth) ≤ num || !isPending s n k then (s, some (stNotFound, zeros 4))
    else if hasBegun s n k then
      (modPend s n k (fun q => { q with cancels := q.cancels ++ [.command c] }), none)
    else
      let s := if kind = 0 then bufferResolved (removeElem s n k) n k false else removeElem s n k
      okay s (leBytes 1 0 ++ leBytes 1 1 ++ zeros 2)

/-- A bit of CAN_TXBUF_CANCEL written 1. -/
def cancelBuffer (s : State) (n k : Nat) : State :=
  if k < (partOf s n).txBuffers ∧ isPending s n k = true then
    (cancelElem (setBitF s Reg.CAN_TXBUF_CANCEL.cancel k n) n k .buffer).1
  else s

/-- A slot written to CAN_TXQ_CANCEL; ignored while a cancellation is outstanding. -/
def cancelSlot (s : State) (n slot : Nat) : State :=
  if rdB s Reg.CAN_TXQ_CRES.resolved n then
    let k := (partOf s n).txBuffers + slot
    if slot < (partOf s n).txqDepth ∧ isPending s n k = true then
      let s := wr s Reg.CAN_TXQ_CRES.resolved 0 n
      (cancelElem (wr s Reg.CAN_TXQ_CRES.slot slot n) n k .queue).1
    else queueResolved s n slot stNotFound false
  else s

/-- Every bit of `bits` handled in turn. -/
def eachBit (f : State → Nat → State) (bits : Nat) (s : State) : State :=
  (List.range 64).foldl (fun s k => if bitSet bits k then f s k else s) s

/-! ### Host access to message memory (R99, R100, R113) -/

/-- The bytes of a transmit element a host write leaves unchanged: gw, and bytes 0x1B–0x1F. -/
def keepRo (off : Nat) (old new : Byte) : Byte :=
  if off = 15 then BitVec.ofNat 8 (setBits new.toNat 1 1 (old.toNat / 2))
  else if 27 ≤ off ∧ off < 32 then old
  else new

/-- Whether offset `a` lies in region `r`. -/
def inRegion (r : Nat × Nat) (a : Nat) : Bool := decide (r.1 ≤ a) && decide (a < r.1 + r.2)

/-- A host write of 1, 2, 4 or 8 naturally aligned bytes into channel `n`'s message memory; any other is ignored (R99). The
bytes that fall into a region other than the transmit elements are ignored (Table 4.1). -/
def hostMemWrite (s : State) (n a : Nat) (bs : Bytes) : State :=
  let p := partOf s n
  let size := 32 + dataSize p.txSize
  let tx := (p.txAt 0, p.txCount * size)
  let len := bs.length
  if !(len == 1 || len == 2 || len == 4 || len == 8) || a % len ≠ 0 || 65536 < a + len then s
  else
    let last := a + len - 1
    let bad := fun (k : Nat) => (canCh s n).unchecked || !isHostElem s n k || isPending s n k
    let k0 := (if inRegion tx a then a - tx.1 else 0) / size
    let k1 := (last - tx.1) / size
    if inRegion tx a && bad k0 then mmRefuse s n 6 k0
    else if inRegion tx last && bad k1 then mmRefuse s n 6 k1
    else
      let put := fun (s : State) (i : Nat) =>
        let x := a + i
        let b := bs.getD i 0#8
        if inRegion tx x then mmWrite s n x [keepRo ((x - tx.1) % size) (Memory.read s.mem (mmAddr n x)) b]
        else if p.regions.any (fun r => inRegion r x) then s
        else mmWrite s n x [b]
      (List.range len).foldl put s

/-! ### The filter list (R105–R108, R118) -/

/-- Words 0–2 of filter element `i` in use. -/
def fltElem (s : State) (n i : Nat) : Bytes := mmRead s n (4 * (partOf s n).fltStart + 12 * i) 12

/-- Whether a filter element matches a key (R106). -/
def fltMatches (e : Bytes) (f : CanFrame) : Bool :=
  let w0 := leAt e 0 4
  let a := bitsOf w0 0 29
  let b := bitsOf (leAt e 4 4) 0 29
  let xtd := f.xtd && f.fmt != 2
  let kind := bitsOf w0 30 2
  kind != 0 && bitSet w0 29 == xtd && bitSet (leAt e 8 4) (3 + f.fmt) &&
    match kind with
    | 1 => decide (a ≤ f.id) && decide (f.id ≤ b)
    | 2 => f.id == a || f.id == b
    | _ => f.id &&& b == a &&& b

/-- The first element that decides the frame's action; those found with a memory error count as disabled (R117). -/
def fltEval (s : State) (n : Nat) (f : CanFrame) (bad : List Nat) : Option Nat :=
  firstFrom (fun i => !bad.contains i && fltMatches (fltElem s n i) f) 0 (rd s Reg.CAN_FLT_COUNT.count n)

/-- Whether a filter element is invalid (R107). -/
def fltInvalid (e : Bytes) : Bool :=
  let w0 := leAt e 0 4
  let w1 := leAt e 4 4
  let w2 := leAt e 8 4
  let a := bitsOf w0 0 29
  let b := bitsOf w1 0 29
  (bitsOf w0 30 2 == 1 && decide (b < a)) || (!bitSet w0 29 && (decide (0x7FF < a) || decide (0x7FF < b))) ||
    decide (5 < bitsOf w2 0 3) || bitsOf w2 3 3 == 0 || bitsOf w1 29 3 != 0 || bitsOf w2 12 20 != 0

/-- CAN_FLT_WRITE (R107). -/
def opFltWrite (p : Bytes) (s : State) : CmdAnswer :=
  let n := byteAt p 0
  let first := leAt p 2 2
  let k := leAt p 4 2
  let count := leAt p 6 2
  let noIndex : Bytes := leBytes 2 0xFFFF ++ zeros 2
  let elem := fun (i : Nat) => sliceBytes p (16 + 12 * i) 12
  if p.length ≠ 16 + 12 * k then fail s stBadLength
  else if 63 < n || byteAt p 1 ≠ 0 || leAt p 8 8 ≠ 0 then (s, some (stBadParam, noIndex))
  else if (canCh s n).unchecked then fail s stBusy
  else if 1024 < count || (partOf s n).fltCap < count then (s, some (stNoSpace, noIndex))
  else
    let old := rd s Reg.CAN_FLT_COUNT.count n
    if (old < count && (old < first || first + k < count)) || count < first + k then (s, some (stBadParam, noIndex))
    else
      match firstFrom (fun i => fltInvalid (elem i)) 0 k with
      | some i => (s, some (stBadParam, leBytes 2 (first + i) ++ zeros 2))
      | none =>
        let s := mmWrite s n (4 * (partOf s n).fltStart + 12 * first) (p.drop 16)
        okay (wr s Reg.CAN_FLT_COUNT.count count n) noIndex

/-- CAN_FLT_READ (Table 4.12). -/
def opFltRead (p : Bytes) (s : State) : CmdAnswer :=
  let n := byteAt p 0
  let first := leAt p 2 2
  let k := leAt p 4 2
  if p.length ≠ 8 then fail s stBadLength
  else if 63 < n || byteAt p 1 ≠ 0 || leAt p 6 2 ≠ 0 then fail s stBadParam
  else if (canCh s n).unchecked then fail s stBusy
  else if 64 < k || (partOf s n).fltCap < first + k then fail s stBadParam
  else
    okay s (leBytes 2 (rd s Reg.CAN_FLT_COUNT.count n) ++ zeros 2 ++
      mmRead s n (4 * (partOf s n).fltStart + 12 * first) (12 * k))

/-! ### Receive FIFOs and mailboxes (R102, R103, R109–R111) -/

/-- The received element of a store, its seq field `seq` (Table 4.3). -/
def rxElement (st : Store) (size seq : Nat) : Bytes :=
  let f := st.frame
  let len := dataLength f
  let trunc := decide (size < len)
  let hi := b2n trunc + 2 * b2n st.highPriority + 4 * b2n st.noMatch
  let stored := min ((len + 3) / 4 * 4) size
  leBytes 4 (idWord f) ++ leBytes 4 (fmtWord { f with dlc := if f.fmt = 2 then 0 else f.dlc } st.epoch hi) ++
    leBytes 4 f.af ++ leBytes 4 (len % 4096 + st.filter % 1024 * 65536) ++ leBytes 6 st.stamp ++ zeros 2 ++
    leBytes 2 seq ++ zeros 6 ++ padTo stored f.data

/-- CAN_STAT_RXFn_LOST and the interrupt bits of FIFO `f`. -/
def rxLost (f : Nat) : Fld := if f = 0 then Reg.CAN_STAT_RXF0_LOST.value else Reg.CAN_STAT_RXF1_LOST.value
def rxLostBit (f : Nat) : Fld := if f = 0 then Reg.CAN_INT_STATUS.rxf0_lost else Reg.CAN_INT_STATUS.rxf1_lost
def rxFullBit (f : Nat) : Fld := if f = 0 then Reg.CAN_INT_STATUS.rxf0_full else Reg.CAN_INT_STATUS.rxf1_full
def rxNewBit (f : Nat) : Fld := if f = 0 then Reg.CAN_INT_STATUS.rxf0_new else Reg.CAN_INT_STATUS.rxf1_new
def rxWmBit (f : Nat) : Fld := if f = 0 then Reg.CAN_INT_STATUS.rxf0_wm else Reg.CAN_INT_STATUS.rxf1_wm

/-- The seq half-word of an element at `a` with its wip bit set. -/
def setWip (s : State) (n a : Nat) : State := mmWrite s n (a + 0x18) (leBytes 2 (orBit (leNat (mmRead s n (a + 0x18) 2)) 8))

/-- A store begun (R110, R111): the full test of a FIFO, the overwrite's first half, a mailbox's wip; none where the frame
is discarded. -/
def beginStore (s : State) (n : Nat) (st : Store) : State × Option Store :=
  let p := partOf s n
  match st.target with
  | .fifo f =>
    let count := Tab.get p.rxCount f 0
    let lost := fun (s : State) => wr (wr (bump s (rxLost f) n) (rxLostBit f) 1 n) (rxFullBit f) 1 n
    let fill := rd s Reg.CAN_RXF_STATUS.fill n f
    if count = 0 then (lost s, none)
    else if fill < count then (s, some { st with begun := some (rd s Reg.CAN_RXF_STATUS.put n f) })
    else if rdB s Reg.CAN_RXF_CFG.overwrite n f then
      let get := rd s Reg.CAN_RXF_STATUS.get n f
      let s := wr s Reg.CAN_RXF_STATUS.get ((get + 1) % count) n f
      let s := wr s Reg.CAN_RXF_STATUS.fill (fill - 1) n f
      let s := wr s Reg.CAN_RXF_STATUS.full 0 n f
      (lost (setWip s n (p.rxAt f get)), some { st with begun := some get })
    else (lost s, none)
  | .mailbox m =>
    let a := p.mbAt m
    let s := setWip s n a
    if bitSet (rd s Reg.CAN_MB_ND.nd n) m then
      let s := mmWrite s n (a + 0x18) (leBytes 2 (orBit (leNat (mmRead s n (a + 0x18) 2)) 10))
      let s := setBitF s Reg.CAN_MB_OVW.ovw m n
      let s := bump s Reg.CAN_STAT_MB_OVW.value n
      (wr s Reg.CAN_INT_STATUS.mb_ovw 1 n, some { st with begun := some m })
    else (s, some { st with begun := some m })

/-- The stores of a channel up to the first that has begun: those before it that are discarded leave the list. -/
def beginStores : Nat → Nat → State → State
  | 0, _, s => s
  | fuel + 1, n, s =>
    match (canCh s n).stores with
    | [] => s
    | st :: rest =>
      if st.begun.isSome then s
      else
        match beginStore s n st with
        | (s, some st) => modCan s n (fun c => { c with stores := st :: rest })
        | (s, none) => beginStores fuel n (modCan s n (fun c => { c with stores := rest }))

/-- A truncated store counted (R103). -/
def countTrunc (s : State) (n : Nat) (st : Store) (size : Nat) : State :=
  if size < dataLength st.frame then bump s Reg.CAN_STAT_RX_TRUNC.value n else s

/-- The store in progress completed (R104, R109–R111). A FIFO element's uc is the number of elements stored before it, as in
Table 4.7 (DEDUCED, assumption 95). -/
def completeStore (s : State) (n : Nat) (st : Store) (k : Nat) : State :=
  let p := partOf s n
  match st.target with
  | .fifo f =>
    let size := dataSize (Tab.get p.rxSize f 7)
    let count := Tab.get p.rxCount f 0
    let stored := Tab.get (canCh s n).rxStored f 0
    let s := mmWrite s n (p.rxAt f k) (rxElement st size (stored % 256))
    let s := countTrunc s n st size
    let s := modCan s n (fun c => { c with rxStored := Tab.put c.rxStored f (stored + 1) })
    let fill := rd s Reg.CAN_RXF_STATUS.fill n f + 1
    let s := wr s Reg.CAN_RXF_STATUS.fill fill n f
    let s := wr s Reg.CAN_RXF_STATUS.put ((k + 1) % max 1 count) n f
    let s := wr s Reg.CAN_RXF_STATUS.full (b2n (fill == count)) n f
    let s := wr s (rxNewBit f) 1 n
    let s := if fill = count then wr s (rxFullBit f) 1 n else s
    if fill = rd s Reg.CAN_RXF_WM.wm n f then wr s (rxWmBit f) 1 n else s
  | .mailbox m =>
    let size := dataSize p.mbSize
    let a := p.mbAt m
    let uc := (leNat (mmRead s n (a + 0x18) 1) + 1) % 256
    let ovw := b2n (bitSet (rd s Reg.CAN_MB_OVW.ovw n) m)
    let s := mmWrite s n a (rxElement st size (uc + 512 + 1024 * ovw))
    let s := countTrunc s n st size
    let s := setBitF s Reg.CAN_MB_ND.nd m n
    wr s Reg.CAN_INT_STATUS.mb_new 1 n

/-- RX_STORE_COMPLETE: the store in progress completes and the next begins. -/
def storeDone (n : Nat) (s : State) : State :=
  match (canCh s n).stores with
  | [] => s
  | st :: rest =>
    match st.begun with
    | none => s
    | some k =>
      let s := completeStore s n st k
      beginStores rest.length n (modCan s n (fun c => { c with stores := rest }))

/-- A store added to the channel's, begun at once where none is in progress. -/
def addStore (s : State) (n : Nat) (st : Store) : State :=
  let s := modCan s n (fun c => { c with stores := c.stores ++ [st] })
  if (canCh s n).stores.length = 1 then beginStores 1 n s else s

/-- The ring of `count` elements released up to `index` where it lies within the fill and its uc agrees (R109). -/
def ringAck (fill get count index uc stored : Nat) : Option (Nat × Nat) :=
  let d := (index + count - get) % max 1 count
  if index < count ∧ d < fill ∧ stored = uc then some (fill - d - 1, (index + 1) % max 1 count) else none

/-- CAN_RXFn_ACK (R109). -/
def rxfAck (n f index uc : Nat) (s : State) : State :=
  let p := partOf s n
  let count := Tab.get p.rxCount f 0
  let seq := leNat (mmRead s n (p.rxAt f index + 0x18) 1)
  match ringAck (rd s Reg.CAN_RXF_STATUS.fill n f) (rd s Reg.CAN_RXF_STATUS.get n f) count index uc seq with
  | none => s
  | some (fill, get) =>
    let s := wr s Reg.CAN_RXF_STATUS.fill fill n f
    let s := wr s Reg.CAN_RXF_STATUS.get get n f
    wr s Reg.CAN_RXF_STATUS.full (b2n (fill == count)) n f

/-- CAN_TXEF_ACK (R116). -/
def txefAck (n index uc : Nat) (s : State) : State :=
  let p := partOf s n
  let seq := leNat (mmRead s n (4 * p.efStart + 16 * index + 0x0E) 1)
  match ringAck (rd s Reg.CAN_TXEF_STATUS.fill n) (rd s Reg.CAN_TXEF_STATUS.get n) p.efCount index uc seq with
  | none => s
  | some (fill, get) =>
    let s := wr s Reg.CAN_TXEF_STATUS.fill fill n
    let s := wr s Reg.CAN_TXEF_STATUS.get get n
    wr s Reg.CAN_TXEF_STATUS.full (b2n (fill == p.efCount)) n

/-- The bit of a mailbox's seq half-word cleared in its element. -/
def clearSeqBit (s : State) (n m b : Nat) : State :=
  let a := (partOf s n).mbAt m + 0x18
  if m < (partOf s n).mbCount then mmWrite s n a (leBytes 2 (clrBit (leNat (mmRead s n a 2)) b)) else s

/-- CAN_MB_ND written: nd cleared in the register and in the element that mirrors it (R111). -/
def mbNdClear (n bits : Nat) (s : State) : State :=
  eachBit (fun s m => clearSeqBit (clrBitF s Reg.CAN_MB_ND.nd m n) n m 9) bits s

/-- CAN_MB_OVW written. -/
def mbOvwClear (n bits : Nat) (s : State) : State :=
  eachBit (fun s m => clearSeqBit (clrBitF s Reg.CAN_MB_OVW.ovw m n) n m 10) bits s

/-! ### Transmit events (R116) -/

/-- The transmit event of a transmitted element; its uc as that of a FIFO element (DEDUCED, assumption 95). -/
def txEvent (s : State) (n : Nat) (p : Pend) (f : CanFrame) (marker sof : Nat) : State :=
  let pt := partOf s n
  let count := pt.efCount
  let fill := rd s Reg.CAN_TXEF_STATUS.fill n
  if count = 0 then s
  else if count ≤ fill then wr (bump s Reg.CAN_STAT_TXEF_LOST.value n) Reg.CAN_INT_STATUS.txef_lost 1 n
  else
    let put := rd s Reg.CAN_TXEF_STATUS.put n
    let stored := (canCh s n).efStored
    let buf := isBuffer s n p.idx
    let num := if buf then p.idx else p.idx - pt.txBuffers
    let fmt := f.dlc % 16 + f.fmt % 4 * 16 + b2n f.brs * 64 + b2n (!buf) * 128 + num % 256 * 256 + marker % 256 * 65536 +
      epochAt s sof * 16777216 + b2n p.gw.isSome * 268435456
    let e := leBytes 4 (idWord f) ++ leBytes 4 fmt ++ leBytes 6 (canStamp s n sof) ++ leBytes 1 stored ++ zeros 1
    let s := mmWrite s n (4 * pt.efStart + 16 * put) e
    let s := modCan s n (fun c => { c with efStored := stored + 1 })
    let s := wr s Reg.CAN_TXEF_STATUS.fill (fill + 1) n
    let s := wr s Reg.CAN_TXEF_STATUS.put ((put + 1) % count) n
    let s := wr s Reg.CAN_TXEF_STATUS.full (b2n (fill + 1 == count)) n
    let s := wr s Reg.CAN_INT_STATUS.txef_new 1 n
    if fill + 1 = rd s Reg.CAN_TXEF_WM.wm n then wr s Reg.CAN_INT_STATUS.txef_wm 1 n else s

/-! ### Frames accepted for the host (R104, R106) -/

/-- CAN event `code` of channel `n`, its interrupt bit `b` set with it. -/
def canEvent (s : State) (n code : Nat) (b : Fld) (data : Bytes) : State := raise (wr s b 1 n) 3 code n data

/-- A memory error of channel `n` met by the engine (0) or the host (1) (R117): a corrected one is counted in the life record,
an uncorrectable one also raises event 0x0019 with the word's offset. -/
def mmError (n reader : Nat) (s : State) (e : MmErr) : State :=
  if e.corrected then lifeCount s Life.ecc 2
  else
    canEvent (bump (lifeCount s Life.ecc 3) Reg.CAN_STAT_MM_UNC.value n) n 0x19 Reg.CAN_INT_STATUS.ecc
      (leBytes 2 e.offset ++ leBytes 1 reader)

/-- The errors among `es` that a read of `len` bytes at `a` meets. -/
def errorsAt (es : List MmErr) (a len : Nat) : List MmErr :=
  es.filter (fun e => decide (a ≤ e.offset) && decide (e.offset < a + len))

/-- The filter elements in which an uncorrectable error was met. -/
def badFilters (s : State) (n : Nat) (es : List MmErr) : List Nat :=
  ((es.filter (fun e => !e.corrected)).map (fun e => (e.offset - 4 * (partOf s n).fltStart) / 12)).eraseDups

/-- Host delivery of a received frame: the filter list and what its action does. -/
def hostDeliver (s : State) (n : Nat) (rx : CanRx) : State :=
  let f := rx.frame
  let met := errorsAt rx.filterErrors (4 * (partOf s n).fltStart) (12 * rd s Reg.CAN_FLT_COUNT.count n)
  let s := met.foldl (mmError n 0) s
  let store : Store := ⟨.fifo 0, f, canStamp s n rx.sof, epochAt s rx.sof, false, false, 0, none⟩
  let reject := bump s Reg.CAN_STAT_RX_REJ.value n
  let remote := f.rtr && f.fmt == 0
  let xtd := f.xtd && f.fmt != 2
  if remote && rdB s (if xtd then Reg.CAN_RXCFG.rrf_ext else Reg.CAN_RXCFG.rrf_base) n then reject
  else
    match fltEval s n f (badFilters s n met) with
    | none =>
      match rd s (if xtd then Reg.CAN_RXCFG.nm_ext else Reg.CAN_RXCFG.nm_base) n with
      | 0 => reject
      | k => addStore s n { store with target := .fifo (k - 1), noMatch := true }
    | some i =>
      let w2 := leAt (fltElem s n i) 8 4
      let store := { store with filter := i }
      match bitsOf w2 0 3 with
      | 0 => reject
      | 1 => addStore s n { store with target := .fifo 0 }
      | 2 => addStore s n { store with target := .fifo 1 }
      | 3 =>
        let m := bitsOf w2 6 6
        if m < (partOf s n).mbCount then addStore s n { store with target := .mailbox m }
        else bump s Reg.CAN_STAT_RX_MISROUTE.value n
      | k => addStore (wr s Reg.CAN_INT_STATUS.hp 1 n) n { store with target := .fifo (k - 4), highPriority := true }

end Sys2Proof.Machine
end

