-- ==== Sys2Proof/Machine/Signals.lean ====
section
/-! DEFINITION. Signal slots and the fields of a PDU (R122–R129), the gateway's tables entry by entry, the write check of
Tables 5.14, 6.8 and 7.7, slot acceptance and update records. -/

namespace Sys2Proof.Machine

/-- The gateway's state changed by `f`. -/
def modSg (s : State) (f : SgState → SgState) : State := { s with sg := f s.sg }

/-- SG event `code` (Tables 5.15, 6.7 and 7.8). -/
def sgEvent (s : State) (code inst : Nat) (data : Bytes) : State := raiseIn s Reg.SG_INT_STATUS.event 0 9 code inst data

/-- SG event `code`, limited per instance, `n` occurrences (R509). -/
def sgEventLimited (s : State) (code inst n : Nat) (data : Nat → Bytes) : State :=
  raiseInLimited s Reg.SG_INT_STATUS.event 0 9 code inst inst n data

/-- An entry found bad at use (R121). -/
def badEntry (s : State) (table index reason : Nat) : State :=
  sgEvent (bump s Reg.SG_STAT_BAD_ENTRY.value) 5 table (leBytes 4 index ++ leBytes 1 reason)

/-! ### Fields (R122) -/

/-- The position after `p` in a field of order `be`. -/
def nextPos (be : Bool) (p : Nat) : Nat := if be then (if p % 8 ≠ 0 then p - 1 else p + 15) else p + 1

/-- The positions a field of `len` bits visits from `p`. -/
def fieldPositions (be : Bool) : Nat → Nat → List Nat
  | _, 0 => []
  | p, len + 1 => p :: fieldPositions be (nextPos be p) len

/-- The bit at position `p`. -/
def pduBit (d : Bytes) (p : Nat) : Bool := bitSet (byteAt d (p / 8)) (p % 8)

/-- The bit at position `p` written; positions past the PDU are not. -/
def putPduBit (d : Bytes) (p : Nat) (b : Bool) : Bytes :=
  if p / 8 < d.length then setNth d (p / 8) (BitVec.ofNat 8 (setBits (byteAt d (p / 8)) (p % 8) 1 (b2n b))) else d

/-- The raw value of a field. -/
def getRaw (d : Bytes) (start len : Nat) (be : Bool) : Nat :=
  let ps := fieldPositions be start len
  let ps := if be then ps else ps.reverse
  ps.foldl (fun v p => 2 * v + b2n (pduBit d p)) 0

/-- A PDU with a raw value written into a field. -/
def putRaw (d : Bytes) (start len : Nat) (be : Bool) (v : Nat) : Bytes :=
  let ps := fieldPositions be start len
  let ps := if be then ps.reverse else ps
  (ps.foldl (fun (x : Bytes × Nat) p => (putPduBit x.1 p (x.2 % 2 == 1), x.2 / 2)) (d, v)).1

/-- The end position of a field: the last it visits. -/
def endPos (start len : Nat) (be : Bool) : Nat := (fieldPositions be start len).getLast?.getD start

/-- A field: its place, type and encoding (Table 5.2). -/
structure Field where
  start : Nat
  len : Nat
  typ : Nat
  be : Bool
  conv : Nat
  deriving DecidableEq, Repr

/-- The last byte a field touches. -/
def Field.lastByte (f : Field) : Nat := if f.typ = 3 then f.start / 8 + f.len - 1 else
  (fieldPositions f.be f.start f.len).foldl (fun m p => max m (p / 8)) 0

/-- Whether a field lies within `n` bytes: its end position and its last byte. -/
def Field.within (f : Field) (n : Nat) : Bool := decide (f.lastByte < n)

/-- Whether type and length agree (Table 5.2). -/
def Field.lengthOk (f : Field) : Bool :=
  match f.typ with
  | 2 => f.len == 32 || f.len == 64
  | 3 => decide (1 ≤ f.len) && decide (f.len ≤ 2048)
  | _ => decide (1 ≤ f.len) && decide (f.len ≤ 64)

/-- Whether order, conversion and a Bytes start agree with the type (Table 5.2). -/
def Field.formOk (f : Field) : Bool :=
  match f.typ with
  | 2 => f.conv == 0
  | 3 => !f.be && f.conv == 0 && f.start % 8 == 0
  | _ => true

/-! ### Conversions (R124, R125) -/

/-- Conversion entry `n`: add and mul; an entry with a reserved bit set is not valid, its mul 0 (R121). -/
def convOf (s : State) (n : Nat) : Int × Int :=
  let e := Tab.get s.sg.convs n (2 ^ 64)
  (signed 64 e, if bitsOf e 96 32 = 0 then signed 32 (e / 2 ^ 64) else 0)

/-- A raw value in slot units; tells whether it saturated. -/
def toUnits (r add mul : Int) : Int × Bool :=
  let x := r * mul + add
  let y := satSigned 64 x
  (y, decide (x ≠ y))

/-- The raw value nearest a slot value, ties away from zero, clamped to the field; tells whether it clamped (R125). -/
def toRaw (v add mul : Int) (len : Nat) (sgn : Bool) : Nat × Bool :=
  let x := v - add
  let q := x.tdiv mul
  let r := x.tmod mul
  let q := if mul.natAbs ≤ 2 * r.natAbs then (if decide (x < 0) != decide (mul < 0) then q - 1 else q + 1) else q
  let lo : Int := if sgn then -((2 ^ (len - 1) : Nat) : Int) else 0
  let hi : Int := if sgn then ((2 ^ (len - 1) : Nat) : Int) - 1 else ((2 ^ len : Nat) : Int) - 1
  let y := max lo (min hi q)
  (pattern len y, decide (q ≠ y))

/-! ### Slots (R126, Table 5.4) -/

/-- A slot never configured: kind INT, nothing written. -/
def Slot.blank : Slot := ⟨0, 0, 0, 0, 0, 0, false, false, false, false, false, false, 0, 0, 0, 0, 0, 0⟩

/-- Slot `n`. -/
def slotOf (s : State) (n : Nat) : Slot := Tab.get s.sg.slots n Slot.blank

/-- Slot `n` set. -/
def setSlot (s : State) (n : Nat) (x : Slot) : State := modSg s (fun g => { g with slots := Tab.set g.slots n Slot.blank x })

/-- First block, length and active half of a BYTES slot's value word. -/
def Slot.block (x : Slot) : Nat := bitsOf x.value 0 14
def Slot.bytesLen (x : Slot) : Nat := bitsOf x.value 14 12
def Slot.half (x : Slot) : Nat := bitsOf x.value 26 1

/-- Where half `h` of a BYTES slot lies in the byte-array area. -/
def Slot.halfAt (x : Slot) (h : Nat) : Nat := 64 * (x.block + h * ceilDiv x.bytesLen 64)

/-- The content of a BYTES slot. -/
def slotBytes (s : State) (x : Slot) : Bytes := Memory.readBytes s.ba (x.halfAt x.half) x.bytesLen

/-- The 32 bytes of a slot. -/
def slotImage (x : Slot) : Bytes :=
  let flags := b2n x.nd + 2 * b2n x.written + 4 * b2n x.wip + 8 * b2n x.remote + 16 * b2n x.ageUnknown +
    32 * b2n x.clamped + 64 * x.kind
  leBytes 8 x.value ++ leBytes 8 (pattern 64 x.origin) ++ leBytes 4 x.uOrigin ++ leBytes 2 x.fanFirst ++
    leBytes 2 x.fanCount ++ leBytes 1 x.uc ++ leBytes 1 flags ++ leBytes 1 x.device ++ leBytes 1 x.channel ++
    leBytes 2 (x.epoch % 16 + x.writer % 4 * 16) ++ leBytes 2 x.index

/-- The origin of a slot's content; its age is unknown while nothing has been written (R126). -/
def Slot.originOf (x : Slot) : Origin := ⟨x.origin, x.epoch, x.uOrigin, x.device, x.channel, x.remote, x.ageUnknown || !x.written⟩

/-- The value bytes of a slot: 4 for F32, 8 for INT and F64, the content for BYTES (Table 5.12). -/
def slotValueBytes (s : State) (x : Slot) : Bytes :=
  match x.kind with
  | 1 => leBytes 4 x.value
  | 3 => slotBytes s x
  | _ => leBytes 8 x.value

/-- Whether a slot's kind matches a field's type and length (Table 5.2). -/
def kindMatches (x : Slot) (f : Field) : Bool :=
  match f.typ with
  | 2 => x.kind == (if f.len = 32 then 1 else 2)
  | 3 => x.kind == 3 && x.bytesLen == f.len
  | _ => x.kind == 0

/-! ### Table entries -/

/-- The unpack entry `e` (Table 5.8): slot and field. -/
def unpackSlot (e : Nat) : Nat := bitsOf e 0 16
def unpackValid (e : Nat) : Bool := bitSet e 31
def unpackField (e : Nat) : Field := ⟨bitsOf e 16 14, bitsOf e 32 12, bitsOf e 44 2, bitSet e 30, bitsOf e 46 12⟩

/-- The signal route `e` (Table 5.10). -/
def Route.slot (e : Nat) : Nat := bitsOf e 0 16
def Route.template (e : Nat) : Nat := bitsOf e 16 14
def Route.device (e : Nat) : Nat := bitsOf e 16 6
def Route.kind (e : Nat) : Nat := bitsOf e 30 2
def Route.field (e : Nat) : Field := ⟨bitsOf e 32 14, bitsOf e 46 12, bitsOf e 58 2, bitSet e 60, bitsOf e 82 12⟩
def Route.valid (e : Nat) : Bool := bitSet e 63
def Route.budget (e : Nat) : Nat := bitsOf e 64 16
def Route.action (e : Nat) : Nat := bitsOf e 80 2
def Route.partner (e : Nat) : Nat := bitsOf e 96 16
def Route.param (e : Nat) : Nat := bitsOf e 112 13

/-- The PDU template `e` (Table 6.3). -/
def Tpl.id (e : Nat) : Nat := bitsOf e 0 29
def Tpl.xtd (e : Nat) : Bool := bitSet e 29
def Tpl.fmt (e : Nat) : Nat := bitsOf e 30 2
def Tpl.target (e : Nat) : Nat := bitsOf e 32 7
def Tpl.brs (e : Nat) : Bool := bitSet e 39
def Tpl.length (e : Nat) : Nat := bitsOf e 40 12
def Tpl.trigger (e : Nat) : Nat := bitsOf e 52 2
def Tpl.minInterval (e : Nat) : Nat := bitsOf e 54 9
def Tpl.valid (e : Nat) : Bool := bitSet e 63
def Tpl.first (e : Nat) : Nat := bitsOf e 64 16
def Tpl.count (e : Nat) : Nat := bitsOf e 80 10
def Tpl.ext (e : Nat) : Nat := bitsOf e 96 14
def Tpl.report (e : Nat) : Bool := bitSet e 110
def Tpl.period (e : Nat) : Nat := bitsOf e 112 16

/-- A template that has never been written: no extension (Table 6.3's reset). -/
def Tpl.blank : Nat := 0x3FFF * 2 ^ 96

/-- Template `n`. -/
def tplOf (s : State) (n : Nat) : Nat := Tab.get s.sg.templates n Tpl.blank

/-- Signal route `n`. -/
def routeEntry (s : State) (n : Nat) : Nat := Tab.get s.sg.routes n 0

/-- Stream `n` of table 11 (Tables 7.1 and 7.2). -/
def streamOf (s : State) (n : Nat) : Nat := Tab.get s.sg.streams n 0
def Strm.kind (e : Nat) : Nat := bitsOf e 0 2
def Strm.encap (e : Nat) : Nat := bitsOf e 2 2
def Strm.valid (e : Nat) : Bool := bitSet e 31
def Strm.id (e : Nat) : Nat := bitsOf e 64 64
def Strm.txClass (e : Nat) : Nat := bitsOf e 4 3
def Strm.txBase (e : Nat) : Nat := bitsOf e 23 6
def Strm.maxMsgs (e : Nat) : Nat := bitsOf e 32 7
def Strm.holdUs (e : Nat) : Nat := bitsOf e 39 11
def Strm.rxMode (e : Nat) : Nat := bitsOf e 4 1
def Strm.rxBase (e : Nat) : Nat := bitsOf e 5 6
def Strm.seqCheck (e : Nat) : Bool := bitSet e 11
def Strm.useTs (e : Nat) : Bool := bitSet e 12
def Strm.rxPdu (e : Nat) : Nat := bitsOf e 13 13
def Strm.budget (e : Nat) : Nat := bitsOf e 32 16
def Strm.assumed (e : Nat) : Nat := bitsOf e 48 16
def Strm.allow (e : Nat) : Nat := bitsOf e 128 32

/-- The 802.1 encapsulation limit of a bundle (R190). -/
def bundleLimit (encap : Nat) : Nat := [1500, 1472, 1452].getD encap 0

/-- The size of a bundle of `n` descriptors and `l` data bytes (R190). -/
def bundleSize (n l : Nat) : Nat := 32 + 20 * n + 4 * ceilDiv l 4

/-! ### Template extensions (Table 6.4) -/

/-- The 16-byte extension header of template entry `e`, zeros without an extension. -/
def extHeader (s : State) (e : Nat) : Nat := if Tpl.ext e = 0x3FFF then 0 else leNat (Memory.readBytes s.ba (64 * Tpl.ext e) 16)

/-- The initial content of template entry `e`. -/
def extInit (s : State) (e : Nat) : Bytes :=
  if Tpl.ext e = 0x3FFF then zeros (Tpl.length e) else Memory.readBytes s.ba (64 * Tpl.ext e + 16) (Tpl.length e)

/-- An age field of an extension header word: start, length, order, unit in ns, source. -/
structure AgeField where
  start : Nat
  len : Nat
  be : Bool
  unit : Nat
  source : Nat
  deriving DecidableEq, Repr

/-- The age field a header word describes. -/
def ageFieldOf (w : Nat) : AgeField :=
  ⟨bitsOf w 0 14, bitsOf w 14 5, bitSet w 19, [100000, 10000, 1000000, 10000000].getD (bitsOf w 20 2) 100000, bitsOf w 22 10⟩

/-- The age fields of a template that carries any: those of length 1 to 16. -/
def ageFields (s : State) (e : Nat) : List AgeField :=
  let h := extHeader s e
  [ageFieldOf (h % 2 ^ 32), ageFieldOf (h / 2 ^ 32 % 2 ^ 32)].filter (fun a => a.len != 0)

/-! ### The write checks (R143, R174, R196) -/

/-- Table 5.14 on an unpack entry. -/
def unpackReason (s : State) (e : Nat) : Nat :=
  let f := unpackField e
  if bitsOf e 58 6 ≠ 0 then 1
  else if !unpackValid e then 0
  else if !f.lengthOk then 2
  else if !f.formOk then 3
  else if !kindMatches (slotOf s (unpackSlot e)) f then 5
  else if (convOf s f.conv).2 = 0 then 8
  else 0

/-- What a stale parameter that a memory error has lost stands as: no 64-bit word, consistent with no action (R144). -/
def lostParam : Nat := 2 ^ 64

/-- Whether stale action and parameter agree (R154). -/
def staleParamOk (s : State) (e : Nat) : Bool :=
  let f := Route.field e
  let p := Tab.get s.sg.staleParams (Route.param e) 0
  if p = lostParam ∧ Route.action e ≠ 3 then false
  else
  match Route.action e with
  | 0 => bitsOf p 16 48 == 0 && (!bitSet p 15 || decide (bitsOf p 0 14 < 8 * Tpl.length (tplOf s (Route.template e))))
  | 1 => f.typ != 3 || bitsOf p 8 56 == 0
  | 2 => if f.typ = 3 then bitsOf p 8 56 == 0 else decide (p < 2 ^ f.len)
  | _ => Route.param e == 0

/-- Whether a kind-1 route `i` with entry `e` has a valid kind-1 partner that names it, `get` giving the entries (R138). -/
def partnerOk (get : Nat → Nat) (i e : Nat) : Bool :=
  let p := get (Route.partner e)
  Route.kind p == 1 && Route.valid p && Route.partner p == i && Route.slot p != Route.slot e

/-- Table 5.14 on route `i` with entry `e`, `get` giving the other routes. -/
def routeReason (s : State) (get : Nat → Nat) (i e : Nat) : Nat :=
  let f := Route.field e
  let k := Route.kind e
  let reserved := bitsOf e 61 2 != 0 || bitsOf e 94 2 != 0 || bitsOf e 125 3 != 0 || k == 3 ||
    (k == 2 && bitsOf e 22 8 != 0)
  let x := slotOf s (Route.slot e)
  let t := tplOf s (Route.template e)
  if reserved then 1
  else if !Route.valid e then 0
  else if !f.lengthOk then 2
  else if !f.formOk then 3
  else if k ≠ 2 && (!Tpl.valid t || !f.within (Tpl.length t)) then 4
  else if !kindMatches x f || (k == 2 && (f.typ == 0 || (f.typ == 1 && f.len != 64))) then 5
  else if k == 1 && !partnerOk get i e then 6
  else if k == 2 && (Route.device e == 0 || Route.device e == ownId s || f.start != 0 || f.be || f.conv != 0 ||
      Route.action e != 0 || Route.param e != 0 || Route.budget e != 0xFFFF) then 7
  else if (convOf s f.conv).2 = 0 then 8
  else if k ≠ 2 && !staleParamOk s e then 9
  else 0

/-- A destination of a list (Table 5.9). -/
def destAt (e k : Nat) : Nat := bitsOf e (32 + 16 * k) 16
def destDevice (d : Nat) : Nat := bitsOf d 0 6
def destTarget (d : Nat) : Nat := bitsOf d 6 7

/-- Destination list `n`; list 0 is empty. -/
def destList (s : State) (n : Nat) : Nat := if n = 0 then 0 else Tab.get s.sg.destLists n 0
def destBudget (e : Nat) : Nat := bitsOf e 0 16
def destCount (e : Nat) : Nat := bitsOf e 16 8

/-- Table 5.14 on destination list `i` with entry `e`. -/
def destReason (i e : Nat) : Nat :=
  if bitsOf e 24 8 ≠ 0 || (List.range 14).any (fun k => bitsOf (destAt e k) 13 3 != 0) then 1
  else if i = 0 || 14 < destCount e then 22
  else 0

/-- The CAN route entry's parts (Table 5.5). -/
def Canrt.key (e : Nat) : Nat := bitsOf e 0 32
def Canrt.channel (e : Nat) : Nat := bitsOf e 32 6
def Canrt.rxPdu (e : Nat) : Nat := bitsOf e 38 13
def Canrt.unpack (e : Nat) : Bool := bitSet e 51
def Canrt.list (e : Nat) : Nat := bitsOf e 52 11
def Canrt.valid (e : Nat) : Bool := bitSet e 63

/-- The two candidate buckets of a key word and channel (R131). -/
def canrtBuckets (key channel : Nat) : Nat × Nat :=
  let h := crc32c (leBytes 4 key ++ leBytes 1 channel)
  let b1 := bitsOf h 0 12
  let b2 := bitsOf h 12 12
  (b1, if b2 = b1 then b1 ^^^ 1 else b2)

/-- The CAN route entry at `i`. -/
def canrtAt (s : State) (i : Nat) : Nat := Tab.get s.sg.canRoutes i 0

/-- Whether entry `e` is valid for a key word and channel. -/
def canrtIs (key channel e : Nat) : Bool := Canrt.valid e && Canrt.key e == key && Canrt.channel e == channel

/-- The matching index of a key: the lower of those in its two buckets (R131). -/
def canrtFind (s : State) (key channel : Nat) : Option Nat :=
  let (b1, b2) := canrtBuckets key channel
  let lo := min b1 b2
  let hi := max b1 b2
  let at_ := fun (b : Nat) => firstFrom (fun i => canrtIs key channel (canrtAt s i)) (8 * b) 8
  (at_ lo).orElse (fun _ => at_ hi)

/-- A receive PDU entry's parts (Table 5.7). -/
def Rxp.first (e : Nat) : Nat := bitsOf e 0 14
def Rxp.count (e : Nat) : Nat := bitsOf e 14 10
def Rxp.mode (e : Nat) : Nat := bitsOf e 24 1
def Rxp.valid (e : Nat) : Bool := bitSet e 31
def Rxp.offset (e : Nat) : Nat := bitsOf e 32 12

/-- Receive PDU entry `n`. -/
def rxPduOf (s : State) (n : Nat) : Nat := Tab.get s.sg.rxPdus n 0

/-- Whether destination list `l` may be named by a CAN route of `channel` (R135, reason 10). -/
def listOk (s : State) (l channel : Nat) : Bool :=
  l == 0 ||
    (let e := destList s l
     decide (1 ≤ destCount e) && decide (destCount e ≤ 14) &&
       !(List.range (destCount e)).any (fun k =>
         (destDevice (destAt e k) == 0 || destDevice (destAt e k) == ownId s) && destTarget (destAt e k) == channel))

/-- Table 5.14 on a CAN route entry, its index apart. -/
def canrtReason (s : State) (e : Nat) : Nat :=
  let key := Canrt.key e
  if bitsOf key 30 2 = 3 then 1
  else if !Canrt.valid e then 0
  else if (Canrt.unpack e && !Rxp.valid (rxPduOf s (Canrt.rxPdu e))) || !listOk s (Canrt.list e) (Canrt.channel e) ||
      (!bitSet key 29 && decide (0x7FF < bitsOf key 0 29)) then 10
  else 0

/-- Table 5.14 on a CAN route entry placed at index `i`; `after` gives the entries once the command has placed them all, `used`
the indices that hold one. -/
def canrtReasonAt (s : State) (after : Nat → Nat) (used : List Nat) (i e : Nat) : Nat :=
  let (b1, b2) := canrtBuckets (Canrt.key e) (Canrt.channel e)
  match canrtReason s e with
  | 0 =>
    if !Canrt.valid e then 0
    else if (i / 8 ≠ b1 && i / 8 ≠ b2) ||
        used.any (fun j => j != i && canrtIs (Canrt.key e) (Canrt.channel e) (after j)) then 11
    else 0
  | r => r

/-- Table 5.14 on a receive PDU entry. -/
def rxPduReason (e : Nat) : Nat :=
  if bitsOf e 25 6 ≠ 0 || bitsOf e 44 20 ≠ 0 then 1
  else if Rxp.valid e && Rxp.mode e == 0 && decide (16384 < Rxp.first e + Rxp.count e) then 12
  else 0

/-- Table 5.14 on conversion `i`. -/
def convReason (i e : Nat) : Nat :=
  if bitsOf e 96 32 ≠ 0 then 1 else if i = 0 || bitsOf e 64 32 = 0 then 13 else 0

/-- Whether a length is an FD data length. -/
def isFdLength (l : Nat) : Bool := [0, 1, 2, 3, 4, 5, 6, 7, 8, 12, 16, 20, 24, 32, 48, 64].contains l

/-- Table 6.8 and reason 21 of Table 7.7 on template `i` with entry `e`. -/
def tplReason (s : State) (i e : Nat) : Nat :=
  let l := Tpl.length e
  let target := Tpl.target e
  let st := streamOf s (target - 64)
  let bundle := Strm.kind st == 2
  if bitSet e 111 || bitsOf e 90 6 ≠ 0 || Tpl.fmt e = 3 then 1
  else if !Tpl.valid e then 0
  else if l = 0 || [8, 64, 2048].getD (Tpl.fmt e) 0 < l || (Tpl.fmt e == 1 && !isFdLength l) then 14
  else if (Tpl.brs e && Tpl.fmt e == 0) || (Tpl.fmt e == 2 && decide (target < 32)) ||
      ((!Tpl.xtd e || Tpl.fmt e == 2) && decide (0x7FF < Tpl.id e)) then 15
  else if ((Tpl.trigger e == 0 || Tpl.trigger e == 3) && Tpl.period e == 0) || 65536 < Tpl.first e + Tpl.count e then 16
  else if Tpl.ext e ≠ Tpl.ext (tplOf s i) then 17
  else if 64 ≤ target && (!Strm.valid st || (!bundle && Tpl.fmt e == 2) ||
      (bundle && (Tpl.fmt e != 2 || Tpl.id e != 0 || Tpl.brs e ||
        decide (bundleLimit (Strm.encap st) < bundleSize (Tpl.count e) l)))) then 21
  else 0

/-- The id a stream entry is matched by: a bundle's 32 bits, or the 64 of a stream_id (Table 7.1). -/
def Strm.key (e : Nat) : Nat := if Strm.kind e = 2 then Strm.id e % 2 ^ 32 else Strm.id e

/-- Tables 5.14 and 7.7 on stream `i` with entry `e`, the other streams apart. -/
def streamForm (s : State) (i e : Nat) : Nat :=
  let k := Strm.kind e
  let reserved := if i < 64 then bitsOf e 29 2 != 0 || (k == 2 && bitsOf e 96 32 != 0) else bitsOf e 26 5 != 0 || e / 2 ^ 160 != 0
  let rx := rxPduOf s (Strm.rxPdu e)
  if reserved || k == 3 then 1
  else if !Strm.valid e then 0
  else if i < 64 then
    if Strm.encap e = 3 || Strm.maxMsgs e = 0 || 64 < Strm.maxMsgs e || 1000 < Strm.holdUs e ||
        (bitSet e 10 && (bitsOf e 11 12 == 0 || bitsOf e 11 12 == 0xFFF)) || bitSet e 176 then 19
    else 0
  else if Strm.encap e = 3 || (k == 2 && (!Rxp.valid rx || Rxp.mode rx == 0 || Strm.rxMode e == 1 || Strm.useTs e)) then 20
  else 0

/-- The same, and the test for a receive stream's id taken at another index; `get` gives the streams after the command. -/
def streamReason (s : State) (get : Nat → Nat) (i e : Nat) : Nat :=
  let same := fun (j : Nat) => Strm.valid (get j) && Strm.kind (get j) == Strm.kind e && Strm.key (get j) == Strm.key e
  match streamForm s i e with
  | 0 => if decide (64 ≤ i) && Strm.valid e && (List.range 64).any (fun j => 64 + j != i && same (64 + j)) then 20 else 0
  | r => r

/-- Whether stream `i` can be used: valid, and left so by no DMA that the write check would have refused (R121, R180). -/
def streamUsable (s : State) (i : Nat) : Bool := Strm.valid (streamOf s i) && streamForm s i (streamOf s i) == 0

/-! ### Offering an update (R128) -/

/-- An update offered to a slot: the value (the content for BYTES), its origin, whether it saturated, who writes it. -/
structure Update where
  slot : Nat
  value : Nat
  content : Bytes
  origin : Origin
  clamped : Bool
  writer : Nat
  index : Nat
  deriving DecidableEq, Repr

/-- What became of an offer: discarded, or accepted, and then whether it is a change (R163). -/
inductive Offered where
  | older
  | accepted (change : Bool)
  deriving DecidableEq, Repr

/-- An update offered to its slot. -/
def offerUpdate (s : State) (u : Update) : State × Offered :=
  let x := slotOf s u.slot
  let old := x.origin + stepSum s x.epoch
  let new := u.origin.dt + stepSum s u.origin.epoch
  if !x.written || x.ageUnknown || decide (old < new) then
    let before := if x.kind = 3 then slotBytes s x else []
    let y : Slot := { x with
      origin := u.origin.dt
      uOrigin := u.origin.u
      uc := (x.uc + 1) % 256
      nd := true
      written := true
      wip := false
      remote := u.origin.remote
      ageUnknown := u.origin.unknown
      clamped := u.clamped
      device := u.origin.device
      channel := u.origin.channel
      epoch := u.origin.epoch % 16
      writer := u.writer
      index := u.index }
    let (s, y) := if x.kind = 3 then
        let h := 1 - x.half
        ({ s with ba := Memory.writeBytes s.ba (x.halfAt h) (padTo x.bytesLen u.content) },
          { y with value := setBits x.value 26 1 h })
      else (s, { y with value := u.value })
    let differs := if x.kind = 3 then before != padTo x.bytesLen u.content else x.value != u.value
    let change := !x.written || differs || x.ageUnknown != u.origin.unknown
    (setSlot s u.slot y, .accepted change)
  else (bump s Reg.SG_STAT_OLDER.value, .older)

/-! ### Records for other devices (R139, R140) -/

/-- The fan-out of a slot: its route indices in order (R142). -/
def fanOutOf (s : State) (x : Slot) : List Nat :=
  (List.range x.fanCount).map (fun k => Tab.get s.sg.fanOut ((x.fanFirst + k) % 65536) 0)

/-- A record dropped: SG_STAT_RMT_DROP and event 0x0003 (R140). -/
def recordDropped (s : State) (device why : Nat) : State :=
  sgEventLimited (bump s Reg.SG_STAT_RMT_DROP.value) 3 device 1 (fun n => leBytes 4 n ++ leBytes 1 why)

/-- A record queued for a device, in place where its slot has one queued already. -/
def queueRecord (s : State) (device : Nat) (r : SigRec) : State :=
  let q := Tab.get s.sg.records device []
  let same := fun (x : SigRec) => x.fromSlot == r.fromSlot && x.toSlot == r.toSlot
  if !rdB s Reg.SG_CTRL.remote_en then recordDropped s device 2
  else if !reachable s device then recordDropped s device 1
  else if q.any same then
    modSg s (fun g => { g with records := Tab.put g.records device (q.map (fun x => if same x then r else x)) })
  else if q.length < 64 then modSg s (fun g => { g with records := Tab.put g.records device (q ++ [r]) })
  else recordDropped s device 0

/-- The kind-2 routes an accepted update triggers through its slot's fan-out (R139). -/
def queueRecords (s : State) (n : Nat) : State :=
  let x := slotOf s n
  (fanOutOf s x).foldl (fun s i =>
    let e := routeEntry s i
    if Route.valid e && Route.kind e == 2 && Route.slot e == n then
      match routeReason s (routeEntry s) i e with
      | 0 => queueRecord s (Route.device e) ⟨n, Route.partner e, x, slotValueBytes s x⟩
      | r => badEntry s 1 i r
    else s) s

/-- The bytes of a signal update record (Table 5.12). -/
def recordBytes (s : State) (r : SigRec) : Bytes :=
  let x := r.slot
  let u := if x.ageUnknown then 0xFFFFFFFF else x.uOrigin
  let v := r.value ++ zeros ((4 - r.value.length % 4) % 4)
  leBytes 2 r.toSlot ++ leBytes 1 x.kind ++ leBytes 1 x.epoch ++ leBytes 8 (pattern 64 x.origin) ++ leBytes 4 u ++
    leBytes 8 (pattern 64 (stepSum s x.epoch)) ++ leBytes 1 x.device ++ leBytes 1 x.channel ++ leBytes 2 r.value.length ++
    zeros 4 ++ v

/-- SIGNAL_RECORD_SEND: the record at the head of a device's queue leaves (R140, R366). PRESUMED class: that of the RRA
traffic (assumption 30). -/
def sendRecord (device : Nat) (s : State) : State :=
  match Tab.get s.sg.records device [] with
  | [] => s
  | r :: rest =>
    let s := modSg s (fun g => { g with records := Tab.put g.records device rest })
    let f := fabHeader s 5 (rd s Reg.TF_CTRL.rra_class) device (recordBytes s r)
    match fabSend s { f with dual := rdB s Reg.TF_CTRL.dual_sig } with
    | (s, .ok) => bump s Reg.SG_STAT_RMT_TX.value
    | (s, _) => recordDropped s device 1

/-- Every queued record dropped: SG_CTRL.remote_en is 0 (R140). -/
def dropRecords (s : State) : State :=
  s.sg.records.foldl (fun s x =>
    x.2.foldl (fun s _ => recordDropped s x.1 2) (modSg s (fun g => { g with records := Tab.put g.records x.1 [] }))) s

/-- The size of an entry of tables 0–11 in bytes, and how many a table holds (Tables 5.1 and 7.1). -/
def SgTables.size (t : Nat) : Nat := [32, 16, 8, 8, 8, 32, 16, 2, 16, 8, 64, 64].getD t 0
def SgTables.count (t : Nat) : Nat := [65536, 65536, 32768, 8192, 16384, 2048, 4096, 65536, 16384, 8192, 16384, 128].getD t 0

/-- Whether SG_TABLE_WRITE accepts a table: 1–9 and 11 (R146, R177). -/
def SgTables.written (t : Nat) : Bool := (decide (1 ≤ t) && decide (t ≤ 9)) || t == 11

/-- Entry `i` of table `t` (Table 5.1): the slots and byte-array blocks included. -/
def tableGet (s : State) (t i : Nat) : Nat :=
  match t with
  | 0 => leNat (slotImage (slotOf s i))
  | 10 => leNat (Memory.readBytes s.ba (64 * i) 64)
  | 1 => routeEntry s i
  | 2 => canrtAt s i
  | 3 => rxPduOf s i
  | 4 => Tab.get s.sg.unpacks i 0
  | 5 => destList s i
  | 6 => if i = 0 then 2 ^ 64 else Tab.get s.sg.convs i (2 ^ 64)
  | 7 => Tab.get s.sg.fanOut i 0
  | 8 => tplOf s i
  | 9 => Tab.get s.sg.staleParams i 0
  | _ => streamOf s i

/-- Entry `i` of table `t` stored, the entry alone. -/
def tablePut (s : State) (t i e : Nat) : State :=
  modSg s (fun g =>
    match t with
    | 1 => { g with routes := Tab.set g.routes i 0 e }
    | 2 => { g with canRoutes := Tab.set g.canRoutes i 0 e }
    | 3 => { g with rxPdus := Tab.set g.rxPdus i 0 e }
    | 4 => { g with unpacks := Tab.set g.unpacks i 0 e }
    | 5 => if i = 0 then g else { g with destLists := Tab.set g.destLists i 0 e }
    | 6 => if i = 0 then g else { g with convs := Tab.set g.convs i (2 ^ 64) e }
    | 7 => { g with fanOut := Tab.set g.fanOut i 0 e }
    | 8 => { g with templates := Tab.set g.templates i Tpl.blank e }
    | 9 => { g with staleParams := Tab.set g.staleParams i 0 e }
    | 11 => { g with streams := Tab.set g.streams i 0 e }
    | _ => g)

end Sys2Proof.Machine
end

