-- ==== Sys2Proof/Machine/Build.lean ====
section
/-! DEFINITION. Builds of PDU templates (R148–R161, R172): stale actions, age fields, the record of an element, the stale map,
the generation of check channels (R297–R304) and of secured PDUs (R336), and the reading of received fields. -/

namespace Sys2Proof.Machine

/-! ### The stale map and suppressions (R172, R173) -/

/-- Whether template `n`'s stale-map bit is set. -/
def isStaleMapped (s : State) (n : Nat) : Bool := bitSet (rd s Reg.SG_STALE_MAP.stale (n / 32)) (n % 32)

/-- What runs for a template that has not run. -/
def TplRun.blank : TplRun := ⟨none, 0, none, [], none, 0, 0⟩

/-- The run-time record of template `n`. -/
def tplRun (s : State) (n : Nat) : TplRun := Tab.get s.sg.tplRun n TplRun.blank

/-- The run-time record of template `n` changed. -/
def modRun (s : State) (n : Nat) (f : TplRun → TplRun) : State :=
  modSg s (fun g => { g with tplRun := Tab.put g.tplRun n (f (tplRun s n)) })

/-- Template `n`'s stale-map bit set, with event 0x0008 where it was clear: the first stale route, its age, budget and
action. -/
def setStaleMap (s : State) (n route : Nat) (age : Option Nat) (budget action : Nat) : State :=
  if isStaleMapped s n then s
  else
    let s := setBitF s Reg.SG_STALE_MAP.stale (n % 32) (n / 32)
    let s := modRun s n (fun r => { r with staleSince := s.now })
    if Tpl.report (tplOf s n) then
      sgEvent s 8 n (leBytes 2 route ++ leBytes 2 (pips age) ++ leBytes 2 budget ++ leBytes 1 action)
    else s

/-- Template `n`'s stale-map bit cleared, with event 0x0009 where it was set. -/
def clearStaleMap (s : State) (n : Nat) : State :=
  if isStaleMapped s n then
    let since := (tplRun s n).staleSince
    let s := clrBitF s Reg.SG_STALE_MAP.stale (n % 32) (n / 32)
    if Tpl.report (tplOf s n) then sgEvent s 9 n (leBytes 4 (min ((s.now - since) / ms) 0xFFFFFFFF)) else s
  else s

/-- A suppression of template `n` at instant kind `at_` (0 build, 1 selection point, 2 rebuild) by `route` (R153, R172). The
stale map's event names the first of `recs`, the routes checked for instant `when_`, that is stale (R173). -/
def suppressed (s : State) (n route : Nat) (age : Option Nat) (budget at_ target when_ : Nat) (recs : List RouteRec) : State :=
  let s := bump s Reg.SG_STAT_SUPPR.value
  let s := wr s Reg.SG_LAST_SUPPR.template n
  let s := wr s Reg.SG_LAST_SUPPR.where_ at_
  let s := wr s Reg.SG_LAST_SUPPR.route route
  let s := wr s Reg.SG_LAST_SUPPR_AGE.age (pips age)
  let s := wr s Reg.SG_LAST_SUPPR_AGE.budget budget
  let s := match recs.find? (fun r => r.stale || isStale r.budget (ageAt s r.origin when_)) with
    | some r => setStaleMap s n r.route (ageAt s r.origin when_) r.budget r.action
    | none => setStaleMap s n route age budget 3
  if Tpl.report (tplOf s n) then
    sgEventLimited s 7 n 1 (fun k =>
      leBytes 2 route ++ leBytes 2 (pips age) ++ leBytes 2 budget ++ leBytes 1 at_ ++ leBytes 1 target ++ leBytes 4 k)
  else s

/-! ### The build (R156, R159) -/

/-- What a build has so far: the PDU, the record of its routes, and the suppression that ended it (route, age, budget). -/
structure BuildAcc where
  st : State
  data : Bytes
  recs : List RouteRec
  stop : Option (Nat × Option Nat × Nat)

/-- A clamp counted. -/
def countClamp (s : State) (clamped : Bool) : State := if clamped then bump s Reg.SG_STAT_CLAMP.value else s

/-- A slot's current value written into a field (R125, Table 5.2). -/
def writeSlotField (s : State) (d : Bytes) (x : Slot) (f : Field) : State × Bytes :=
  match f.typ with
  | 2 => (s, putRaw d f.start f.len f.be x.value)
  | 3 => (s, putBytes d (f.start / 8) (slotBytes s x))
  | t =>
    let (add, mul) := convOf s f.conv
    let (r, c) := toRaw (signed 64 x.value) add mul f.len (t == 1)
    (countClamp s c, putRaw d f.start f.len f.be r)

/-- The stale parameter of an action 1 or 2 written into a field (R152). -/
def writeStaleField (s : State) (d : Bytes) (f : Field) (action param : Nat) : State × Bytes :=
  if f.typ = 3 then (s, putBytes d (f.start / 8) (List.replicate f.len (BitVec.ofNat 8 param)))
  else if action = 2 || f.typ == 2 then (s, putRaw d f.start f.len f.be param)
  else
    let (add, mul) := convOf s f.conv
    let (r, c) := toRaw (signed 64 param) add mul f.len (f.typ == 1)
    (countClamp s c, putRaw d f.start f.len f.be r)

/-- One route of a build whose check instant is `at_` (R137, R152, R156): route `i` of template `n`. -/
def buildRoute (n at_ : Nat) (a : BuildAcc) (i : Nat) : BuildAcc :=
  let s := a.st
  let e := routeEntry s i
  if a.stop.isSome || !Route.valid e || Route.kind e == 2 || Route.template e != n then a
  else
    match routeReason s (routeEntry s) i e with
    | 0 =>
      let x := slotOf s (Route.slot e)
      let f := Route.field e
      let o := x.originOf
      let age := ageAt s o at_
      let stale := isStale (Route.budget e) age
      let act := Route.action e
      let param := Tab.get s.sg.staleParams (Route.param e) 0
      if stale && act == 3 then { a with stop := some (i, age, Route.budget e) }
      else
        let (s, d) :=
          if stale && act != 0 then writeStaleField s a.data f act param
          else if x.written then writeSlotField s a.data x f
          else (s, a.data)
        let d := if act = 0 && bitSet param 15 then putPduBit d (bitsOf param 0 14) (bitSet param 14 == stale) else d
        let s := if stale then bump s Reg.SG_STAT_STALE_APPLY.value else s
        ⟨s, d, a.recs ++ [⟨i, Route.budget e, act, stale, o⟩], none⟩
    | r => { a with st := badEntry s 1 i r }

/-- The larger of two ages, an unknown one the largest. -/
def maxAge (a b : Option Nat) : Option Nat :=
  match a, b with
  | some x, some y => some (max x y)
  | _, _ => none

/-- The value an age field carries for the recorded routes at instant `at_`: the recorded origins' ages (R160). -/
def ageValue (s : State) (a : AgeField) (first : Nat) (recs : List RouteRec) (at_ : Nat) : Nat :=
  let ages :=
    if a.source = 0x3FF then recs.map (fun r => ageAt s r.origin at_)
    else (recs.filter (fun r => r.route == first + a.source)).map (fun r => ageAt s r.origin at_)
  let full := 2 ^ a.len - 1
  match ages with
  | [] => full
  | x :: xs =>
    match xs.foldl maxAge x with
    | none => full
    | some ns => min (ns / a.unit) full

/-- The age fields of template entry `e` written for instant `at_`; those written all ones are counted (R160). -/
def writeAges (s : State) (e : Nat) (d : Bytes) (recs : List RouteRec) (at_ : Nat) : State × Bytes :=
  (ageFields s e).foldl (fun (x : State × Bytes) a =>
    let v := ageValue s a (Tpl.first e) recs at_
    let st := if v = 2 ^ a.len - 1 then bump x.1 Reg.SG_STAT_AGE_SAT.value else x.1
    (st, putRaw x.2 a.start a.len a.be v)) (s, d)

/-- Whether a template's target is a bundle stream. -/
def isBundleTarget (s : State) (e : Nat) : Bool := decide (64 ≤ Tpl.target e) && Strm.kind (streamOf s (Tpl.target e - 64)) == 2

/-- The content of template `n` built with its checks made for instant `at_`: the PDU and its record, or the suppressing
route (R159). -/
def buildContent (s : State) (n at_ : Nat) : BuildAcc :=
  let e := tplOf s n
  let run := (List.range (Tpl.count e)).map (fun k => Tpl.first e + k)
  let a := run.foldl (buildRoute n at_) ⟨s, extInit s e, [], none⟩
  if a.stop.isSome || isBundleTarget s e then a
  else
    let (s, d) := writeAges a.st e a.data a.recs at_
    { a with st := s, data := d }

/-- The stale map after a build or rebuild that recorded `recs` (R172). -/
def noteStale (s : State) (n at_ : Nat) (recs : List RouteRec) : State :=
  match recs.find? (fun r => r.stale) with
  | some r => setStaleMap s n r.route (ageAt s r.origin at_) r.budget r.action
  | none => clearStaleMap s n

/-- The code of an FD length. -/
def fdCode (l : Nat) : Nat := if l < 9 then l else (firstFrom (fun c => fdLength c == l) 9 7).getD 15

/-- The frame of a built template (R158). -/
def builtFrame (s : State) (e : Nat) (d : Bytes) : CanFrame :=
  let h := extHeader s e
  let xl := Tpl.fmt e == 2
  { fmt := Tpl.fmt e
    id := Tpl.id e
    xtd := Tpl.xtd e
    rtr := false
    brs := Tpl.brs e
    esi := false
    dlc := if Tpl.fmt e = 0 then Tpl.length e else if xl then Tpl.length e - 1 else fdCode (Tpl.length e)
    sec := false
    sdt := if xl then bitsOf h 80 8 else 0
    vcid := if xl then bitsOf h 88 8 else 0
    af := if xl then bitsOf h 96 32 else 0
    data := d }

/-- The oldest origin among an element's routes, in the current epoch (R113); none for no route. -/
def oldestOrigin (s : State) (recs : List RouteRec) : Option Origin :=
  (recs.map (fun r => r.origin)).foldl
    (fun best o =>
      match best with
      | none => some o
      | some b => if o.dt + stepSum s o.epoch < b.dt + stepSum s b.epoch then some o else some b) none

/-! ### Generation of check channels (R298–R304) -/

/-- A check channel entry's parts (Table 12.2). -/
def Ck.target (e : Nat) : Nat := bitsOf e 0 14
def Ck.dir (e : Nat) : Nat := bitsOf e 14 1
def Ck.alg (e : Nat) : Nat := bitsOf e 15 3
def Ck.ctrBits (e : Nat) : Nat := [0, 4, 8, 16].getD (bitsOf e 18 2) 0
def Ck.crcOrder (e : Nat) : Nat := bitsOf e 20 1
def Ck.idMode (e : Nat) : Nat := bitsOf e 21 2
def Ck.failInval (e : Nat) : Bool := bitSet e 23
def Ck.failBlock (e : Nat) : Bool := bitSet e 24
def Ck.valid (e : Nat) : Bool := bitSet e 31
def Ck.crcByte (e : Nat) : Nat := bitsOf e 32 12
def Ck.ctrStart (e : Nat) : Nat := bitsOf e 44 14
def Ck.ctrOrder (e : Nat) : Bool := bitSet e 58
def Ck.covFirst (e : Nat) : Nat := bitsOf e 64 12
def Ck.covLen (e : Nat) : Nat := bitsOf e 76 12
def Ck.dataId (e : Nat) : Nat := bitsOf e 96 16
def Ck.deltaMax (e : Nat) : Nat := bitsOf e 112 16

/-- Check channel entry `n`. -/
def ckOf (s : State) (n : Nat) : Nat := Tab.get s.sg.checks n 0

/-- The width of an algorithm's check value (Table 12.1). -/
def ckWidth (alg : Nat) : Nat := [8, 8, 16, 32, 32, 32, 64, 0].getD alg 0

/-- The check value of an algorithm over bytes (Table 12.1; a reflected polynomial is given mirrored). -/
def ckValue (alg : Nat) (bs : Bytes) : Nat :=
  match alg with
  | 0 => crcRunN 8 0x1D bs 0xFF ^^^ 0xFF
  | 1 => crcRunN 8 0x2F bs 0xFF ^^^ 0xFF
  | 2 => crcRunN 16 0x1021 bs 0xFFFF
  | 3 => crcRunR (mirrorBits 32 0x04C11DB7) bs 0xFFFFFFFF ^^^ 0xFFFFFFFF
  | 4 => crcRunR (mirrorBits 32 0xF4ACFB13) bs 0xFFFFFFFF ^^^ 0xFFFFFFFF
  | 5 => crc32c bs
  | 6 => crcRunR (mirrorBits 64 0x42F0E1EBA9EA3693) bs (2 ^ 64 - 1) ^^^ (2 ^ 64 - 1)
  | _ => 0

/-- The bytes an entry's algorithm processes: the data ID, then the coverage without the check field (R299). -/
def ckInput (e : Nat) (d : Bytes) : Bytes :=
  let id := Ck.dataId e
  let ids : Bytes := match Ck.idMode e with
    | 1 => leBytes 2 id
    | 2 => leBytes 1 id
    | 3 => beBytes 2 id
    | _ => []
  let w := ckWidth (Ck.alg e) / 8
  let offs := (List.range (Ck.covLen e)).map (fun k => Ck.covFirst e + k)
  ids ++ (offs.filter (fun o => !(decide (Ck.crcByte e ≤ o) && decide (o < Ck.crcByte e + w)))).map (fun o => d.getD o 0#8)

/-- The check field of a PDU as a number. -/
def ckField (e : Nat) (d : Bytes) : Nat :=
  let w := ckWidth (Ck.alg e) / 8
  if Ck.crcOrder e = 0 then leAt d (Ck.crcByte e) w else beAt d (Ck.crcByte e) w

/-- The first byte past every field and covered byte of an entry. -/
def ckReach (e : Nat) : Nat :=
  let w := ckWidth (Ck.alg e) / 8
  let ctr := (fieldPositions (Ck.ctrOrder e) (Ck.ctrStart e) (Ck.ctrBits e)).foldl (fun m p => max m (p / 8 + 1)) 0
  max (max (if w = 0 then 0 else Ck.crcByte e + w) (Ck.covFirst e + Ck.covLen e)) ctr

/-- The valid check channel of direction `dir` that names `target`, while checks are enabled. -/
def ckFor (s : State) (dir target : Nat) : Option Nat :=
  if rdB s Reg.CK_CTRL.en then
    (s.sg.checks.find? (fun x => Ck.valid x.2 && Ck.dir x.2 == dir && Ck.target x.2 == target)).map (fun x => x.1)
  else none

/-- CK event `code`, limited per instance. -/
def ckEventLimited (s : State) (code inst : Nat) (data : Nat → Bytes) : State :=
  raiseInLimited s Reg.CK_INT_STATUS.event 0 10 code inst inst 1 data

/-- What an offer makes of content (R160, R302, R336). -/
inductive Offering where
  | ok (data : Bytes) (ck : Option (Nat × Nat)) (sec : Option (Nat × Nat))
  /-- removed as under suppress: a check channel not applicable (R304), a freshness value used up (R336) -/
  | bad
  /-- not authenticated: handled as a late rebuild (R315, R322) -/
  | late
  deriving DecidableEq, Repr

/-- The counter and check value of an attached check channel written into content (R302, R304). -/
def generate (s : State) (tpl : Nat) (d : Bytes) : State × Option (Bytes × Option (Nat × Nat)) :=
  match ckFor s 1 tpl with
  | none => (s, some (d, none))
  | some n =>
    let e := ckOf s n
    if d.length < ckReach e then
      (ckEventLimited (bump s Reg.CK_CH_BAD.value n) 5 n (fun _ => leBytes 2 tpl ++ leBytes 2 d.length), none)
    else
      let v := (rd s Reg.CK_CH_LAST.last n + 1) % 2 ^ Ck.ctrBits e
      let d := putRaw d (Ck.ctrStart e) (Ck.ctrBits e) (Ck.ctrOrder e) v
      let w := ckWidth (Ck.alg e) / 8
      let c := ckValue (Ck.alg e) (ckInput e d)
      let d := putBytes d (Ck.crcByte e) (if Ck.crcOrder e = 0 then leBytes w c else beBytes w c)
      (bump s Reg.CK_CH_GEN.value n, some (d, if Ck.ctrBits e = 0 then none else some (n, v)))

/-- Whether the cipher engine authenticates CAN PDUs under key slot `slot` (R320, R343). -/
def canAuthOn (s : State) (slot : Nat) : Bool := rdB s Reg.CX_CTRL.en && keyCheck s slot 3 == stOk

/-- Everything an offer of template `tpl`'s content rewrites, ages for instant `at_` (R160, R302, R336); nothing authentic comes
of it where the key or the engine refuses it, or its queue is full (R315, R320, assumption 105). -/
def offerContent (s : State) (tpl at_ : Nat) (recs : List RouteRec) (ages : Bool) (d : Bytes) : State × Offering :=
  let (s, d) := if ages then writeAges s (tplOf s tpl) d recs at_ else (s, d)
  match generate s tpl d with
  | (s, none) => (s, .bad)
  | (s, some (d, ck)) =>
    match secEntryFor s 1 tpl with
    | none => (s, .ok d ck none)
    | some n =>
      let e := secPdu s n
      if e.fv = 2 ^ 64 - 1 then (raiseIn s Reg.CX_INT_STATUS.event 0 11 6 n [], .bad)
      else if !canAuthOn s e.slot then (s, .late)
      else if queueFullNow s 0 then (queueFull s 0, .late)
      else (s, .ok (secWrite s e d (e.fv + 1)) ck (some (n, e.fv + 1)))

/-- The content of an element has left: its counter and freshness value take what was offered (R303, R336). -/
def contentLeft (s : State) (ck sec : Option (Nat × Nat)) : State :=
  let s := match ck with
    | none => s
    | some (n, v) => wr s Reg.CK_CH_LAST.last v n
  match sec with
  | none => s
  | some (n, v) => secLeave s n v

/-- The rated bound of an offer's work in ns: the age rewrite, the generation, the authentication; grown while derated
(R160). -/
def offerWork (s : State) (tpl : Nat) : Nat :=
  let gen := match ckFor s 1 tpl with
    | none => 0
    | some n => ceilDiv (Ck.covLen (ckOf s n)) 4
  let auth := match secEntryFor s 1 tpl with
    | none => 0
    | some n => 400 + 30 * ceilDiv ((secPdu s n).authLen + 10) 16
  let total := 200 + gen + auth
  if rdB s Reg.MP_STATUS.derated then ceilDiv (total * rd s Reg.MP_DERATE.d) 4096 else total

/-! ### The check of an element (R86, R149, R151) -/

/-- The first recorded route that suppresses, and whether any recorded-fresh route is stale at instant `at_`. -/
def recordCheck (s : State) (recs : List RouteRec) (at_ : Nat) : Option RouteRec × Bool :=
  let stale := recs.filter (fun r => !r.stale && isStale r.budget (ageAt s r.origin at_))
  (stale.find? (fun r => r.action == 3), !stale.isEmpty)

/-! ### Reading received fields (R124, R133, R161) -/

/-- A field of a received PDU in slot terms: value, content, whether it saturated. -/
def readField (s : State) (d : Bytes) (f : Field) : Nat × Bytes × Bool :=
  match f.typ with
  | 2 => (getRaw d f.start f.len f.be, [], false)
  | 3 => (0, sliceBytes d (f.start / 8) f.len, false)
  | t =>
    let r := getRaw d f.start f.len f.be
    let i : Int := if t = 1 then signed f.len r else (r : Int)
    let (add, mul) := convOf s f.conv
    let (v, c) := toUnits i add mul
    (pattern 64 v, [], c)

/-- The age an age field value states in ns; none for all ones (R161). -/
def statedAge (a : AgeField) (v : Nat) : Option Nat := if v = 2 ^ a.len - 1 then none else some ((v + 1) * a.unit - 1)

end Sys2Proof.Machine
end

