-- ==== Sys2Proof/Machine/Select.lean ====
section
/-! DEFINITION. What a CAN channel offers the bus (R72–R77, R82–R88): its mode and bit timing, the selection point, the
candidate and its check, the next candidate where one is lost, and what has happened on the channels by the instant at which
a row arrives. -/

namespace Sys2Proof.Machine

/-! ### What state a channel is in (R77, R90) -/

/-- The mode in effect: 0 INIT, 1 NORMAL, 2 RESTRICTED, 3 LISTEN_ONLY, 4 LOOP_INTERNAL, 5 LOOP_EXTERNAL. -/
def canMode (s : State) (n : Nat) : Nat := rd s Reg.CAN_STATUS.mode_eff n

/-- Whether Cloak is in force over the channel's mode: it overrides NORMAL and RESTRICTED (R77). -/
def cloaked (s : State) (n : Nat) : Bool := rdB s Reg.CAN_STATUS.cloak n && (canMode s n == 1 || canMode s n == 2)

/-- Whether the channel is bus-off. -/
def isBusOff (s : State) (n : Nat) : Bool := rd s Reg.CAN_STATUS.conf n == 2

/-- Whether the channel takes part in the bus as a receiver (Table 3.3, R91). -/
def listens (s : State) (n : Nat) : Bool :=
  canMode s n != 0 && !cloaked s n && !isBusOff s n && !rdB s Reg.CAN_STATUS.integrating n

/-- Whether the channel's mode sends frames and error frames and keeps the error counters (Table 3.3). -/
def modeSends (s : State) (n : Nat) : Bool := canMode s n == 1 || canMode s n == 4 || canMode s n == 5

/-- Whether the channel may start a frame. -/
def canSend (s : State) (n : Nat) : Bool := listens s n && modeSends s n

/-- CAN_STATUS.activity; bus-off recovery lasts from the entry to bus-off, the hold-off and INIT included (R91). When another
node's frame is on the bus is the bus's own: a free value of the channel and the instant (assumption 96). -/
def canActivity (s : State) (n : Nat) : Nat :=
  if isBusOff s n then 3
  else if (begunIdx s n).isSome then 2
  else if listens s n && Config.busBusy n s.now then 1
  else 0

/-! ### Bit timing (R73, R74) -/

/-- A timing set in CAN clocks: prescaler, tseg1, tseg2, SJW. -/
structure BitTiming where
  presc : Nat
  tseg1 : Nat
  tseg2 : Nat
  sjw : Nat
  deriving DecidableEq, Repr

/-- The CAN clocks of one bit. -/
def BitTiming.clocks (b : BitTiming) : Nat := b.presc * (1 + b.tseg1 + b.tseg2)

/-- The nominal, FD data and XL data timing of channel `n`; CAN_XBTIM reads 0 on CAN0–CAN31. -/
def nominal (s : State) (n : Nat) : BitTiming :=
  ⟨rd s Reg.CAN_BTIM.brp n + 1, rd s Reg.CAN_BTIM.tseg1 n + 1, rd s Reg.CAN_BTIM.tseg2 n + 1, rd s Reg.CAN_BTIM.sjw n + 1⟩
def fdTiming (s : State) (n : Nat) : BitTiming :=
  ⟨rd s Reg.CAN_DBTIM.brp n + 1, rd s Reg.CAN_DBTIM.tseg1 n + 1, rd s Reg.CAN_DBTIM.tseg2 n + 1, rd s Reg.CAN_DBTIM.sjw n + 1⟩
def xlTiming (s : State) (n : Nat) : BitTiming :=
  if n < 32 then ⟨1, 1, 1, 1⟩
  else ⟨rd s Reg.CAN_XBTIM.brp n + 1, rd s Reg.CAN_XBTIM.tseg1 n + 1, rd s Reg.CAN_XBTIM.tseg2 n + 1, rd s Reg.CAN_XBTIM.sjw n + 1⟩

/-- CAN clocks of 6.25 ns in whole ns. -/
def clocksNs (c : Nat) : Nat := c * 25 / 4

/-- Whether suspend-transmission bits follow the preceding frame (R85). -/
def suspends (s : State) (n : Nat) : Bool := rd s Reg.CAN_STATUS.conf n == 1 && (canCh s n).transmittedLast

/-- The projected start-of-frame of a selection point now: after an intermission's first sample point, or on an idle bus
(R85); `suspend` counts the suspend-transmission bits. -/
def projectedSof (s : State) (n : Nat) (intermission suspend : Bool) : Nat :=
  let b := nominal s n
  if intermission then s.now + clocksNs (b.presc * b.tseg2 + (if suspend then 10 else 2) * b.clocks) else s.now + clocksNs b.clocks

/-- A selection point now (R85, R86). Another node's frame that starts at `taken`, before the projected start-of-frame, takes
the channel's with it in the third intermission bit and on an idle bus; in the suspend-transmission bits the channel
receives that frame and starts none. -/
def selPoint (s : State) (n : Nat) (intermission : Bool) (taken : Option Nat) : SelPoint :=
  let sof := projectedSof s n intermission (suspends s n)
  match taken with
  | none => ⟨s.now, sof, sof, true⟩
  | some t =>
    if t < s.now ∨ sof ≤ t then ⟨s.now, sof, sof, true⟩
    else if t < projectedSof s n intermission false then ⟨s.now, sof, t, true⟩
    else ⟨s.now, sof, sof, false⟩

/-! ### Built elements (R83, R113, R158) -/

/-- The arbitration field of a frame as a number, the lower the sooner it wins (R83). -/
def arbKey (f : CanFrame) : Nat :=
  if f.xtd && f.fmt != 2 then
    f.id / 2 ^ 18 % 2048 * 2 ^ 21 + 2 ^ 20 + 2 ^ 19 + f.id % 2 ^ 18 * 2 + b2n (f.rtr && f.fmt == 0)
  else f.id % 2048 * 2 ^ 21 + b2n (f.rtr && f.fmt == 0) * 2 ^ 20

/-- The element bytes of a built frame. -/
def builtElem (s : State) (tpl : Nat) (f : CanFrame) (recs : List RouteRec) : Bytes :=
  let o := oldestOrigin s recs
  gwElem f ((o.map (fun o => o.dt)).getD (dtNow s : Int)) ((o.map (fun o => o.epoch)).getD (rd s Reg.DT_STATUS.epoch)) 0xFFFF tpl

/-- The record of a template's element. -/
def tplRec (tpl : Nat) (recs : List RouteRec) : GwRec := ⟨tpl, recs, none, none, none⟩

/-- The frame that goes on the bus for content offered: no bit-rate switching where the channel does not allow it, the
channel's own error state in ESI, an XL frame's DLC that of its data (R103, R113, R135). -/
def busFrame (s : State) (n : Nat) (f : CanFrame) : CanFrame :=
  { f with
    brs := f.brs && rdB s Reg.CAN_CTRL.brs_en n
    esi := f.fmt != 0 && rd s Reg.CAN_STATUS.conf n == 1
    dlc := if f.fmt = 2 then f.data.length - 1 else f.dlc }

/-! ### Selection (R83–R88) -/

/-- The candidate among the elements pending at instant `by_`: what would win arbitration; among identical fields buffers
first, by number, then slots in the order in which they became pending (R83, R85). -/
def bestPend (s : State) (n by_ : Nat) (skip : List Nat) : Option Pend :=
  let ps := ((canCh s n).pends.zipIdx).filter (fun x =>
    decide (x.1.since ≤ by_) && !x.1.rebuilding && !skip.contains x.1.idx && x.1.secondOf.isNone)
  let rank := fun (x : Pend × Nat) =>
    arbKey (elemFrame (elemBytes s n x.1.idx)) * 4096 + (if isBuffer s n x.1.idx then x.1.idx else 1024 + x.2)
  (leastBy rank ps).map (fun x => x.1)

/-- Element `k` offered at a selection point with this frame. -/
def setOffer (s : State) (n k : Nat) (pt : SelPoint) (f : CanFrame) : State :=
  modCan s n (fun c => { c with offer := some ⟨k, pt, busFrame s n f⟩ })

/-- What the check of one candidate comes to (Table 3.5): an offer made, a removal, a rebuild started, or an element that
sits this start-of-frame out. -/
inductive Picked where
  | offered
  | removed
  | rebuilding
  | late
  deriving DecidableEq, Repr

/-- A template's element offered, its content rewritten for the offer; removed as under suppress, or late, where its checks make
it so. -/
def offerTemplate (s : State) (n : Nat) (p : Pend) (g : GwRec) (pt : SelPoint) (ages : Bool) : State × Picked :=
  let e := elemBytes s n p.idx
  let f := elemFrame e
  match offerContent s g.tpl pt.sof g.routes ages f.data with
  | (s, .bad) => (bump (removeElem s n p.idx) Reg.CAN_STAT_STALE_SUPPR.value n, .removed)
  | (s, .late) => (bump s Reg.CAN_STAT_REBUILD_LATE.value n, .late)
  | (s, .ok d ck sec) =>
    let s := putElem s n p.idx (putBytes e 32 d)
    let s := modPend s n p.idx (fun q => { q with gw := some { g with ckOffer := ck, secOffer := sec } })
    (setOffer s n p.idx pt { f with data := d }, .offered)

/-- A host element removed as stale (R87): event 0x0016. -/
def hostStale (s : State) (n : Nat) (p : Pend) (budget : Nat) (age : Option Nat) : State :=
  let f := elemFrame (elemBytes s n p.idx)
  let buf := isBuffer s n p.idx
  let num := if buf then p.idx else p.idx - (partOf s n).txBuffers
  let s := bump (removeReported s n p.idx) Reg.CAN_STAT_STALE_SUPPR.value n
  canEvent s n 0x16 Reg.CAN_INT_STATUS.host_stale
    (leBytes 4 f.id ++ leBytes 1 (b2n f.xtd) ++ leBytes 1 (b2n !buf) ++ leBytes 2 num ++ leBytes 2 budget ++ leBytes 2 (pips age))

/-- A template's element rebuilt from the slots as they are, its checks made for `sof` (R87, R171); none where it is removed. -/
def rebuildElem (s : State) (n : Nat) (p : Pend) (g : GwRec) (sof : Nat) : State × Bool :=
  let e := tplOf s g.tpl
  let gone := fun (s : State) => (removeElem s n p.idx, false)
  if !Tpl.valid e then gone (bump s Reg.SG_STAT_TPL_GONE.value)
  else
    let s := bump (bump s Reg.CAN_STAT_STALE_REBUILT.value n) Reg.SG_STAT_REBUILD.value
    let a := buildContent s g.tpl sof
    match a.stop with
    | some (r, age, b) => gone (suppressed (bump a.st Reg.CAN_STAT_STALE_SUPPR.value n) g.tpl r age b 2 n sof a.recs)
    | none =>
      let old := elemFrame (elemBytes a.st n p.idx)
      let f := { builtFrame a.st e a.data with id := old.id, xtd := old.xtd }
      let s := putElem a.st n p.idx (builtElem a.st g.tpl f a.recs)
      let s := modPend s n p.idx (fun q => { q with gw := some (tplRec g.tpl a.recs), rebuilding := true })
      (noteStale s g.tpl sof a.recs, true)

/-- The check of candidate `p` at the projected start-of-frame (R86, R87, R88, R160). -/
def checkCandidate (s : State) (n : Nat) (p : Pend) (pt : SelPoint) (inTime : Bool) : State × Picked :=
  let e := elemBytes s n p.idx
  let sof := pt.sof
  match p.gw with
  | none =>
    let budget := leAt e 24 2
    let age := ageAt s (elemOrigin s n p.unknown e) sof
    if isStale budget age then (hostStale s n p budget age, .removed) else (setOffer s n p.idx pt (elemFrame e), .offered)
  | some g =>
    match g.copy with
    | some (o, budget) =>
      if isStale budget (ageAt s o sof) then
        (bump (removeElem s n p.idx) Reg.CAN_STAT_STALE_SUPPR.value n, .removed)
      else (setOffer s n p.idx pt (elemFrame e), .offered)
    | none =>
      match recordCheck s g.routes sof with
      | (some r, _) =>
        let s := bump (removeElem s n p.idx) Reg.CAN_STAT_STALE_SUPPR.value n
        (suppressed s g.tpl r.route (ageAt s r.origin sof) r.budget 1 n sof g.routes, .removed)
      | (none, true) =>
        match rebuildElem s n p g sof with
        | (s, true) => (s, .rebuilding)
        | (s, false) => (s, .removed)
      | (none, false) =>
        let t := tplOf s g.tpl
        if !Tpl.valid t && !(ageFields s t).isEmpty then
          (removeElem (bump s Reg.SG_STAT_TPL_GONE.value) n p.idx, .removed)
        else if inTime && decide (pt.due < s.now + offerWork s g.tpl) then
          (bump s Reg.CAN_STAT_REBUILD_LATE.value n, .late)
        else offerTemplate s n p g pt true

/-- Candidates chosen and checked until one is offered or its rebuild has started. `inTime` is false where the start-of-frame
has already come: then a rebuild is late at once and the next candidate is taken (R88). -/
def selectLoop : Nat → Nat → SelPoint → Bool → List Nat → State → State
  | 0, _, _, _, _, s => s
  | fuel + 1, n, pt, inTime, skip, s =>
    match bestPend s n pt.at_ skip with
    | none => s
    | some p =>
      match checkCandidate s n p pt inTime with
      | (s, .offered) => s
      | (s, .removed) => selectLoop fuel n pt inTime skip s
      | (s, .late) => selectLoop fuel n pt inTime (p.idx :: skip) s
      | (s, .rebuilding) =>
        if inTime then modCan s n (fun c => { c with rebuild := some ⟨p.idx, pt⟩ })
        else selectLoop fuel n pt inTime skip (bump s Reg.CAN_STAT_REBUILD_LATE.value n)

/-- The selection for a selection point. -/
def selectFor (s : State) (n : Nat) (pt : SelPoint) (inTime : Bool) : State :=
  let s := modCan s n (fun c => { c with offer := none, again := none })
  let s := selectLoop (2 * (canCh s n).pends.length + 1) n pt inTime [] s
  modCan s n (fun c => { c with again := none })

/-- The next candidate of a selection point that has lost its candidate, where its start-of-frame has not come (Table 3.6
t1). -/
def selectAgain (n : Nat) (s : State) : State :=
  match (canCh s n).again with
  | none => s
  | some pt =>
    let s := modCan s n (fun c => { c with again := none })
    if canSend s n && (canCh s n).offer.isNone && decide (s.now ≤ pt.due) then selectFor s n pt true else s

/-- The same on every channel. -/
def selectAgainAll (s : State) : State := s.can.foldl (fun s x => if x.2.again.isSome then selectAgain x.1 s else s) s

/-! ### What has happened on the channels by now -/

/-- A rebuild whose start-of-frame has passed: late, and the next candidate offered in its place (R88). -/
def canSync (s : State) (n : Nat) : State :=
  match (canCh s n).rebuild with
  | none => s
  | some r =>
    if s.now ≤ r.point.due then s
    else
      let s := modCan s n (fun c => { c with rebuild := none })
      let s := bump s Reg.CAN_STAT_REBUILD_LATE.value n
      if canSend s n && (canCh s n).offer.isNone then selectFor s n r.point false else s

/-- Whether a bus-off channel counts recessive sequences: not during the hold-off, in INIT or in Cloak (R91, R95). -/
def countsSequences (s : State) (n : Nat) : Bool := !rdB s Reg.CAN_BOFF.holdoff_active n && canMode s n != 0 && !cloaked s n

/-- The sequences a bus-off channel has counted by now: those held while it does not count; while it does, no fewer than
before, and no more than the time since it began allows: how many the bus has shown is a free value (assumption 96). -/
def recoverySync (s : State) (n : Nat) : State :=
  let c := canCh s n
  let held := rd s Reg.CAN_BOFF.recov_count n
  if !isBusOff s n then s
  else if countsSequences s n then
    let most := min 127 (c.recovBase + (s.now - c.recovAt) / max 1 (clocksNs (11 * (nominal s n).clocks)))
    if held < most then wr (drawn s) Reg.CAN_BOFF.recov_count (freeIn s held most) n else s
  else modCan s n (fun c => { c with recovAt := s.now, recovBase := held })

/-- Every channel brought up to now: late rebuilds noticed, recovery sequences counted. -/
def channelsSync (s : State) : State :=
  s.can.foldl (fun s x => recoverySync (if x.2.rebuild.isSome then canSync s x.1 else s) x.1) s

/-- The link frames the cipher engine has refused so far counted and reported, at the instant of the row that sent them (R315). -/
def reportRefused (s : State) : State :=
  if s.tf.refused = 0 then s
  else
    let n := s.tf.refused
    let s := bumpBy { s with tf := { s.tf with refused := 0 } } Reg.CX_STAT_QFULL.value n
    raiseInLimited s Reg.CX_INT_STATUS.event 0 11 4 3 3 n (leBytes 4)

/-- A row arrives at instant `t`: what has happened on the channels by then, while the core die runs, comes first. -/
def arrive (t : Nat) (s : State) : State :=
  let s := tick t (reportRefused s)
  if coreOn s then channelsSync s else s

end Sys2Proof.Machine
end

