-- ==== Sys2Proof/Machine/Egress.lean ====
section
/-! DEFINITION. What leaves the gateway (R135, R162–R195): the channel rate limiter, waiters, placing built elements and
forwarded copies, ACF streams and bundles, mirror copies, triggers and cycle grids. -/

namespace Sys2Proof.Machine

/-! ### The channel rate limiter (R168) -/

/-- Channel `n`'s bucket brought up to now; units are 10^-9 token. -/
def bucketNow (s : State) (n : Nat) : Bucket :=
  let b := Tab.get s.sg.buckets n ⟨0, 0⟩
  ⟨min (b.units + (s.now - b.at_) * rd s Reg.SG_CHRATE.rate n) (rd s Reg.SG_CHRATE.burst n * sec), s.now⟩

/-- Whether the limiter lets one new gateway element pass. -/
def hasToken (s : State) (n : Nat) : Bool :=
  !rdB s Reg.SG_CHRATE.en n || (rdB s Reg.SG_CHRATE.rate n && decide (sec ≤ (bucketNow s n).units))

/-- A token consumed. -/
def takeToken (s : State) (n : Nat) : State :=
  if rdB s Reg.SG_CHRATE.en n then
    let b := bucketNow s n
    modSg s (fun g => { g with buckets := Tab.put g.buckets n { b with units := b.units - sec } })
  else s

/-- SG_CHRATE written: a burst of 0 is ignored; en turning on fills the bucket, otherwise the tokens held are kept, capped
at the new burst. -/
def writeChrate (n v : Nat) (s : State) : State :=
  let b := bucketNow s n
  let was := rdB s Reg.SG_CHRATE.en n
  let s := wr s Reg.SG_CHRATE.rate (bitsOf v 0 16) n
  let s := if bitsOf v 16 8 = 0 then s else wr s Reg.SG_CHRATE.burst (bitsOf v 16 8) n
  let s := wr s Reg.SG_CHRATE.en (bitsOf v 31 1) n
  let full := rd s Reg.SG_CHRATE.burst n * sec
  let units := if !was && bitSet v 31 then full else min b.units full
  modSg s (fun g => { g with buckets := Tab.put g.buckets n ⟨units, s.now⟩ })

/-- Event 0x000B of channel `n` after waits and drops, each counted since the last event. -/
def limiterEvent (s : State) (n waits drops : Nat) : State :=
  sgEventLimited s 11 n (waits + drops * 2 ^ 32) (fun k => leBytes 4 (k % 2 ^ 32) ++ leBytes 4 (k / 2 ^ 32))

/-! ### What a target can carry (R135, R169) -/

/-- The key word of a frame, as CAN routes and events name it. -/
def keyWord (f : CanFrame) : Nat := f.id % 2 ^ 29 + b2n (f.xtd && f.fmt != 2) * 2 ^ 29 + f.fmt % 4 * 2 ^ 30

/-- Why channel `n` cannot carry a frame: 1 format, 2 size; none where it can. -/
def cannotCarry (s : State) (n : Nat) (f : CanFrame) : Option Nat :=
  if (f.fmt == 1 && !rdB s Reg.CAN_CTRL.fd_en n) || (f.fmt == 2 && !rdB s Reg.CAN_CTRL.xl_en n) then some 1
  else if dataSize (partOf s n).txSize < dataLength f then some 2
  else none

/-- A frame dropped at target `target` for format or size: SG_STAT_FWD_FMT and event 0x0002. -/
def dropFormat (s : State) (target why : Nat) (f : CanFrame) : State :=
  sgEventLimited (bump s Reg.SG_STAT_FWD_FMT.value) 2 target 1 (fun k => leBytes 4 (keyWord f) ++ leBytes 1 why ++ leBytes 4 k)

/-! ### Waiters (R167) -/

/-- The templates waiting on channel `n`. -/
def waitersOf (s : State) (n : Nat) : List Nat := Tab.get s.sg.waiters n []

/-- A build refused for want of a slot (`full`, R167) or of a token (R168): its statistic and its event. -/
def countRefused (s : State) (n : Nat) (full : Bool) : State :=
  if full then sgEventLimited (bump s Reg.SG_STAT_TPL_WAIT.value) 10 n 1 (leBytes 4)
  else limiterEvent (bump s Reg.SG_STAT_RATE_WAIT.value) n 1 0

/-- A template made a waiter for want of a slot (`full`) or of a token. -/
def addWaiter (s : State) (n tpl : Nat) (full : Bool) : State :=
  countRefused (if (waitersOf s n).contains tpl then s
    else modSg s (fun g => { g with waiters := Tab.put g.waiters n (waitersOf s n ++ [tpl]) })) n full

/-- A template no longer waiting on channel `n`. -/
def dropWaiter (s : State) (n tpl : Nat) : State :=
  modSg s (fun g => { g with waiters := Tab.put g.waiters n ((waitersOf s n).filter (fun t => t != tpl)) })

/-- The arbitration field of a template's frames. -/
def tplKey (s : State) (n : Nat) : Nat := arbKey (builtFrame s (tplOf s n) [])

/-! ### Ethernet frames of streams (R178, R181, R190) -/

/-- The bytes of a stream entry from offset `off`. -/
def strmBytes (e off n : Nat) : Bytes := leBytes n (e / 2 ^ (8 * off))

/-- The ones' complement sum of 16-bit words, as a checksum. -/
def inetSum (bs : Bytes) : Nat :=
  let words := (List.range (ceilDiv bs.length 2)).map (fun k => beAt bs (2 * k) 2)
  let x := words.sum
  let x := x % 65536 + x / 65536
  65535 - (x % 65536 + x / 65536) % 65536

/-- A payload in the Ethernet frame of transmit stream entry `e` (up to, not including, the FCS). PRESUMED from RFC 791, RFC
768 and RFC 8200: header layouts and checksums; the IPv4 identification is a free value (assumption 31). -/
def streamFrame (s : State) (e : Nat) (ethertype dport : Nat) (payload : Bytes) : Bytes :=
  let tag : Bytes := if bitSet e 10 then beBytes 2 0x8100 ++ beBytes 2 (bitsOf e 7 3 * 8192 + bitsOf e 11 12) else []
  let macs : Bytes := strmBytes e 16 6 ++ strmBytes e 22 6 ++ tag
  let dscp := bitsOf e 50 6
  let ttl := bitsOf e 56 8
  let len := payload.length + 8
  let sport := bitsOf e 240 16
  let udp := fun (pseudo : Bytes) =>
    let h : Bytes := beBytes 2 sport ++ beBytes 2 dport ++ beBytes 2 len
    let c := inetSum (pseudo ++ h ++ zeros 2 ++ payload)
    h ++ beBytes 2 (if c = 0 then 65535 else c) ++ payload
  match Strm.encap e with
  | 0 => macs ++ beBytes 2 ethertype ++ payload
  | 1 =>
    let dip := strmBytes e 32 4
    let sip := strmBytes e 48 4
    let h : Bytes := beBytes 1 0x45 ++ beBytes 1 (dscp * 4) ++ beBytes 2 (len + 20) ++ freeBytes s 2 ++ zeros 2 ++
      beBytes 1 ttl ++ beBytes 1 17
    let c := inetSum (h ++ zeros 2 ++ sip ++ dip)
    macs ++ beBytes 2 0x0800 ++ h ++ beBytes 2 c ++ sip ++ dip ++ udp (sip ++ dip ++ beBytes 2 17 ++ beBytes 2 len)
  | _ =>
    let dip := strmBytes e 32 16
    let sip := strmBytes e 48 16
    let h : Bytes := beBytes 4 (6 * 2 ^ 28 + dscp * 2 ^ 22) ++ beBytes 2 len ++ beBytes 1 17 ++ beBytes 1 ttl
    macs ++ beBytes 2 0x86DD ++ h ++ sip ++ dip ++ udp (sip ++ dip ++ beBytes 4 len ++ beBytes 4 17)

/-- A stream's frame handed to the switch core in its class (R184, R209); `left` is what becomes of its contents' counters and
freshness values when it enters (R303, R336). -/
def submitStream (s : State) (e : Nat) (ethertype dport : Nat) (payload : Bytes)
    (left : List (Option (Nat × Nat) × Option (Nat × Nat))) : State :=
  let f := streamFrame s e ethertype dport payload
  let s := if Strm.encap e = 1 then drawn s else s
  bump (modSg s (fun g => { g with toSwitch := g.toSwitch ++ [⟨Strm.txClass e, f, left⟩] })) Reg.SG_STAT_STRM_TX.value

/-- The run-time state of transmit stream `n`. -/
def streamTxOf (s : State) (n : Nat) : StreamTx := Tab.get s.sg.streamTx n ⟨[], 0, 0, 0⟩

/-- The same, changed. -/
def modTx (s : State) (n : Nat) (f : StreamTx → StreamTx) : State :=
  modSg s (fun g => { g with streamTx := Tab.put g.streamTx n (f (streamTxOf s n)) })

/-! ### ACF streams (R181–R185) -/

/-- Whether an ACF message of this stream entry carries the full header. -/
def acfHeader (e : Nat) : Nat := if Strm.kind e = 0 then 16 else 8

/-- The length of the ACF message of a frame (R182). -/
def acfLength (e : Nat) (f : CanFrame) : Nat := acfHeader e + 4 * ceilDiv (dataLength f) 4

/-- The ACF message of an item at seal (R182, R183). PRESUMED from IEEE 1722-2016: the bit places of the header (assumption
32). -/
def acfMessage (s : State) (e : Nat) (it : StreamItem) : Bytes :=
  let f := it.frame
  let len := dataLength f
  let pad := (4 - len % 4) % 4
  let known := !ageUnknown s it.origin s.now && decide (it.origin.u ≠ 0xFFFFFFFF)
  let mtv := Strm.kind e == 0 && dtSynced s && known
  let bus := (it.channel.map (fun c => c - Strm.txBase e)).getD 0
  let flags := pad * 64 + b2n mtv * 32 + b2n f.rtr * 16 + b2n f.xtd * 8 + b2n f.brs * 4 + b2n (f.fmt == 1) * 2 + b2n f.esi
  let stamp := pattern 64 (it.origin.dt + stepSum s it.origin.epoch)
  beBytes 2 ((if Strm.kind e = 0 then 1 else 2) * 512 + acfLength e f / 4) ++ beBytes 1 flags ++ beBytes 1 (bus % 32) ++
    (if Strm.kind e = 0 then beBytes 8 (if mtv then stamp else 0) else []) ++ beBytes 4 f.id ++ padTo len f.data ++ zeros pad

/-- The limit of an AVTP PDU of this encapsulation (R184). -/
def acfLimit (encap : Nat) : Nat := [1500, 1468, 1448].getD encap 0

/-- The AVTP PDU size of a list of items. -/
def acfSize (e : Nat) (items : List StreamItem) : Nat := 12 + (items.map (fun it => acfLength e it.frame)).sum

/-- An item as it stands in a sealed PDU: the item, and its counter and freshness value where it carries them. -/
abbrev Sealed := StreamItem × Option (Nat × Nat) × Option (Nat × Nat)

/-- One message of the open PDU at the seal instant: kept as it then stands, or removed (R185). -/
def sealItem (tgt : Nat) (x : State × List Sealed) (it : StreamItem) : State × List Sealed :=
  let (s, kept) := x
  match it.gw with
  | none => (s, kept ++ [(it, none, none)])
  | some g =>
    match g.copy with
    | some (o, budget) =>
      if isStale budget (ageAt s o s.now) then (bump s Reg.SG_STAT_STRM_STALE.value, kept) else (s, kept ++ [(it, none, none)])
    | none =>
      let e := tplOf s g.tpl
      let finish := fun (s : State) (data : Bytes) (recs : List RouteRec) (ages : Bool) =>
        match offerContent s g.tpl s.now recs ages data with
        | (s, .bad) => (s, kept)
        | (s, .late) => (s, kept)
        | (s, .ok d ck sec) =>
          let o := (oldestOrigin s recs).getD { it.origin with unknown := true }
          (s, kept ++ [({ it with frame := { it.frame with data := d }, origin := o }, ck, sec)])
      match recordCheck s g.routes s.now with
      | (some r, _) => (suppressed s g.tpl r.route (ageAt s r.origin s.now) r.budget 1 tgt s.now g.routes, kept)
      | (none, false) =>
        if !Tpl.valid e && !(ageFields s e).isEmpty then (bump s Reg.SG_STAT_TPL_GONE.value, kept)
        else finish s it.frame.data g.routes true
      | (none, true) =>
        if !Tpl.valid e then (bump s Reg.SG_STAT_TPL_GONE.value, kept)
        else
          let a := buildContent (bump s Reg.SG_STAT_REBUILD.value) g.tpl s.now
          match a.stop with
          | some (r, age, b) => (suppressed a.st g.tpl r age b 1 tgt s.now a.recs, kept)
          | none => finish (noteStale a.st g.tpl s.now a.recs) a.data a.recs false

/-- The open PDU of stream `n` sealed (R184, R185); empty afterwards, it is not sent. -/
def sealPdu (s : State) (n : Nat) : State :=
  let e := streamOf s n
  let tx := streamTxOf s n
  let s := modTx s n (fun t => { t with items := [] })
  let (s, kept) := tx.items.foldl (sealItem (64 + n)) (s, [])
  let items := kept.map (fun x => x.1)
  if items.isEmpty then s
  else
    let body := (items.map (acfMessage s e)).flatten
    let head : Bytes := beBytes 1 0x82 ++ beBytes 2 (0x8000 + body.length % 2048) ++ beBytes 1 tx.seq ++ beBytes 8 (Strm.id e)
    let annexJ : Bytes := if Strm.encap e = 0 then [] else beBytes 4 tx.encapSeq
    let s := modTx s n (fun t => { t with
      seq := (t.seq + 1) % 256
      encapSeq := if Strm.encap e = 0 then t.encapSeq else (t.encapSeq + 1) % 2 ^ 32 })
    let s := bumpBy s Reg.SG_STAT_STRM_MSG.value items.length
    submitStream s e 0x22F0 17220 (annexJ ++ head ++ body) (kept.map (fun x => x.2))

/-- Whether a frame has no representation in a stream: 1 CAN XL, 3 its bus out of range (R182). -/
def acfCannot (e : Nat) (f : CanFrame) (channel : Option Nat) : Option Nat :=
  let bad := match channel with
    | none => false
    | some c => decide (c < Strm.txBase e) || decide (Strm.txBase e + 31 < c)
  if f.fmt = 2 then some 1 else if bad then some 3 else none

/-- The sealing conditions that hold once an item has been placed (R184). -/
def sealIfDue (s : State) (n : Nat) : State :=
  let e := streamOf s n
  let items := (streamTxOf s n).items
  if Strm.maxMsgs e ≤ items.length ∨ Strm.holdUs e = 0 then sealPdu s n else s

/-- An item appended to the open PDU, which is sealed first where the item would take it past its limit. -/
def appendItem (s : State) (n : Nat) (it : StreamItem) : State :=
  let e := streamOf s n
  let s := if acfLimit (Strm.encap e) < acfSize e ((streamTxOf s n).items ++ [it]) then sealPdu s n else s
  let s := modTx s n (fun t => { t with
    items := t.items ++ [it]
    openedAt := if t.items.isEmpty then s.now else t.openedAt })
  sealIfDue s n

/-- Whether an item is the element of template `tpl`. -/
def itemOf (tpl : Nat) (it : StreamItem) : Bool := it.gw.any (fun g => g.tpl == tpl && g.copy.isNone)

/-- Why a whole frame cannot use transmit stream `n`, 0 where it can: not valid, left by DMA as the write check would not have
it, or a bundle (R121, R180). -/
def acfRefusal (s : State) (n : Nat) : Nat :=
  let e := streamOf s n
  if !Strm.valid e then 21
  else
    match streamForm s n e with
    | 0 => if Strm.kind e = 2 then 21 else 0
    | r => r

/-- ACF_PDU_SEAL: hold_us has passed since the open PDU's first message (R184). -/
def acfSealOp (n : Nat) (s : State) : State :=
  let tx := streamTxOf s n
  if tx.items.isEmpty ∨ s.now < tx.openedAt + Strm.holdUs (streamOf s n) * us then s else sealPdu s n

/-! ### Bundles (R190–R192) -/

/-- Descriptor `k` of a bundle of template entry `e` (Table 7.6). -/
def descriptor (s : State) (e : Nat) (recs : List RouteRec) (k : Nat) : Bytes :=
  let i := Tpl.first e + k
  match recs.find? (fun r => r.route == i) with
  | none => zeros 20
  | some r =>
    let x := slotOf s (Route.slot (routeEntry s i))
    let age := ageAt s r.origin s.now
    let flags := 1 + 2 * b2n r.stale + 4 * b2n age.isNone + 8 * b2n r.origin.remote + 16 * b2n (!x.written)
    beBytes 2 k ++ beBytes 1 flags ++ beBytes 1 r.origin.device ++ beBytes 1 r.origin.channel ++ zeros 1 ++
      beBytes 2 (pips age) ++ beBytes 4 r.origin.u ++ beBytes 8 (pattern 64 (r.origin.dt + stepSum s r.origin.epoch))

/-- A built template sealed as a bundle and sent (R190, R192). -/
def sealBundle (s : State) (n tpl : Nat) (recs : List RouteRec) (data : Bytes) : State × Bool :=
  let e := streamOf s n
  let t := tplOf s tpl
  match offerContent s tpl s.now recs false data with
  | (s, .bad) => (s, false)
  | (s, .late) => (s, false)
  | (s, .ok d ck sec) =>
    let tx := streamTxOf s n
    let head : Bytes := beBytes 2 1 ++ beBytes 2 (Tpl.count t) ++ beBytes 4 (Strm.id e) ++ beBytes 4 tx.encapSeq ++
      beBytes 1 (b2n (dtSynced s) + 2 * b2n (recs.any (fun r => r.stale))) ++ beBytes 1 (ownId s) ++
      beBytes 2 (Tpl.length t) ++ beBytes 8 (dtNow s) ++ beBytes 4 (uNow s) ++ zeros 4
    let ds := ((List.range (Tpl.count t)).map (descriptor s t recs)).flatten
    let body := head ++ ds ++ d ++ zeros ((4 - d.length % 4) % 4)
    let s := modTx s n (fun x => { x with encapSeq := (x.encapSeq + 1) % 2 ^ 32 })
    (submitStream s e 0x88B6 (bitsOf e 224 16) body [(ck, sec)], true)

/-! ### Placing a built element (R166–R171) -/

/-- What became of a build. -/
inductive BuildOut where
  | new
  | rewritten
  | suppressed
  | full
  | noToken
  | discarded
  | nothing
  deriving DecidableEq, Repr

/-- The pending elements of template `tpl` on channel `n`, in order. -/
def tplPends (s : State) (n tpl : Nat) : List Pend :=
  (canCh s n).pends.filter (fun p => p.gw.any (fun g => g.tpl == tpl && g.copy.isNone))

/-- The offer of element `k` made again for its start-of-frame after a rewrite in place before it. -/
def reoffer (s : State) (n k : Nat) (g : GwRec) : State :=
  match (canCh s n).offer with
  | none => s
  | some o =>
    if o.idx ≠ k then s
    else
      let e := elemBytes s n k
      let f := elemFrame e
      match offerContent s g.tpl o.point.sof g.routes true f.data with
      | (s, .bad) => bump (removeElem s n k) Reg.CAN_STAT_STALE_SUPPR.value n
      | (_, .late) => modCan s n (fun c => { c with
          offer := none
          again := some o.point })
      | (s, .ok d ck sec) =>
        let s := putElem s n k (putBytes e 32 d)
        let s := modPend s n k (fun p => { p with gw := some { g with ckOffer := ck, secOffer := sec } })
        modCan s n (fun c => { c with offer := some { o with frame := busFrame s n { f with data := d } } })

/-- Element `k` rewritten in place: it keeps its identifier and its order (R82). -/
def rewriteElem (s : State) (n k tpl : Nat) (f : CanFrame) (recs : List RouteRec) : State :=
  let old := elemFrame (elemBytes s n k)
  let f := { f with id := old.id, xtd := old.xtd }
  let s := putElem s n k (builtElem s tpl f recs)
  let s := modPend s n k (fun p => { p with gw := some (tplRec tpl recs) })
  reoffer s n k (tplRec tpl recs)

/-- A built frame placed on channel `n`: in place, or in a new slot with a token (R82, R166, R169). -/
def placeBuilt (s : State) (n tpl : Nat) (f : CanFrame) (recs : List RouteRec) : State × BuildOut :=
  match cannotCarry s n f with
  | some why => (dropFormat s n why f, .discarded)
  | none =>
    let ps := tplPends s n tpl
    match ps.find? (fun p => !hasBegun s n p.idx && !p.removing) with
    | some p => (rewriteElem s n p.idx tpl f recs, .rewritten)
    | none =>
      if !hasToken s n then (s, .noToken)
      else
        match freeGwSlot s n with
        | none => (s, .full)
        | some k =>
          let second := (ps.find? (fun p => hasBegun s n p.idx && !p.removing)).map (fun p => p.idx)
          let s := putElem (takeToken s n) n k (builtElem s tpl f recs)
          (addPend s n ⟨k, false, some (tplRec tpl recs), [], false, false, second, s.now, false⟩, .new)

/-- The pending element of a suppressed template removed: at once, or at the end of its attempt (R153). -/
def removeSuppressed (s : State) (tpl : Nat) : State :=
  let tgt := Tpl.target (tplOf s tpl)
  if tgt < 64 then (tplPends s tgt tpl).foldl (fun s p => deviceRemove s tgt p.idx) s
  else modTx s (tgt - 64) (fun t => { t with items := t.items.filter (fun it => !itemOf tpl it) })

/-- Why template `tpl` cannot be built at this use, as the table, index and reason of a bad entry: its target stream is not
valid, fails its check, or has another kind than it had when the template was written (R180); the template itself was left by
DMA as the write check would not have it (R121). -/
def tplRefusal (s : State) (tpl : Nat) : Option (Nat × Nat × Nat) :=
  let e := tplOf s tpl
  let n := Tpl.target e - 64
  let form := if Strm.valid (streamOf s n) then streamForm s n (streamOf s n) else 21
  if 64 ≤ Tpl.target e ∧ form ≠ 0 then some (11, n, form)
  else if 64 ≤ Tpl.target e ∧ Strm.kind (streamOf s n) ≠ (tplRun s tpl).streamKind then some (11, n, 21)
  else
    match tplReason s tpl e with
    | 0 => none
    | r => some (8, tpl, r)

/-- Template `tpl` built now; a build refused for want of a token or a slot changes nothing (R150–R159, R166, R192). -/
def buildTemplate (s : State) (tpl : Nat) : State × BuildOut :=
  let e := tplOf s tpl
  let tgt := Tpl.target e
  let a := buildContent s tpl s.now
  let noted := fun (s : State) =>
    modRun s tpl (fun r => { r with lastBuild := Tab.put r.lastBuild tgt s.now, deferred := none })
  let built := fun (s : State) => noteStale (noted (bump s Reg.SG_STAT_BUILD.value)) tpl s.now a.recs
  match tplRefusal s tpl, a.stop with
  | some (t, i, r), _ => (badEntry s t i r, .nothing)
  | none, some (r, age, b) => (noted (suppressed (removeSuppressed a.st tpl) tpl r age b 0 tgt s.now a.recs), .suppressed)
  | none, none =>
    let f := builtFrame s e a.data
    if tgt < 64 then
      match placeBuilt a.st tgt tpl f a.recs with
      | (_, .noToken) => (s, .noToken)
      | (_, .full) => (s, .full)
      | (s, .discarded) => (built s, .discarded)
      | (s, o) => (built s, o)
    else
      let n := tgt - 64
      let st := streamOf s n
      if Strm.kind st = 2 then
        match sealBundle a.st n tpl a.recs a.data with
        | (s, true) => (built s, .new)
        | (s, false) => (s, .nothing)
      else
        let o := (oldestOrigin s a.recs).getD ⟨0, 0, 0, 0, 0, false, true⟩
        let it : StreamItem := ⟨f, none, o, some (tplRec tpl a.recs)⟩
        if (streamTxOf s n).items.any (itemOf tpl) then
          let rewrite := fun (x : StreamItem) =>
            if itemOf tpl x then { it with frame := { f with id := x.frame.id, xtd := x.frame.xtd } } else x
          (built (modTx a.st n (fun t => { t with items := t.items.map rewrite })), .rewritten)
        else (built (appendItem a.st n it), .new)

/-- Whether templates are built at all: the gateway enabled, in Run or Idle (R147, R165). -/
def mayBuild (s : State) : Bool := rdB s Reg.SG_CTRL.en && decide (powerState s < 2) && !transitFull s

/-- Whether an element of template `tpl` is being rebuilt: a build then waits for the end of the rebuild (R170). -/
def tplRebuilding (s : State) (tpl : Nat) : Bool :=
  let tgt := Tpl.target (tplOf s tpl)
  decide (tgt < 64) && (tplPends s tgt tpl).any (fun p => p.rebuilding)

/-- A trigger of template `tpl` held until its rebuild completes. -/
def holdTrigger (s : State) (tpl : Nat) (x : Trigger) : State := modSg s (fun g => { g with held := g.held ++ [(tpl, x)] })

/-- A due trigger of template `tpl`: a build, or a waiter where it finds no token or slot; while it waits, nothing (R166,
R167). `cycle` tells a cycle instant. -/
def triggerBuild (s : State) (tpl : Nat) (cycle : Bool) : State :=
  let e := tplOf s tpl
  let tgt := Tpl.target e
  if !Tpl.valid e || !mayBuild s then s
  else
    let s := leaveIdle s
    let overrun := fun (s : State) => if cycle then bump s Reg.SG_STAT_CYC_OVR.value else s
    if decide (tgt < 64) && (waitersOf s tgt).contains tpl then overrun s
    else if tplRebuilding s tpl then holdTrigger s tpl (if cycle then .cycle else .change)
    else
      match buildTemplate s tpl with
      | (s, .rewritten) => overrun s
      | (s, .full) => addWaiter s tgt tpl true
      | (s, .noToken) => addWaiter s tgt tpl false
      | (s, _) => s

/-- The waiter served next on channel `n`: the one that would win arbitration, the lower template among equals. -/
def nextWaiter (s : State) (n : Nat) : Option Nat :=
  leastBy (fun t => tplKey s t * 16384 + t) ((waitersOf s n).filter (fun t => !tplRebuilding s t))

/-- Waiters of channel `n` served while a slot and a token are there (R167, R168). -/
def serveWaiters : Nat → Nat → State → State
  | 0, _, s => s
  | fuel + 1, n, s =>
    match nextWaiter s n with
    | none => s
    | some t =>
      if !Tpl.valid (tplOf s t) then serveWaiters fuel n (dropWaiter s n t)
      else if !mayBuild s || !hasToken s n || (freeGwSlot s n).isNone then s
      else
        let s := dropWaiter s n t
        serveWaiters fuel n (buildTemplate s t).1

/-- The next candidate where one is due, then the waiters that can be served; and again, while the one gives rise to the
other. -/
def serveLoop : Nat → Nat → State → State
  | 0, _, s => s
  | fuel + 1, n, s =>
    let s := selectAgain n s
    let s := serveWaiters (waitersOf s n).length n s
    if (canCh s n).again.isSome then serveLoop fuel n s else s

/-- What the changes of a row leave due on channel `n`: its next candidate (Table 3.6 t1) and its waiters (R167). -/
def serve (n : Nat) (s : State) : State := serveLoop ((canCh s n).pends.length + (waitersOf s n).length + 1) n s

/-- The channels on which something may be due. -/
def dueChannels (s : State) : List Nat :=
  ((s.can.filter (fun x => x.2.again.isSome)).map (fun x => x.1) ++
    (s.sg.waiters.filter (fun x => !x.2.isEmpty)).map (fun x => x.1)).eraseDups

/-! ### Forwarded copies (R135, R349) -/

/-- A copy placed on CAN channel `n` of this device. -/
def forwardCan (s : State) (n : Nat) (f : CanFrame) (o : Origin) (budget : Nat) : State :=
  let f := { f with brs := f.brs && rdB s Reg.CAN_CTRL.brs_en n }
  match cannotCarry s n f with
  | some why => dropFormat s n why f
  | none =>
    if !hasToken s n then limiterEvent (bump s Reg.SG_STAT_RATE_DROP.value) n 0 1
    else
      match freeGwSlot s n with
      | none => sgEventLimited (bump s Reg.SG_STAT_FWD_FULL.value) 4 n 1 (leBytes 4)
      | some k =>
        let s := putElem (takeToken s n) n k (gwElem f o.dt o.epoch budget 0xFFFE)
        let s := addPend s n ⟨k, false, some ⟨0xFFFE, [], some (o, budget), none, none⟩, [], false, false, none, s.now, false⟩
        bump s Reg.SG_STAT_FWD.value

/-- A copy placed in the open PDU of transmit stream `n`. -/
def forwardStream (s : State) (n : Nat) (f : CanFrame) (channel : Option Nat) (o : Origin) (budget : Nat) : State :=
  let e := streamOf s n
  match acfRefusal s n, acfCannot e f channel with
  | 0, some why => dropFormat s (64 + n) why f
  | 0, none => bump (appendItem s n ⟨f, channel, o, some ⟨0xFFFE, [], some (o, budget), none, none⟩⟩) Reg.SG_STAT_FWD.value
  | r, _ => badEntry s 11 n r

/-- A copy placed on a target of this device. -/
def forwardLocal (s : State) (target : Nat) (f : CanFrame) (channel : Option Nat) (o : Origin) (budget : Nat) : State :=
  if target < 64 then forwardCan s target f o budget else forwardStream s (target - 64) f channel o budget

/-- The payload of a CAN copy for another device (Table 14.4). -/
def copyPayload (s : State) (target : Nat) (f : CanFrame) (o : Origin) (budget : Nat) : Bytes :=
  let len := dataLength f
  leBytes 1 target ++ leBytes 1 (o.epoch % 16) ++ leBytes 2 budget ++ leBytes 8 (pattern 64 o.dt) ++
    leBytes 4 (if o.unknown then 0xFFFFFFFF else o.u) ++ leBytes 8 (pattern 64 (stepSum s o.epoch)) ++ leBytes 1 o.device ++
    leBytes 1 o.channel ++ zeros 6 ++ leBytes 4 (idWord f) ++ leBytes 4 (fmtWord f o.epoch 0) ++ leBytes 4 f.af ++
    leBytes 4 (len % 4096) ++ padTo len f.data ++ zeros ((4 - len % 4) % 4)

/-- One destination of a list served (R135). -/
def forwardTo (s : State) (d : Nat) (f : CanFrame) (channel : Option Nat) (o : Origin) (budget : Nat) : State :=
  let dev := destDevice d
  let target := destTarget d
  if dev = 0 ∨ dev = ownId s then forwardLocal s target f channel o budget
  else
    let h := fabHeader s 10 (rd s Reg.TF_CTRL.rra_class) dev (copyPayload s target f o budget)
    (fabSend s { h with dual := rdB s Reg.TF_CTRL.dual_sig }).1

/-- Every destination of list entry `e` (index `i`) served in order; a destination that is the frame's own channel is
skipped as a bad entry, and a list that fails the write check is one (R121, R135). -/
def forwardList (s : State) (i e : Nat) (f : CanFrame) (channel : Nat) (o : Origin) : State :=
  match (if i = 0 then 0 else destReason i e) with
  | 0 =>
    (List.range (destCount e)).foldl (fun s k =>
      let d := destAt e k
      if (destDevice d == 0 || destDevice d == ownId s) && destTarget d == channel then badEntry s 5 i 10
      else forwardTo s d f (some channel) o (destBudget e)) s
  | r => badEntry s 5 i r

/-! ### Mirror copies (R195) -/

/-- A frame of channel `n` mirrored where its direction and sampling select it. -/
def mirrorFrame (s : State) (n : Nat) (f : CanFrame) (sof : Nat) (tx : Bool) : State :=
  let on := rdB s (if tx then Reg.SG_MIRROR_CFG.tx else Reg.SG_MIRROR_CFG.rx) n
  let every := rd s Reg.SG_MIRROR_N.n n
  if !on || every = 0 then s
  else
    let seen := Tab.get s.sg.mirrorSeen n 0
    let s := modSg s (fun g => { g with mirrorSeen := Tab.put g.mirrorSeen n ((seen + 1) % every) })
    if seen % every ≠ 0 then s
    else
      let k := rd s Reg.SG_MIRROR_CFG.stream n
      match acfRefusal s k, acfCannot (streamOf s k) f (some n) with
      | 0, none => appendItem s k ⟨f, some n, localOrigin s (canStamp s n sof) sof n, none⟩
      | 0, some _ => bump s Reg.SG_STAT_MIRROR_DROP.value
      | r, _ => badEntry (bump s Reg.SG_STAT_MIRROR_DROP.value) 11 k r

/-- SG_MIRROR_N written: the count restarts; values above 16,777,216 are ignored. -/
def writeMirrorN (n v : Nat) (s : State) : State :=
  let k := bitsOf v 0 25
  if 16777216 < k then s
  else wr (modSg s (fun g => { g with mirrorSeen := Tab.put g.mirrorSeen n 0 })) Reg.SG_MIRROR_N.n k n

/-! ### Triggers (R162–R165) -/

/-- An on-change trigger of a template (R164). -/
def onChange (s : State) (tpl : Nat) : State :=
  let e := tplOf s tpl
  let r := tplRun s tpl
  let hold := Tpl.minInterval e * ms
  if !Tpl.valid e || Tpl.trigger e = 0 || !mayBuild s then s
  else
    match Tab.find r.lastBuild (Tpl.target e) with
    | some b =>
      if Tpl.trigger e ≠ 1 ∧ hold ≠ 0 ∧ s.now < b + hold then
        if r.deferred.isSome then s else modRun s tpl (fun r => { r with deferred := some (b + hold) })
      else triggerBuild s tpl false
    | none => triggerBuild s tpl false

/-- The templates a group of accepted updates triggers through fan-out, each once: `(slot, change)` pairs (R163). -/
def groupTriggers (s : State) (accepted : List (Nat × Bool)) : List Nat :=
  (accepted.foldl (fun (ts : List Nat) (x : Nat × Bool) =>
    (fanOutOf s (slotOf s x.1)).foldl (fun ts i =>
      let e := routeEntry s i
      let t := Route.template e
      if Route.valid e && decide (Route.kind e < 2) && Route.slot e == x.1 && (x.2 || isStaleMapped s t) && !ts.contains t then
        ts ++ [t]
      else ts) ts) [])

/-- A group of updates offered as one (R128), then the records and builds it triggers. -/
def offerGroup (s : State) (us : List Update) : State :=
  let (s, acc) := us.foldl (fun (x : State × List (Nat × Bool)) u =>
    match offerUpdate x.1 u with
    | (s, .older) => (s, x.2)
    | (s, .accepted c) => (s, x.2 ++ [(u.slot, c)])) (s, [])
  let s := acc.foldl (fun s x => queueRecords s x.1) s
  (groupTriggers s acc).foldl onChange s

/-- Slots whose age becomes unknown, each such store a change, to a slot that is so already too (R163, R306). -/
def invalidateSlots (s : State) (ns : List Nat) : State :=
  let s := ns.foldl (fun s n => setSlot s n { slotOf s n with ageUnknown := true }) s
  (groupTriggers s (ns.map (fun n => (n, true)))).foldl onChange s

/-- The cycle anchor A of a template (R162). -/
def anchorOf (s : State) (tpl : Nat) : Option Nat :=
  match (tplRun s tpl).anchor with
  | none => none
  | some a => if rdB s Reg.SG_CTRL.en && rdB s Reg.SG_STATUS.ready then some (max a (max s.sg.enabledAt s.sg.readyAt)) else none

/-- A template's grid anchored now, its offset read from its extension. -/
def anchorNow (s : State) (tpl : Nat) : State :=
  let off := bitsOf (extHeader s (tplOf s tpl)) 64 16
  modRun s tpl (fun r => { r with anchor := some s.now, offset := off * 100000, lastCycle := none, deferred := none })

/-- Every valid template's offset read again, at an anchor all share (R162: en set, or tables ready). -/
def anchorAll (s : State) : State :=
  (s.sg.templates.filter (fun x => Tpl.valid x.2)).foldl (fun s x =>
    let off := bitsOf (extHeader s x.2) 64 16
    modRun s x.1 (fun r => { r with offset := off * 100000, lastCycle := none })) s

/-- The latest cycle instant of a template at or before now. -/
def cycleInstant (s : State) (tpl : Nat) : Option Nat :=
  let p := Tpl.period (tplOf s tpl) * 100000
  match anchorOf s tpl with
  | none => none
  | some a =>
    let first := a + (tplRun s tpl).offset
    if p = 0 ∨ s.now < first then none else some (first + (s.now - first) / p * p)

/-- CYCLE_INSTANT (R162, R165): without effect where no instant of the grid has come that was not taken before. -/
def cycleOp (tpl : Nat) (s : State) : State :=
  let e := tplOf s tpl
  if !Tpl.valid e || (Tpl.trigger e ≠ 0 && Tpl.trigger e ≠ 3) || !rdB s Reg.SG_CTRL.en then s
  else
    match cycleInstant s tpl with
    | none => s
    | some i =>
      if (tplRun s tpl).lastCycle == some i then s
      else
        let s := modRun s tpl (fun r => { r with lastCycle := some i })
        if 2 ≤ powerState s then bump s Reg.SG_STAT_CYC_MISS.value else triggerBuild s tpl true

/-- MIN_INTERVAL_EXPIRED (R164): a deferred build that has fallen due. -/
def minIntervalOp (tpl : Nat) (s : State) : State :=
  match (tplRun s tpl).deferred with
  | none => s
  | some d =>
    if s.now < d then s
    else
      let s := modRun s tpl (fun r => { r with deferred := none })
      triggerBuild s tpl false

end Sys2Proof.Machine
end

