-- ==== Sys2Proof/Machine/Ingress.lean ====
section
/-! DEFINITION. What enters the gateway (R132–R134, R141, R161, R186–R194, R305–R307, R337, R349): CAN route lookup, unpacking,
receive check channels, signal records, CAN copies and receive streams. -/

namespace Sys2Proof.Machine

/-! ### Receive check channels (R305, R306) -/

/-- What a receive check or a secured PDU entry makes of a PDU: offer its slots, offer nothing, or fail, with the failure
handling asked for: slots invalidated, copies blocked. -/
inductive Verdict where
  | ok
  | drop
  | fail (inval block : Bool)
  deriving DecidableEq, Repr

/-- The check of receive PDU `rx` (Table 12.3). -/
def checkReceive (s : State) (rx : Nat) (d : Bytes) : State × Verdict :=
  match ckFor s 0 rx with
  | none => (s, .ok)
  | some n =>
    let e := ckOf s n
    let failed := Verdict.fail (Ck.failInval e) (Ck.failBlock e)
    let ok := fun (s : State) => (bump s Reg.CK_CH_OK.value n, Verdict.ok)
    if d.length < ckReach e then (bump s Reg.CK_CH_SHORT.value n, failed)
    else if Ck.alg e ≠ 7 && ckField e d != ckValue (Ck.alg e) (ckInput e d) then
      (ckEventLimited (bump s Reg.CK_CH_CRC_FAIL.value n) 1 n (fun k => leBytes 2 rx ++ leBytes 8 (ckField e d) ++ leBytes 4 k),
        failed)
    else if Ck.ctrBits e = 0 then ok s
    else
      let m := 2 ^ Ck.ctrBits e
      let got := getRaw d (Ck.ctrStart e) (Ck.ctrBits e) (Ck.ctrOrder e)
      let last := rd s Reg.CK_CH_LAST.last n
      let take := fun (s : State) => wr s Reg.CK_CH_LAST.last got n
      if !rdB s Reg.CK_CH_LAST.synced n || Ck.deltaMax e = 0 then ok (wr (take s) Reg.CK_CH_LAST.synced 1 n)
      else
        let delta := (got + m - last % m) % m
        if delta = 0 then (bump s Reg.CK_CH_REPEAT.value n, .drop)
        else if Ck.deltaMax e < delta then
          (ckEventLimited (bump (take s) Reg.CK_CH_SEQ_ERR.value n) 2 n (fun k => leBytes 2 last ++ leBytes 2 got ++ leBytes 4 k),
            failed)
        else ok (bumpBy (take s) Reg.CK_CH_LOST.value (delta - 1) n)

/-- The secured PDU entry of receive PDU `rx` (R337); a PDU the engine does not take is discarded, no slot offered (R315). A
MAC that does not verify is a tag failure of queue 0 as well (R325). -/
def securedReceive (s : State) (rx : Nat) (d : Bytes) : State × Verdict :=
  match secEntryFor s 0 rx with
  | none => (s, .ok)
  | some n =>
    let e := secPdu s n
    if !canAuthOn s e.slot then (s, .drop)
    else if queueFullNow s 0 then (queueFull s 0, .drop)
    else
      let o := secReceive s e d
      let s := secOutcome s n o
      match o with
      | .ok _ _ => (s, .ok)
      | .duplicate => (s, .drop)
      | .authFail => (tagFailed s 0, .fail e.failInval e.failBlock)
      | _ => (s, .fail e.failInval e.failBlock)

/-- Both checks of a PDU, the secured entry first (R337). -/
def verifyPdu (s : State) (rx : Nat) (d : Bytes) : State × Verdict :=
  match securedReceive s rx d with
  | (s, .ok) => checkReceive s rx d
  | r => r

/-! ### Unpacking (R133, R138, R161) -/

/-- A field of a PDU made into an update of a slot: none where it lies beyond the PDU, which is counted. -/
def fieldUpdate (s : State) (d : Bytes) (f : Field) (slot : Nat) (o : Origin) (index : Nat) (writer : Nat) :
    State × List Update :=
  if f.within d.length then
    let (v, content, c) := readField s d f
    (countClamp s c, [⟨slot, v, content, o, c, writer, index⟩])
  else (bump s Reg.SG_STAT_SHORT.value, [])

/-- The updates of a mode-0 receive PDU. -/
def mode0Updates (s : State) (e : Nat) (d : Bytes) (o : Origin) : State × List Update :=
  (List.range (Rxp.count e)).foldl (fun (x : State × List Update) k =>
    let i := Rxp.first e + k
    let u := Tab.get x.1.sg.unpacks i 0
    if !unpackValid u then x
    else
      match unpackReason x.1 u with
      | 0 =>
        let (s, us) := fieldUpdate x.1 d (unpackField u) (unpackSlot u) o i 0
        (s, x.2 ++ us)
      | r => (badEntry x.1 4 i r, x.2)) (s, [])

/-- The updates of a PDU in the layout of template `t`: the fields of its kind-1 routes into their partners' slots, `origin`
giving each position's origin, none to leave it unpacked (R133, R138, R193). -/
def mode1Updates (s : State) (t : Nat) (d : Bytes) (origin : Nat → Option Origin) : State × List Update :=
  let e := tplOf s t
  (List.range (Tpl.count e)).foldl (fun (x : State × List Update) k =>
    let i := Tpl.first e + k
    let r := routeEntry x.1 i
    if !Route.valid r || Route.kind r != 1 || Route.template r != t then x
    else
      let f := Route.field r
      let slot := Route.slot (routeEntry x.1 (Route.partner r))
      match (match routeReason x.1 (routeEntry x.1) i r with
        | 0 => if kindMatches (slotOf x.1 slot) f then 0 else 5
        | reason => reason) with
      | reason + 1 => (badEntry x.1 1 i (reason + 1), x.2)
      | 0 =>
        match origin k with
        | none => x
        | some o =>
          let (s, us) := fieldUpdate x.1 d f slot o i 1
          (s, x.2 ++ us)) (s, [])

/-- The origins the age fields of template `t` give a received PDU's positions: `(source, age)` of each applied, none for an
unknown age (R161). -/
def receivedAges (s : State) (t : Nat) (d : Bytes) : State × List (Nat × Option Nat) :=
  (ageFields s (tplOf s t)).foldl (fun (x : State × List (Nat × Option Nat)) a =>
    let f : Field := ⟨a.start, a.len, 0, a.be, 0⟩
    if f.within d.length then
      (bump x.1 Reg.SG_STAT_RX_AGE.value, x.2 ++ [(a.source, statedAge a (getRaw d a.start a.len a.be))])
    else (bump x.1 Reg.SG_STAT_SHORT.value, x.2)) (s, [])

/-- The origin of position `k`: the stamp less the age of the field that covers it, its own before 0x3FF. -/
def agedOrigin (ages : List (Nat × Option Nat)) (o : Origin) (k : Nat) : Origin :=
  let cover := (ages.find? (fun a => a.1 == k)).orElse (fun _ => ages.find? (fun a => a.1 == 0x3FF))
  match cover with
  | none => o
  | some (_, none) => { o with unknown := true }
  | some (_, some ns) => { o with dt := o.dt - (ns : Int) }

/-- The verdict on a PDU carried out on the updates its unpack made (R306); tells whether its copies are blocked. -/
def settlePdu (s : State) (v : Verdict) (us : List Update) : State × Bool :=
  match v with
  | .ok => (offerGroup s us, false)
  | .drop => (s, false)
  | .fail inval block => (if inval then invalidateSlots s (us.map (fun u => u.slot)) else s, block)

/-- A PDU unpacked through receive PDU `rx`, whose copied entry is `e`: `d` is the frame's data from its first byte on (R133,
R134). -/
def unpackPdu (s : State) (rx e : Nat) (d : Bytes) (o : Origin) : State × Bool :=
  let d := d.drop (Rxp.offset e)
  if rxPduReason e ≠ 0 then (badEntry s 3 rx (rxPduReason e), false)
  else
    let s := bump s Reg.SG_STAT_UNPACK.value
    let (s, us) :=
      if Rxp.mode e = 0 then mode0Updates s e d o
      else
        let (s, ages) := receivedAges s (Rxp.first e) d
        mode1Updates s (Rxp.first e) d (fun k => some (agedOrigin ages o k))
    let (s, v) := verifyPdu s rx d
    settlePdu s v us

/-! ### The offer to the CAN route table (R132) -/

/-- A frame offered as received on channel `n` with origin `o`. -/
def canOffer (s : State) (n : Nat) (f : CanFrame) (o : Origin) : State :=
  if !rdB s Reg.SG_CTRL.en then s
  else
    match canrtFind s (keyWord f) n with
    | none => bump (bump s Reg.SG_STAT_CAN_MISS.value) Reg.SG_CAN_MISS.miss n
    | some i =>
      let s := bump s Reg.SG_STAT_CAN_HIT.value
      let e := canrtAt s i
      let remote := f.rtr && f.fmt == 0
      let rx := Canrt.rxPdu e
      let list := destList s (Canrt.list e)
      let (s, blocked) :=
        if Canrt.unpack e && rdB s Reg.SG_CTRL.unpack_en && !remote then
          if Rxp.valid (rxPduOf s rx) then unpackPdu s rx (rxPduOf s rx) (padTo (dataLength f) f.data) o
          else (badEntry s 2 i 10, false)
        else (s, false)
      if blocked then s else forwardList s (Canrt.list e) list f n o

/-! ### From other devices (R141, R349) -/

/-- The origin a record or copy from another device carries, in this device's epoch: origin and step_corr at `off` and
`off + 12`, u_origin between them (R141). -/
def carriedOrigin (s : State) (p : Bytes) : Origin :=
  let dt := signed 64 (leAt p 4 8) + signed 64 (leAt p 16 8)
  let u := leAt p 12 4
  ⟨dt, rd s Reg.DT_STATUS.epoch, u, byteAt p 24 % 64, byteAt p 25, true, u == 0xFFFFFFFF⟩

/-- SIGNAL_RECORD_RECEIVED (R141). -/
def recordReceived (device : Nat) (p : Bytes) (s : State) : State :=
  let n := leAt p 0 2
  let x := slotOf s n
  let vlen := leAt p 26 2
  let want := match x.kind with
    | 1 => 4
    | 3 => x.bytesLen
    | _ => 8
  let s := bump s Reg.SG_STAT_RMT_RX.value
  if p.length < 32 || byteAt p 2 % 4 ≠ x.kind || vlen ≠ want then bump s Reg.SG_STAT_BAD_ENTRY.value
  else offerGroup s [⟨n, leAt p 32 (min vlen 8), sliceBytes p 32 vlen, carriedOrigin s p, false, 2, device⟩]

/-- CAN_COPY_RECEIVED (R349). -/
def copyReceived (p : Bytes) (s : State) : State :=
  let o := carriedOrigin s p
  let len := bitsOf (leAt p 44 4) 0 12
  if p.length < 48 + len then bump s Reg.SG_STAT_BAD_ENTRY.value
  else
    let f := frameOf (leAt p 32 4) (leAt p 36 4) (leAt p 40 4) (sliceBytes p 48 len)
    forwardLocal s (byteAt p 0 % 128) f (some o.channel) o (leAt p 2 2)

/-! ### Receive streams (R186–R194) -/

/-- A stream frame discarded for a reason of event 0x000D; `inst` is its receive stream, 0xFFFF where none matched. A subtype
other than 0x82 matches none (R186). -/
def streamBad (s : State) (inst reason : Nat) : State :=
  let s := bump s (if reason = 1 ∨ reason = 5 then Reg.SG_STAT_STRM_MISS.value else Reg.SG_STAT_STRM_BAD.value)
  sgEventLimited s 13 inst 1 (fun k => leBytes 1 reason ++ leBytes 4 k)

/-- What an Ethernet frame brings to the receive streams: its encapsulation, whether a bundle or an AVTP PDU, its bytes, and
what is wrong with the packet around them. -/
structure StreamFrame where
  encap : Nat
  bundle : Bool
  data : Bytes
  fragment : Bool
  checksum : Bool
  overrun : Bool
  deriving DecidableEq, Repr

/-- The UDP datagram of an IP packet, read as far as it goes; a non-zero checksum must hold. `cut` tells that the packet's own
lengths overrun. -/
def udpStream (encap : Nat) (pseudo udp : Bytes) (fragment cut : Bool) : StreamFrame :=
  let len := beAt udp 4 2
  let overrun := cut || decide (len < 8) || decide (udp.length < len)
  let dgram := if overrun then udp else udp.take len
  { encap := encap
    bundle := beAt udp 2 2 != 17220
    data := dgram.drop 8
    fragment := fragment
    checksum := !overrun && !fragment && beAt udp 6 2 != 0 && inetSum (pseudo ++ dgram) != 0
    overrun := overrun }

/-- The stream frame in an Ethernet frame, given from its destination address to its last data byte; none where there is
nothing an entry could match: another protocol, or a later fragment. PRESUMED from the protocols' standards: where their fields
lie (assumption 31). -/
def streamPayload (frame : Bytes) : Option StreamFrame :=
  let d := frame.drop 12
  let d := if beAt d 0 2 = 0x8100 || beAt d 0 2 = 0x88A8 then d.drop 4 else d
  let d := if beAt d 0 2 = 0x8100 then d.drop 4 else d
  let p := d.drop 2
  match beAt d 0 2 with
  | 0x0800 =>
    let ihl := byteAt p 0 % 16 * 4
    let total := beAt p 2 2
    let udp := (p.take total).drop ihl
    if byteAt p 9 ≠ 17 || bitsOf (beAt p 6 2) 0 13 ≠ 0 then none
    else
      some (udpStream 1 (sliceBytes p 12 8 ++ beBytes 2 17 ++ beBytes 2 (beAt udp 4 2)) udp (bitSet (beAt p 6 2) 13)
        (decide (p.length < total) || decide (total < ihl + 8) || decide (ihl < 20)))
  | 0x86DD =>
    let len := beAt p 4 2
    let cut := decide (p.length < 40 + len)
    let body := (p.drop 40).take len
    let pseudo := fun (udp : Bytes) => sliceBytes p 8 32 ++ beBytes 4 (beAt udp 4 2) ++ beBytes 4 17
    if byteAt p 6 = 17 then some (udpStream 2 (pseudo body) body false cut)
    else if byteAt p 6 = 44 && byteAt body 0 = 17 && beAt body 2 2 / 8 = 0 then
      some (udpStream 2 (pseudo (body.drop 8)) (body.drop 8) true cut)
    else none
  | t =>
    if t = 0x22F0 then some ⟨0, false, p, false, false, false⟩
    else if t = 0x88B6 then some ⟨0, true, p, false, false, false⟩
    else none

/-- What a matched frame is discarded for, 0 for nothing, in the order of R186's list; `version` tells a wrong sv or version,
`short` a length field of its own that overruns. -/
def StreamFrame.fault (x : StreamFrame) (e : Nat) (version short : Bool) : Nat :=
  if Strm.encap e ≠ x.encap then 2
  else if x.fragment then 7
  else if x.checksum then 4
  else if version then 3
  else if x.overrun || short then 2
  else 0

/-- The lowest valid receive entry of a kind class (bundle or ACF) and id; entries on the way that DMA has left as the write check
would not have them are bad entries, not valid for this use (R121, R186). -/
def rxStreamFor (s : State) (bundle : Bool) (id : Nat) : State × Option Nat :=
  let form := fun (i : Nat) => streamForm s (64 + i) (streamOf s (64 + i))
  let claims := (List.range 64).filter (fun i =>
    let e := streamOf s (64 + i)
    Strm.valid e && (Strm.kind e == 2) == bundle && Strm.key e == id)
  ((claims.takeWhile (fun i => form i != 0)).foldl (fun s i => badEntry s 11 (64 + i) (form i)) s,
    claims.find? (fun i => form i == 0))

/-- The run-time state of receive stream `i`. -/
def streamRxOf (s : State) (i : Nat) : StreamRx := Tab.get s.sg.streamRx i ⟨0, none⟩

/-- The sequence test of receive stream `i` for an `n`-bit sequence (R187); tells whether the PDU is accepted. -/
def seqTest (s : State) (i n seq : Nat) : State × Bool :=
  let e := streamOf s (64 + i)
  let r := streamRxOf s i
  let accept := fun (s : State) =>
    let s := modSg s (fun g => { g with streamRx := Tab.put g.streamRx i ⟨seq, some s.now⟩ })
    (bump (wr s Reg.SG_RXSTRM_SEQ.seq seq i) Reg.SG_STAT_STRM_RX.value, true)
  match r.acceptedAt with
  | none => accept s
  | some t =>
    if !Strm.seqCheck e || t + sec ≤ s.now then accept s
    else
      let d := (seq + 2 ^ n - r.last) % 2 ^ n
      if d = 0 ∨ 2 ^ (n - 1) ≤ d then (bump s Reg.SG_STAT_STRM_OOO.value, false)
      else
        let s := bumpBy (bumpBy s Reg.SG_RXSTRM_GAP.lost (d - 1) i) Reg.SG_STAT_STRM_GAP.value (d - 1)
        let s := if d = 1 then s else
          sgEventLimited s 12 i (d - 1) (fun k => leBytes 4 k ++ leBytes 4 seq)
        accept s

/-- The ACF messages of a body: type, header and payload of each; none where a length overruns it. -/
def acfMessages : Nat → Bytes → Option (List (Nat × Bytes))
  | 0, _ => some []
  | fuel + 1, d =>
    if d.isEmpty then some []
    else
      let w := beAt d 0 2
      let len := 4 * (w % 512)
      if len = 0 || d.length < len then none
      else (acfMessages fuel (d.drop len)).map (fun ms => (w / 512, d.take len) :: ms)

/-- The origin of an ACF message (R188). `full` tells an ACF-CAN message; `port` is the origin channel of the arrival. -/
def acfOrigin (s : State) (e : Nat) (m : Bytes) (full : Bool) (stamp t port : Nat) : Origin :=
  let mtv := full && bitSet (byteAt m 2) 5
  if Strm.useTs e && mtv && dtSynced s then
    ⟨min (beAt m 4 8 : Int) (stamp : Int), epochAt s t, Strm.allow e, ownId s, port, true, false⟩
  else
    ⟨(stamp : Int) - (Strm.assumed e * 100000 + Strm.allow e : Nat), epochAt s t, 0, ownId s, port, false,
      Strm.assumed e == 0xFFFF⟩

/-- One ACF message carried out (R182, R189). -/
def acfReceive (s : State) (i : Nat) (x : Nat × Bytes) (stamp t port : Nat) : State :=
  let e := streamOf s (64 + i)
  let (typ, m) := x
  let bad := bump s Reg.SG_STAT_STRM_BAD.value
  let hdr := if typ = 1 then 16 else 8
  let pad := bitsOf (byteAt m 2) 6 2
  if (typ ≠ 1 ∧ typ ≠ 2) ∨ m.length < hdr + pad then bad
  else
    let flags := byteAt m 2
    let data := (m.take (m.length - pad)).drop hdr
    let fd := bitSet flags 1
    let ch := Strm.rxBase e + byteAt m 3 % 32
    let xtd := bitSet flags 3
    let id := beAt m (hdr - 4) 4 % (if xtd then 2 ^ 29 else 2 ^ 11)
    if 63 < ch ∨ (if fd then isFdLength data.length = false else 8 < data.length) then bad
    else
      let f : CanFrame := ⟨b2n fd, id, xtd, bitSet flags 4 && !fd, bitSet flags 2 && fd, bitSet flags 0,
        if fd then fdCode data.length else data.length, false, 0, 0, 0, data⟩
      let o := acfOrigin s e m (typ == 1) stamp t port
      if Strm.rxMode e = 0 then canOffer s ch f o else forwardCan s ch f o (Strm.budget e)

/-- A received AVTP PDU (R181, R186). -/
def avtpReceive (s : State) (x : StreamFrame) (stamp t port : Nat) : State :=
  let p := if x.encap = 0 then x.data else x.data.drop 4
  if p.length < 12 then streamBad s 0xFFFF 1
  else if byteAt p 0 ≠ 0x82 then streamBad s 0xFFFF 5
  else
    match rxStreamFor s false (beAt p 4 8) with
    | (s, none) => streamBad s 0xFFFF 1
    | (s, some i) =>
      let len := beAt p 1 2 % 2048
      match x.fault (streamOf s (64 + i)) (byteAt p 1 / 16 != 8) (decide (p.length < 12 + len)) with
      | 0 =>
        match acfMessages 512 ((p.drop 12).take len) with
        | none => streamBad s i 2
        | some ms =>
          match seqTest s i 8 (byteAt p 3) with
          | (s, false) => s
          | (s, true) => ms.foldl (fun s m => acfReceive s i m stamp t port) s
      | r => streamBad s i r

/-- The origin of a bundle's position from its descriptor; none where its field is left unpacked (R193, R194). -/
def bundleOrigin (s : State) (e : Nat) (both : Bool) (d : Bytes) (stamp t port : Nat) : Option Origin :=
  let flags := byteAt d 2
  let age := beAt d 6 2
  let u := beAt d 8 4
  let unknown := bitSet flags 2 || u == 0xFFFFFFFF || age == 0xFFFF
  if !bitSet flags 0 || bitSet flags 4 then none
  else if both then
    some ⟨min (signed 64 (beAt d 12 8)) (stamp : Int), epochAt s t, u, byteAt d 3 % 64, byteAt d 4, true, unknown⟩
  else
    some ⟨(stamp : Int) - ((age + 1) * 100000 - 1 + Strm.allow e : Nat), epochAt s t, 0, ownId s, port, false, unknown⟩

/-- A received bundle (R186, R193, R194). -/
def bundleReceive (s : State) (x : StreamFrame) (stamp t port : Nat) : State :=
  let p := x.data
  if p.length < 8 then streamBad s 0xFFFF 1
  else
    match rxStreamFor s true (beAt p 4 4) with
    | (s, none) => streamBad s 0xFFFF 1
    | (s, some i) =>
      let e := streamOf s (64 + i)
      let n := beAt p 2 2
      let l := beAt p 14 2
      let rx := rxPduOf s (Strm.rxPdu e)
      let tpl := Rxp.first rx
      match x.fault e false (beAt p 0 2 != 1 || decide (p.length < 32 + 20 * n + l)) with
      | 0 =>
        if n ≠ Tpl.count (tplOf s tpl) || l ≠ Tpl.length (tplOf s tpl) then streamBad s i 6
        else
          match seqTest s i 32 (beAt p 8 4) with
          | (s, false) => s
          | (s, true) =>
            let both := bitSet (byteAt p 12) 0 && dtSynced s
            let data := sliceBytes p (32 + 20 * n) l
            let s := bump s Reg.SG_STAT_UNPACK.value
            let (s, us) := mode1Updates s tpl (data.drop (Rxp.offset rx)) (fun k =>
              bundleOrigin s e both (sliceBytes p (32 + 20 * k) 20) stamp t port)
            let (s, v) := verifyPdu s (Strm.rxPdu e) (data.drop (Rxp.offset rx))
            (settlePdu s v us).1
      | r => streamBad s i r

/-- A frame delivered to SGW that its classification gives to the receive streams (R186); `frame` runs from its destination
address to its last data byte, `port` is its origin channel (64–75, 127 for a Tyeth link). -/
def streamReceive (s : State) (frame : Bytes) (stamp t port : Nat) : State :=
  if !rdB s Reg.SG_CTRL.en then s
  else
    match streamPayload frame with
    | none => streamBad s 0xFFFF 1
    | some x => if x.bundle then bundleReceive s x stamp t port else avtpReceive s x stamp t port

/-- A frame delivered to SGW whose classification names receive PDU `rx` (R134): `payload` from its payload offset on. -/
def pduReceive (s : State) (rx : Nat) (payload : Bytes) (stamp t port : Nat) : State :=
  let e := rxPduOf s rx
  if !rdB s Reg.SG_CTRL.en || !rdB s Reg.SG_CTRL.unpack_en then s
  else if !Rxp.valid e then badEntry s 3 rx 10
  else (unpackPdu s rx e payload (localOrigin s stamp t port)).1

end Sys2Proof.Machine
end

