-- ==== Sys2Proof/Machine/Gateway.lean ====
section
/-! DEFINITION. The signal gateway's commands (Tables 5.16, 6.9 and 12.7), its memory of byte-array blocks, and the rows of
chapters 5 to 7 and 12. -/

namespace Sys2Proof.Machine

/-! ### The byte-array area (R127, R157) -/

/-- Whether `n` blocks from `b` are free. -/
def runFree (runs : Tab Nat) (b n : Nat) : Bool :=
  decide (b + n ≤ 16384) && !runs.any (fun r => decide (r.1 < b + n) && decide (b < r.1 + r.2))

/-- The first fit for `n` blocks from block 0: runs begin at block 0 or where another ends; `noLast` keeps a run off block
16,383. -/
def firstFit (runs : Tab Nat) (n : Nat) (noLast : Bool) : Option Nat :=
  let starts := 0 :: runs.map (fun r => r.1 + r.2)
  leastBy id (starts.filter (fun b => runFree runs b n && !(noLast && b == 16383)))

/-- Free blocks of the area. -/
def freeBlocks (s : State) : Nat := 16384 - (s.sg.runs.map (fun r => r.2)).sum

/-- The longest contiguous free run. -/
def longestRun (s : State) : Nat :=
  let starts := 0 :: s.sg.runs.map (fun r => r.1 + r.2)
  let stops := 16384 :: s.sg.runs.map (fun r => r.1)
  (starts.map (fun b => ((stops.filter (fun e => decide (b ≤ e))).foldl min 16384) - b)).foldl max 0

/-- A run allocated. -/
def allocRun (s : State) (b n : Nat) : State := modSg s (fun g => { g with runs := Tab.put g.runs b n })

/-- A run freed. -/
def freeRun (s : State) (b : Nat) : State := modSg s (fun g => { g with runs := Tab.del g.runs b })

/-! ### Table writes (R121, R143, R155, R162, R171) -/

/-- What follows from a template entry having changed from `old` to `new`: its grid takes a new anchor, or stops with its
triggers and its wait. -/
def templateChanged (s : State) (i old new : Nat) : State :=
  let moved := Tpl.target old != Tpl.target new || Tpl.trigger old != Tpl.trigger new || Tpl.period old != Tpl.period new ||
    Tpl.first old != Tpl.first new || Tpl.count old != Tpl.count new
  if Tpl.valid new then if !Tpl.valid old || moved then anchorNow s i else s
  else
    let s := if Tpl.target old < 64 then dropWaiter s (Tpl.target old) i else s
    modRun s i (fun r => { r with anchor := none, deferred := none })

/-- Entry `e` stored at index `i` of table `t`, by command or table DMA: a template keeps its extension and notes its target
stream's kind (R180), conversion 0 and list 0 keep theirs, a stream that becomes valid starts its sequence anew. -/
def tableStore (s : State) (t i e : Nat) : State :=
  match t with
  | 8 =>
    let old := tplOf s i
    let e := setBits e 96 14 (Tpl.ext old)
    let s := templateChanged (tablePut s 8 i e) i old e
    modRun s i (fun r => { r with streamKind := Strm.kind (streamOf s (Tpl.target e - 64)) })
  | 11 =>
    let fresh := decide (64 ≤ i) && Strm.valid e && !Strm.valid (streamOf s i)
    let s := tablePut s 11 i e
    if fresh then modSg s (fun g => { g with streamRx := Tab.put g.streamRx (i - 64) ⟨0, none⟩ }) else s
  | _ => tablePut s t i e

/-- Whether the partnerships route `i` is part of hold once `get` gives the routes (R138): its own, and that of every valid kind-1
route stored that names it. -/
def pairsHold (s : State) (get : Nat → Nat) (i : Nat) : Bool :=
  let holds := fun (j : Nat) =>
    let e := get j
    !(Route.valid e && Route.kind e == 1) || partnerOk get j e
  let names := fun (j : Nat) => Route.valid (get j) && Route.kind (get j) == 1 && Route.partner (get j) == i
  holds i && s.sg.routes.all (fun x => !names x.1 || holds x.1)

/-- The failing reason of entry `e` at index `i` of table `t`; `after` gives the table's entries after the command, which writes
`first` to `first + n - 1`. -/
def writeReason (s : State) (t i e : Nat) (after : Nat → Nat) (first n : Nat) : Nat :=
  match t with
  | 1 =>
    match routeReason s after i e with
    | 0 => if pairsHold s after i then 0 else 6
    | r => if 6 < r && !pairsHold s after i then 6 else r
  | 2 => canrtReasonAt s after ((s.sg.canRoutes.map (fun x => x.1)) ++ (List.range n).map (fun k => first + k)) i e
  | 3 => rxPduReason e
  | 4 => unpackReason s e
  | 5 => destReason i e
  | 6 => convReason i e
  | 8 => tplReason s i e
  | 11 => streamReason s after i e
  | _ => 0

/-- SG_TABLE_WRITE (R143, R146). -/
def opTableWrite (p : Bytes) (s : State) : CmdAnswer :=
  let t := byteAt p 0
  let n := leAt p 2 2
  let first := leAt p 4 4
  let size := SgTables.size t
  let entry := fun (k : Nat) => leAt p (16 + k * size) size
  let after := fun (i : Nat) => if first ≤ i ∧ i < first + n then entry (i - first) else tableGet s t i
  let result := fun (i r : Nat) => leBytes 4 i ++ leBytes 1 r ++ zeros 3
  if p.length < 16 then fail s stBadLength
  else if !SgTables.written t || byteAt p 1 ≠ 0 || leAt p 8 8 ≠ 0 then (s, some (stBadParam, result 0xFFFFFFFF 0))
  else if p.length ≠ 16 + n * size then fail s stBadLength
  else if SgTables.count t < first + n then (s, some (stNoSpace, result 0xFFFFFFFF 0))
  else
    let reason := fun (k : Nat) => writeReason s t (first + k) (entry k) after first n
    match firstFrom (fun k => reason k != 0) 0 n with
    | some k => (s, some (stBadParam, result (first + k) (reason k)))
    | none =>
      okay ((List.range n).foldl (fun s k => tableStore s t (first + k) (entry k)) s) (result 0xFFFFFFFF 0)

/-- SG_TABLE_READ (R146). -/
def opTableRead (p : Bytes) (s : State) : CmdAnswer :=
  let t := byteAt p 0
  let n := leAt p 2 2
  let first := leAt p 4 4
  let size := SgTables.size t
  if p.length ≠ 8 then fail s stBadLength
  else if size = 0 || byteAt p 1 ≠ 0 || 4096 < n * size || SgTables.count t < first + n then fail s stBadParam
  else okay s (((List.range n).map (fun k => leBytes size (tableGet s t (first + k)))).flatten)

/-- SG_CANRT_ADD (R131). -/
def opCanrtAdd (p : Bytes) (s : State) : CmdAnswer :=
  let e := leNat p
  let key := Canrt.key e
  let ch := Canrt.channel e
  let (b1, b2) := canrtBuckets key ch
  let free := fun (b : Nat) => firstFrom (fun i => !Canrt.valid (canrtAt s i)) (8 * b) 8
  if p.length ≠ 8 then fail s stBadLength
  else if !Canrt.valid e || canrtReason s e ≠ 0 then fail s stBadParam
  else
    match (canrtFind s key ch).orElse (fun _ => (free b1).orElse (fun _ => free b2)) with
    | some i => okay (tablePut s 2 i e) (leBytes 4 i)
    | none => fail (sgEvent s 1 ch (leBytes 4 key ++ leBytes 2 b1 ++ leBytes 2 b2)) stNoSpace

/-- SG_CANRT_DEL (R131). -/
def opCanrtDel (p : Bytes) (s : State) : CmdAnswer :=
  if p.length ≠ 8 then fail s stBadLength
  else if 63 < byteAt p 4 then fail s stNotFound
  else
    match canrtFind s (leAt p 0 4) (byteAt p 4) with
    | none => fail s stNotFound
    | some i => okay (tablePut s 2 i (clrBit (canrtAt s i) 63)) (leBytes 4 i)

/-- SG_CANRT_FIND. -/
def opCanrtFind (p : Bytes) (s : State) : CmdAnswer :=
  if p.length ≠ 8 then fail s stBadLength
  else if 63 < byteAt p 4 then fail s stNotFound
  else
    match canrtFind s (leAt p 0 4) (byteAt p 4) with
    | none => fail s stNotFound
    | some i => okay s (leBytes 4 i ++ leBytes 8 (canrtAt s i))

/-! ### Slots (R126, R127, R146) -/

/-- Whether a valid unpack entry or signal route names slot `n` (R127). -/
def slotNamed (s : State) (n : Nat) : Bool :=
  s.sg.unpacks.any (fun x => unpackValid x.2 && unpackSlot x.2 == n) ||
    s.sg.routes.any (fun x => Route.valid x.2 && Route.slot x.2 == n)

/-- Slot `n` configured: everything but kind and fan-out cleared, a BYTES slot given two halves (R127). -/
def configSlot (s : State) (n kind fanFirst fanCount len : Nat) : State × Option Nat :=
  let half := ceilDiv len 64
  let old := slotOf s n
  let release := fun (s : State) => if old.kind = 3 && old.bytesLen != 0 then freeRun s old.block else s
  let x : Slot := { Slot.blank with kind := kind, fanFirst := fanFirst, fanCount := fanCount }
  if kind = 3 then
    match firstFit s.sg.runs (2 * half) false with
    | none => (s, none)
    | some b =>
      let s := release (allocRun s b (2 * half))
      (setSlot s n { x with value := b + len * 2 ^ 14 }, some b)
  else (setSlot (release s) n x, some 0)

/-- SG_SLOT_CONFIG (R127). -/
def opSlotConfig (p : Bytes) (s : State) : CmdAnswer :=
  let n := leAt p 0 2
  let kind := byteAt p 2
  let len := leAt p 8 2
  if p.length ≠ 16 then fail s stBadLength
  else if 3 < kind || byteAt p 3 ≠ 0 || !zeroAt p 10 6 || slotNamed s n || (kind == 3 && (len == 0 || decide (2048 < len))) then
    fail s stBadParam
  else
    match configSlot s n kind (leAt p 4 2) (leAt p 6 2) len with
    | (s, none) => fail s stNoSpace
    | (s, some b) => okay s (leBytes 4 b)

/-- SG_SLOT_READ. -/
def opSlotRead (p : Bytes) (s : State) : CmdAnswer :=
  if p.length ≠ 4 then fail s stBadLength
  else
    let x := slotOf s (leAt p 0 2)
    okay s (slotImage x ++ (if x.kind = 3 then slotBytes s x else []))

/-- SG_SLOT_WRITE (R33, R128): a host value offered. -/
def opSlotWrite (p : Bytes) (s : State) : CmdAnswer :=
  let n := leAt p 0 2
  let flags := byteAt p 2
  let vlen := leAt p 4 2
  let x := slotOf s n
  let want := match x.kind with
    | 1 => 4
    | 3 => x.bytesLen
    | _ => 8
  if p.length < 24 || p.length ≠ 24 + vlen then fail s stBadLength
  else if 1 < flags || 15 < byteAt p 3 || !zeroAt p 6 2 || !zeroAt p 16 8 || vlen ≠ want then fail s stBadParam
  else
    let dt : Int := if flags = 1 then hostOrigin s (signed 64 (leAt p 8 8)) (byteAt p 3) else (dtNow s : Int)
    let o : Origin := { localOrigin s 0 s.now 126 with dt := dt, u := 0 }
    let u : Update := ⟨n, leAt p 24 (min vlen 8), sliceBytes p 24 vlen, o, false, 3, 0⟩
    let before := (slotOf s n).uc
    let s := offerGroup s [u]
    okay s (leBytes 1 (b2n ((slotOf s n).uc != before)) ++ zeros 3)

/-- SG_ND_CLR (R129). -/
def ndClear (n : Nat) (s : State) : State := setSlot s n { slotOf s n with nd := false }

/-! ### Templates (R157, R175) -/

/-- SG_TPL_TRIGGER: a build at once, never a waiter; a build refused is counted and reported as any other (R167, R168). During a
rebuild of the template's element the build, and the reply with it, waits for the end of the rebuild (R170). -/
def opTplTrigger (c : Call) (p : Bytes) (s : State) : CmdAnswer :=
  let n := leAt p 0 2
  let bits := fun (a b c : Nat) => leBytes 1 a ++ leBytes 1 b ++ leBytes 1 c ++ zeros 1
  if p.length ≠ 4 then fail s stBadLength
  else if 16383 < n || !zeroAt p 2 2 then (s, some (stBadParam, bits 0 0 0))
  else if !Tpl.valid (tplOf s n) then fail s stNotFound
  else if !mayBuild s then (s, some (stDenied, bits 0 0 0))
  else if tplRebuilding s n then (holdTrigger s n (.command c), none)
  else
    match buildTemplate (leaveIdle s) n with
    | (s, .new) => okay s (bits 1 0 0)
    | (s, .rewritten) => okay s (bits 0 1 0)
    | (s, .suppressed) => (s, some (stStale, bits 0 0 1))
    | (s, .full) => (countRefused s (Tpl.target (tplOf s n)) true, some (stNoSpace, bits 0 0 0))
    | (s, .noToken) => (countRefused s (Tpl.target (tplOf s n)) false, some (stBusy, bits 0 0 0))
    | (s, .discarded) => (s, some (stBadParam, bits 0 0 0))
    | (s, .nothing) => (s, some (stBadParam, bits 0 0 0))

/-- A trigger that waited for the end of a rebuild (R170). -/
def runTrigger (s : State) (x : Nat × Trigger) : State :=
  match x.2 with
  | .change => triggerBuild s x.1 false
  | .cycle => triggerBuild s x.1 true
  | .command c => answer 0x3030 c (opTplTrigger c (leBytes 2 x.1 ++ zeros 2) s)

/-- The triggers whose template's rebuild has ended, in order of arrival. -/
def runHeld (s : State) : State :=
  let due := s.sg.held.filter (fun x => !tplRebuilding s x.1)
  due.foldl runTrigger (modSg s (fun g => { g with held := g.held.filter (fun x => !due.contains x) }))

/-- What the changes of a row leave due in the gateway: the triggers held, the channels' next candidates and waiters. -/
def serveAll (s : State) : State :=
  let s := if s.sg.held.isEmpty then s else runHeld s
  (dueChannels s).foldl (fun s n => serve n s) s

/-- Reason 18 of Table 6.8 on an extension of template entry `e`. -/
def extensionBad (e : Nat) (h : Nat) : Bool :=
  let bad := fun (w : Nat) =>
    let a := ageFieldOf w
    decide (16 < a.len) ||
      (a.len != 0 && (decide (8 * Tpl.length e ≤ a.start) || decide (8 * Tpl.length e ≤ endPos a.start a.len a.be) ||
        (a.source != 0x3FF && decide (Tpl.count e ≤ a.source))))
  bad (h % 2 ^ 32) || bad (h / 2 ^ 32 % 2 ^ 32) ||
    ((Tpl.trigger e == 0 || Tpl.trigger e == 3) && decide (Tpl.period e ≤ bitsOf h 64 16)) ||
    (Tpl.fmt e != 2 && h / 2 ^ 80 != 0)

/-- The extension of template `n` installed from its content, or removed (R157). -/
def setExtension (s : State) (n : Nat) (content : Option Bytes) : State × Option Nat :=
  let e := tplOf s n
  let release := fun (s : State) => if Tpl.ext e = 0x3FFF then s else freeRun s (Tpl.ext e)
  match content with
  | none => (release (tablePut s 8 n (setBits e 96 14 0x3FFF)), some 0x3FFF)
  | some c =>
    let k := ceilDiv c.length 64
    match firstFit s.sg.runs k true with
    | none => (s, none)
    | some b =>
      let s := allocRun s b k
      let s := { s with ba := Memory.writeBytes s.ba (64 * b) c }
      (release (tablePut s 8 n (setBits e 96 14 b)), some b)

/-- SG_TPL_EXT (R157, R175). -/
def opTplExt (p : Bytes) (s : State) : CmdAnswer :=
  let n := leAt p 0 2
  let e := tplOf s n
  let kept := fun (reason : Nat) => leBytes 2 (Tpl.ext e) ++ leBytes 1 reason ++ zeros 1
  if p.length < 8 || (p.length ≠ 8 && p.length < 24) then (s, some (stBadLength, kept 0))
  else if 16383 < n || !zeroAt p 2 6 then (s, some (stBadParam, kept 18))
  else if !Tpl.valid e then (s, some (stNotFound, kept 0))
  else if p.length = 8 then
    match setExtension s n none with
    | (s, b) => okay s (leBytes 2 (b.getD 0x3FFF) ++ zeros 2)
  else if p.length ≠ 24 + Tpl.length e then (s, some (stBadLength, kept 0))
  else if extensionBad e (leAt p 8 16) then (s, some (stBadParam, kept 18))
  else
    match setExtension s n (some (p.drop 8)) with
    | (s, some b) => okay s (leBytes 2 b ++ zeros 2)
    | (s, none) => (s, some (stNoSpace, kept 0))

/-- SG_AGE_QUERY (R175). -/
def opAgeQuery (p : Bytes) (s : State) : CmdAnswer :=
  if p.length ≠ 8 then fail s stBadLength
  else
    let b := leAt p 2 2
    let age := ageAt s (slotOf s (leAt p 0 2)).originOf s.now
    let verdict := if b = 0xFFFF then 2 else b2n (isStale b age)
    okay s (leBytes 8 (age.getD (2 ^ 64 - 1)) ++ leBytes 2 (pips age) ++ leBytes 1 verdict ++ zeros 5)

/-! ### Check channels (R301, R307, R309, R311) -/

/-- Table 12.5's lowest failing reason for entry `e` of channel `n`. -/
def ckReason (s : State) (n e : Nat) : Nat :=
  let dir := Ck.dir e
  let target := Ck.target e
  let valid := if dir = 1 then Tpl.valid (tplOf s target) else decide (target < 8192) && Rxp.valid (rxPduOf s target)
  let taken := s.sg.checks.any (fun x => x.1 != n && Ck.valid x.2 && Ck.dir x.2 == dir && Ck.target x.2 == target)
  let w := ckWidth (Ck.alg e) / 8
  let inCheck := fun (b : Nat) => decide (Ck.crcByte e ≤ b) && decide (b < Ck.crcByte e + w)
  let ctrBytes := (fieldPositions (Ck.ctrOrder e) (Ck.ctrStart e) (Ck.ctrBits e)).map (fun q => q / 8)
  let outside :=
    match secEntryFor s 1 target with
    | none => false
    | some k =>
      let x := secPdu s k
      let first := (ctrBytes ++ (if w = 0 then [] else [Ck.crcByte e])).foldl min (Ck.covFirst e)
      decide (first < x.hdrLen) || decide (x.hdrLen + x.authLen < ckReach e)
  if bitsOf e 25 6 ≠ 0 || bitsOf e 59 5 ≠ 0 || bitsOf e 88 8 ≠ 0 then 1
  else if !Ck.valid e then 0
  else if Ck.alg e = 7 && Ck.ctrBits e = 0 then 2
  else if !valid || taken then 3
  else if dir = 1 && decide (Tpl.length (tplOf s target) < ckReach e) then 4
  else if ctrBytes.any inCheck then 5
  else if Ck.covLen e = 0 || 2048 < Ck.covLen e then 6
  else if (if Ck.ctrBits e = 0 then Ck.deltaMax e ≠ 0 else 2 ^ Ck.ctrBits e - 1 < Ck.deltaMax e) then 7
  else if dir = 1 && outside then 8
  else 0

/-- The counter state of channel `n` reset for entry `e` (R301). -/
def ckReset (s : State) (n e : Nat) : State :=
  let s := wr s Reg.CK_CH_LAST.synced 0 n
  if Ck.dir e = 1 then wr s Reg.CK_CH_LAST.last (2 ^ Ck.ctrBits e - 1) n else s

/-- What pending elements and sealed frames were offered by check channel `n` forgotten: a write that resets it or makes it not
valid wins (R303). -/
def forgetOffers (s : State) (n : Nat) : State :=
  let keep := fun (o : Option (Nat × Nat)) => o.filter (fun x => x.1 != n)
  let clean := fun (g : GwRec) => { g with ckOffer := keep g.ckOffer }
  modSg { s with can := Tab.mapAll (fun _ c => { c with pends := c.pends.map (fun p => { p with gw := p.gw.map clean }) }) s.can }
    (fun g => { g with toSwitch := g.toSwitch.map (fun x => { x with left := x.left.map (fun y => (keep y.1, y.2)) }) })

/-- CK_CH_WRITE (R309). -/
def opCkWrite (p : Bytes) (s : State) : CmdAnswer :=
  let n := byteAt p 0
  let e := leAt p 4 16
  if p.length ≠ 20 then fail s stBadLength
  else if 127 < n || !zeroAt p 1 3 then fail s stBadParam
  else
    match ckReason s n e with
    | 0 =>
      let old := ckOf s n
      let s := modSg s (fun g => { g with checks := Tab.set g.checks n 0 e })
      let resets := (Ck.valid e && !Ck.valid old) || Ck.target old != Ck.target e || Ck.dir old != Ck.dir e ||
        Ck.ctrBits old != Ck.ctrBits e || Ck.deltaMax old != Ck.deltaMax e
      let s := if resets then ckReset s n e else s
      let s := if resets || !Ck.valid e then forgetOffers s n else s
      okay s (zeros 4)
    | r => (s, some (stBadParam, leBytes 1 r ++ zeros 3))

/-- CK_CH_READ. -/
def opCkRead (p : Bytes) (s : State) : CmdAnswer :=
  let n := byteAt p 0
  if p.length ≠ 4 then fail s stBadLength
  else
    okay s (leBytes 16 (ckOf s n) ++ leBytes 4 (rd s Reg.CK_CH_LAST.last n + rd s Reg.CK_CH_LAST.synced n * 65536))

/-- CK_CH_RESYNC (R307). -/
def opCkResync (p : Bytes) (s : State) : CmdAnswer :=
  let n := byteAt p 0
  if p.length ≠ 4 then fail s stBadLength
  else if 127 < n || !Ck.valid (ckOf s n) then fail s stNotFound
  else okay (ckReset s n (ckOf s n)) []

/-! ### Two-copy records (R308) -/

/-- What a two-copy record of `kind` at `addr` comes to, given whether the data copies are equal and which checks match
(Table 12.4): the copy to use, none for an invalid record; 2 means both valid, the owner's rule choosing. -/
def twoCopy (s : State) (kind addr : Nat) (equal okA okB : Bool) : State × Option Nat :=
  let repaired := fun (copy : Nat) (s : State) =>
    raiseIn (bump s Reg.CK_STAT_STORE_REPAIR.value) Reg.CK_INT_STATUS.event 0 10 3 kind (leBytes 1 copy ++ leBytes 4 addr)
  let invalid := fun (which : Nat) (s : State) =>
    raiseIn (bump s Reg.CK_STAT_STORE_INVALID.value) Reg.CK_INT_STATUS.event 0 10 4 kind (leBytes 1 which ++ leBytes 4 addr)
  match equal, okA, okB with
  | true, true, true => (s, some 0)
  | true, true, false => (repaired 1 s, some 0)
  | true, false, true => (repaired 0 s, some 0)
  | false, true, false => (invalid 2 s, some 0)
  | false, false, true => (invalid 1 s, some 1)
  | false, true, true => (s, some 2)
  | _, false, false => (invalid 3 s, none)

/-- How the copies of the record of a kind stand. -/
def copiesOf (s : State) (kind : Nat) : TwoCopies := Tab.get s.bt.copies kind ⟨.good, .good⟩

/-- The record of a kind written by its owner, or its failing check rewritten: both copies as they should be. -/
def recordWritten (s : State) (kind : Nat) : State := { s with bt := { s.bt with copies := Tab.del s.bt.copies kind } }

/-- Whether a copy's check matches it. -/
def CopyState.ok (x : CopyState) : Bool := x == .good || x == .older

/-- Whether the data of two copies are equal. -/
def TwoCopies.equal (c : TwoCopies) : Bool :=
  let current := fun (x : CopyState) => x == .good || x == .badCheck
  (current c.a && current c.b) || (c.a == .older && c.b == .older)

/-- The record of a kind read by its owner; tells whether it is valid. The address of the start record and of the fabric identity is
that of Table 18.5; where the commit record and the wake die's block lie is a free value (assumption 6). -/
def readRecord (kind : Nat) (s : State) : State × Bool :=
  let c := copiesOf s kind
  let (s, addr) := if kind < 3 then (s, (kind - 1) * 0x2000) else (drawn s, freeIn s 0 0xFFFFFFFF)
  match twoCopy s kind addr c.equal c.a.ok c.b.ok with
  | (s, some _) => (if c.equal then recordWritten s kind else s, true)
  | (s, none) => (s, false)

/-! ### Memory errors (R144) -/

/-- A memory error of the gateway: a corrected one counted in the life record; an uncorrectable one reported, and the slot it
lies in, or whose byte-array half it lies in, marked age-unknown. -/
def gatewayError (s : State) (e : MemErr) : State :=
  if e.corrected then lifeCount s Life.ecc 4
  else
    let s := bump (lifeCount s Life.ecc 5) Reg.SG_STAT_MEM_UNC.value
    let s := sgEvent s 6 e.table (leBytes 4 e.index)
    if e.table = 0 ∨ e.table = 10 then setSlot s e.index { slotOf s e.index with ageUnknown := true } else s

/-- The errors that take table entries out of use. -/
def lostEntries (errs : List MemErr) : List MemErr :=
  errs.filter (fun e => !e.corrected && e.table != 0 && e.table != 10)

/-- An entry out of use: not valid, a fan-out entry naming no route, a stale parameter that agrees with no action. -/
def hideEntry (s : State) (e : MemErr) : State :=
  tablePut s e.table e.index
    (if e.table = 7 then 65536 else if e.table = 8 then Tpl.blank else if e.table = 9 then lostParam else 0)

/-- `f` carried out with the entries lost to memory errors treated as not valid for that use; the entries stand afterwards. -/
def withGatewayErrors (errs : List MemErr) (f : State → State) (s : State) : State :=
  let s := errs.foldl gatewayError s
  let bad := lostEntries errs
  bad.foldr (fun e s' => tablePut s' e.table e.index (tableGet s e.table e.index)) (f (bad.foldl hideEntry s))

/-! ### The rows of chapter 5 -/

/-- A command packet that reads or changes what the gateway or a CAN channel holds. -/
def gatewayRow (t op : Nat) (c : Call) (p : Bytes) (s : State) (run : State → State) : Host.Outcome State Fault Refusal :=
  commandRow t op c p s (fun s => run (channelsSync s))

/-- SIGNAL_RECORD_SEND (R140). -/
def execSignalRecordSend (t : Nat) (device : Fin 64) (s : State) : Host.Outcome State Fault Refusal :=
  running t s <|
  done (sendRecord device (arrive t s))

/-- SIGNAL_RECORD_RECEIVED (R141). -/
def execSignalRecordReceived (g : GwAt) (device : Fin 64) (record : Bytes) (s : State) :
    Host.Outcome State Fault Refusal :=
  running g.t s <|
  done (withGatewayErrors g.errors (fun s => serveAll (recordReceived device record s)) (arrive g.t s))

/-- CAN_COPY_RECEIVED (R349). -/
def execCanCopyReceived (g : GwAt) (_device : Fin 64) (payload : Bytes) (s : State) :
    Host.Outcome State Fault Refusal :=
  running g.t s <|
  done (withGatewayErrors g.errors (fun s => serveAll (copyReceived payload s)) (arrive g.t s))

/-- SG_TABLE_WRITE (R143). -/
def execSgTableWrite (t : Nat) (c : Call) (p : Bytes) (s : State) : Host.Outcome State Fault Refusal :=
  gatewayRow t 0x3001 c p s (fun s => serveAll (answer 0x3001 c (opTableWrite p s)))

/-- SG_TABLE_READ (R146). -/
def execSgTableRead (t : Nat) (c : Call) (p : Bytes) (s : State) : Host.Outcome State Fault Refusal :=
  gatewayRow t 0x3002 c p s (fun s => answer 0x3002 c (opTableRead p s))

/-- SG_CANRT_ADD (R131). -/
def execSgCanrtAdd (t : Nat) (c : Call) (p : Bytes) (s : State) : Host.Outcome State Fault Refusal :=
  gatewayRow t 0x3010 c p s (fun s => answer 0x3010 c (opCanrtAdd p s))

/-- SG_CANRT_DEL (R131). -/
def execSgCanrtDel (t : Nat) (c : Call) (p : Bytes) (s : State) : Host.Outcome State Fault Refusal :=
  gatewayRow t 0x3011 c p s (fun s => answer 0x3011 c (opCanrtDel p s))

/-- SG_CANRT_FIND (R146). -/
def execSgCanrtFind (t : Nat) (c : Call) (p : Bytes) (s : State) : Host.Outcome State Fault Refusal :=
  gatewayRow t 0x3012 c p s (fun s => answer 0x3012 c (opCanrtFind p s))

/-- SG_SLOT_READ (R146). -/
def execSgSlotRead (g : GwAt) (c : Call) (p : Bytes) (s : State) :
    Host.Outcome State Fault Refusal :=
  gatewayRow g.t 0x3020 c p s (withGatewayErrors g.errors (fun s => answer 0x3020 c (opSlotRead p s)))

/-- SG_SLOT_WRITE (R146). -/
def execSgSlotWrite (g : GwAt) (c : Call) (p : Bytes) (s : State) :
    Host.Outcome State Fault Refusal :=
  gatewayRow g.t 0x3021 c p s (withGatewayErrors g.errors (fun s => serveAll (answer 0x3021 c (opSlotWrite p s))))

/-- SG_SLOT_CONFIG (R127). -/
def execSgSlotConfig (t : Nat) (c : Call) (p : Bytes) (s : State) : Host.Outcome State Fault Refusal :=
  gatewayRow t 0x3022 c p s (fun s => answer 0x3022 c (opSlotConfig p s))

/-- SG_ND_CLR (R129). -/
def execSgNdClr (t : Nat) (slot : Fin 65536) (s : State) : Host.Outcome State Fault Refusal :=
  running t s <|
  done (ndClear slot (arrive t s))

/-! ### The rows of chapters 6 and 7 -/

/-- CYCLE_INSTANT (R144, R162): in Doze too, where it is counted as missed (R165). -/
def execCycleInstant (t : Nat) (tpl : Fin 16384) (gateway : List MemErr) (s : State) : Host.Outcome State Fault Refusal :=
  inDoze t s <|
  done (withGatewayErrors gateway (fun s => serveAll (cycleOp tpl s)) (arrive t s))

/-- MIN_INTERVAL_EXPIRED (R164). -/
def execMinIntervalExpired (g : GwAt) (tpl : Fin 16384) (s : State) :
    Host.Outcome State Fault Refusal :=
  running g.t s <|
  done (withGatewayErrors g.errors (fun s => serveAll (minIntervalOp tpl s)) (arrive g.t s))

/-- TOKEN_REFILL (R168): the tokens that have come serve the channel's waiters. -/
def execTokenRefill (g : GwAt) (ch : Fin 64) (s : State) : Host.Outcome State Fault Refusal :=
  running g.t s <|
  done (withGatewayErrors g.errors (serve ch) (arrive g.t s))

/-- SG_CHRATE_WRITE (R168). -/
def execSgChrateWrite (t : Nat) (ch : Fin 64) (data : BitVec 32) (s : State) : Host.Outcome State Fault Refusal :=
  running t s <|
  done (serve ch (writeChrate ch data.toNat (arrive t s)))

/-- SG_TPL_TRIGGER (R175). -/
def execSgTplTrigger (g : GwAt) (c : Call) (p : Bytes) (s : State) :
    Host.Outcome State Fault Refusal :=
  gatewayRow g.t 0x3030 c p s (withGatewayErrors g.errors (fun s => serveAll (answer 0x3030 c (opTplTrigger c p s))))

/-- SG_TPL_EXT (R157). -/
def execSgTplExt (t : Nat) (c : Call) (p : Bytes) (s : State) : Host.Outcome State Fault Refusal :=
  gatewayRow t 0x3031 c p s (fun s => answer 0x3031 c (opTplExt p s))

/-- SG_AGE_QUERY (R175). -/
def execSgAgeQuery (g : GwAt) (c : Call) (p : Bytes) (s : State) :
    Host.Outcome State Fault Refusal :=
  gatewayRow g.t 0x3032 c p s (withGatewayErrors g.errors (fun s => answer 0x3032 c (opAgeQuery p s)))

/-- ACF_PDU_SEAL (R185). -/
def execAcfPduSeal (g : GwAt) (stream : Fin 64) (s : State) : Host.Outcome State Fault Refusal :=
  running g.t s <|
  done (withGatewayErrors g.errors (acfSealOp stream) (arrive g.t s))

/-- SG_MIRROR_N_WRITE (R195). -/
def execSgMirrorNWrite (t : Nat) (ch : Fin 64) (data : BitVec 32) (s : State) : Host.Outcome State Fault Refusal :=
  running t s <|
  done (writeMirrorN ch data.toNat (arrive t s))

/-! ### The rows of chapter 12 -/

/-- CK_CH_WRITE (R309). -/
def execCkChWrite (t : Nat) (c : Call) (p : Bytes) (s : State) : Host.Outcome State Fault Refusal :=
  gatewayRow t 0x3040 c p s (fun s => answer 0x3040 c (opCkWrite p s))

/-- CK_CH_READ (R311). -/
def execCkChRead (t : Nat) (c : Call) (p : Bytes) (s : State) : Host.Outcome State Fault Refusal :=
  gatewayRow t 0x3041 c p s (fun s => answer 0x3041 c (opCkRead p s))

/-- CK_CH_RESYNC (R307). -/
def execCkChResync (t : Nat) (c : Call) (p : Bytes) (s : State) : Host.Outcome State Fault Refusal :=
  gatewayRow t 0x3042 c p s (fun s => answer 0x3042 c (opCkResync p s))

end Sys2Proof.Machine
end

