-- ==== Sys2Proof/Machine/CanEngine.lean ====
section
/-! DEFINITION. The CAN protocol engines (chapter 3): modes and the configuration check, selection points and the check at
every attempt, transmission, arbitration loss, error confinement, bus-off, Cloak; and the rows of chapters 3 and 4. -/

namespace Sys2Proof.Machine

/-! ### Leaving INIT and the configuration check (R78, R79, R510) -/

/-- Whether every data size code of the written partition is one the channel allows (R101). -/
def sizesOk (n : Nat) (p : Partition) : Bool :=
  [p.txSize, Tab.get p.rxSize 0 7, Tab.get p.rxSize 1 7, p.mbSize].all (fun c => decide (c < if n < 32 then 8 else 12))

/-- Table 3.4's first failing row, 0 for none. -/
def configCode (s : State) (n : Nat) : Nat :=
  let c := fun (f : Fld) => rdB s f n
  let nom := nominal s n
  let fd := fdTiming s n
  let xl := xlTiming s n
  let p := partWritten s n
  let fdEn := c Reg.CAN_CTRL.fd_en
  let xlEn := c Reg.CAN_CTRL.xl_en
  let sic := c Reg.CAN_CTRL.sic_en
  let pwm := c Reg.CAN_CTRL.pwm_en
  let pwms := rd s Reg.CAN_XPWM.pwms n
  let pwml := rd s Reg.CAN_XPWM.pwml n
  let tdco := rd s Reg.CAN_TDC.tdco n
  let least := if 32 ≤ n then 16 else if sic then 20 else 32
  if nom.clocks < 160 || 1280 < nom.clocks then 1
  else if nom.tseg1 < 2 || pwms = 0 || pwml = 0 || !sizesOk n p || 64 < p.txBuffers || 256 < p.txqDepth || 1024 < p.fltCap ||
      64 < p.mbCount then 2
  else if nom.tseg2 < nom.sjw || fd.tseg2 < fd.sjw || xl.tseg2 < xl.sjw then 3
  else if fdEn && decide (fd.clocks < least) then 4
  else if (fdEn && decide (nom.clocks < fd.clocks)) || (xlEn && decide (nom.clocks < xl.clocks)) then 5
  else if (decide (n < 32) && (xlEn || pwm)) || (decide (32 ≤ n) && sic) || (c Reg.CAN_CTRL.brs_en && !fdEn) || (pwm && !xlEn) then 6
  else if (xlEn && decide (xl.clocks < 8)) || (pwm && pwms + pwml != xl.clocks) then 7
  else if c Reg.CAN_TDC.tdc_en && ((fdEn && decide (fd.clocks ≤ tdco)) || (xlEn && decide (xl.clocks ≤ tdco))) then 8
  else if !regionsFit p.regions || p.txqDepth < p.gwShare then 9
  else 0

/-- The passing check's one instant (R109, R510): the written partition in use, elements of a changed transmit region removed,
a changed filter region empty, the FIFOs reset. -/
def commitPartition (s : State) (n : Nat) : State :=
  let old := partOf s n
  let new := partWritten s n
  let txSame := old.txStart == new.txStart && old.txSize == new.txSize && old.txBuffers == new.txBuffers &&
    old.txqDepth == new.txqDepth && old.gwShare == new.gwShare
  let s := if txSame then s else (canCh s n).pends.foldl (fun s p => removeReported s n p.idx) s
  let s := if old.fltStart == new.fltStart && old.fltCap == new.fltCap then s else wr s Reg.CAN_FLT_COUNT.count 0 n
  let clear := fun (s : State) (f : Nat) =>
    wr (wr (wr (wr s Reg.CAN_RXF_STATUS.fill 0 n f) Reg.CAN_RXF_STATUS.get 0 n f) Reg.CAN_RXF_STATUS.put 0 n f)
      Reg.CAN_RXF_STATUS.full 0 n f
  let s := clear (clear s 0) 1
  let s := wr (wr (wr (wr s Reg.CAN_TXEF_STATUS.fill 0 n) Reg.CAN_TXEF_STATUS.get 0 n) Reg.CAN_TXEF_STATUS.put 0 n)
    Reg.CAN_TXEF_STATUS.full 0 n
  modCan s n (fun c => { c with part := new, unchecked := false, stores := [], rxStored := [], efStored := 0 })

/-! ### The end of an attempt (R82, R89) -/

/-- The second slot of element `k` put in its place: the first removed, the second at its order (R82). -/
def promoteSecond (s : State) (n k : Nat) : State :=
  match (canCh s n).pends.find? (fun p => p.secondOf == some k) with
  | none => s
  | some q =>
    modCan s n (fun c => { c with
      pends := (c.pends.filter (fun p => p.idx != q.idx)).map (fun p => if p.idx == k then { q with secondOf := none } else p) })

/-- The attempt of the offered element ended without transmission: it is removed where a cancellation or the device asks for
it, replaced by its second slot, or stays pending. -/
def attemptEnds (s : State) (n : Nat) : State :=
  match (canCh s n).offer with
  | none => s
  | some o =>
    let s := modCan s n (fun c => { c with offer := none })
    match pendOf s n o.idx with
    | none => s
    | some p => if p.removing || !p.cancels.isEmpty then removeElem s n o.idx else promoteSecond s n o.idx

/-- A transmission abandoned at an entry to INIT or Cloak: its element stays pending, its cancellations as they were (R78,
R94); a template that had built a second slot for it keeps that one only (R82). A rebuild is abandoned with it. -/
def abandonAttempt (s : State) (n : Nat) : State :=
  let begun := begunIdx s n
  let s := modCan s n (fun c => { c with
    offer := none
    rebuild := none
    again := none
    pends := c.pends.map (fun p => { p with rebuilding := false }) })
  match begun.bind (pendOf s n) with
  | none => s
  | some p =>
    if !(canCh s n).pends.any (fun q => q.secondOf == some p.idx) then s
    else if p.removing || !p.cancels.isEmpty then removeElem s n p.idx
    else promoteSecond s n p.idx

/-- A mode taking effect (R78). -/
def applyMode (s : State) (n m : Nat) : State :=
  let s := modCan s n (fun c => { c with pendingMode := none })
  let s := wr s Reg.CAN_STATUS.mode_eff m n
  let s := abandonAttempt s n
  let integrates := m != 0 && !isBusOff s n && !cloaked s n
  wr s Reg.CAN_STATUS.integrating (b2n integrates) n

/-- A write of CAN_CTRL.mode; tells the configuration check's code (R78, R79). In TRANSIT_FULL every channel is held in INIT
(R361). -/
def modeWrite (s : State) (n m : Nat) : State × Nat :=
  if 5 < m ∨ (m ≠ 0 ∧ transitFull s = true) then (s, 0)
  else
    let eff := canMode s n
    let s := wr s Reg.CAN_CTRL.mode m n
    let s := modCan s n (fun c => { c with pendingMode := none })
    if m = eff then (s, 0)
    else if m = 0 then (applyMode s n 0, 0)
    else if eff = 0 then
      let code := configCode s n
      let s := wr s Reg.CAN_STATUS.cfg_err code n
      if code ≠ 0 then (canEvent s n 0x17 Reg.CAN_INT_STATUS.cfg_err (leBytes 1 code), code)
      else (modCan (commitPartition s n) n (fun c => { c with pendingMode := some m }), 0)
    else (modCan s n (fun c => { c with pendingMode := some m }), 0)

/-- MODE_CHANGE_AT_IDLE: not while a write has left the partition unchecked (R510). -/
def modeAtIdle (n : Nat) (s : State) : State :=
  match (canCh s n).pendingMode with
  | none => s
  | some m => if (canCh s n).unchecked then modCan s n (fun c => { c with pendingMode := none }) else applyMode s n m

/-- CAN_SET_MODE (Table 3.10). -/
def opSetMode (p : Bytes) (s : State) : CmdAnswer :=
  if p.length ≠ 4 then fail s stBadLength
  else if 63 < byteAt p 0 || 5 < byteAt p 1 || !zeroAt p 2 2 then fail s stBadParam
  else if transitFull s then fail s stDenied
  else
    match modeWrite s (byteAt p 0) (byteAt p 1) with
    | (s, 0) => okay s []
    | (s, _) => fail s stIntegrity

/-- A memory error met in a pending transmit element as the engine reads it: an uncorrectable one removes the element (R117). -/
def elementError (n : Nat) (s : State) (e : MmErr) : State :=
  let p := partOf s n
  let k := (e.offset - p.txAt 0) / (32 + dataSize p.txSize)
  if e.offset < p.txAt 0 || !isPending s n k then s
  else mmError n 0 (if e.corrected then s else removeReported s n k) e

/-- A selection point now (R85); none during an attempt. -/
def selectNow (s : State) (n : Nat) (intermission : Bool) (taken : Option Nat) (errors : List MmErr) : State :=
  if !canSend s n || (begunIdx s n).isSome then s
  else selectFor (errors.foldl (elementError n) s) n (selPoint s n intermission taken) true

/-- REBUILD_COMPLETE: in time, the element is offered at its start-of-frame, unchecked; late, it rejoins at the next selection
point (R87, R88). Removed at its offer, it leaves its selection point to the next candidate (R304). -/
def rebuildDone (n : Nat) (s : State) : State :=
  let r := (canCh s n).rebuild
  let s := modCan s n (fun c => { c with rebuild := none, pends := c.pends.map (fun p => { p with rebuilding := false }) })
  match r with
  | none => s
  | some r =>
    match pendOf s n r.idx with
    | none => s
    | some p =>
      match p.gw with
      | none => s
      | some g =>
        if canSend s n && (canCh s n).offer.isNone then
          match offerTemplate s n p g r.point false with
          | (s, .offered) => s
          | (s, .removed) => modCan s n (fun c => { c with again := some r.point })
          | (_, _) => modCan s n (fun c => { c with again := some r.point })
        else s

/-! ### Error confinement (R90, R91) -/

/-- Entry to bus-off (R91). -/
def enterBusOff (s : State) (n : Nat) (f : Option CanFrame) : State :=
  let hold := rd s Reg.CAN_BOFF.holdoff_ms n
  let s := wr s Reg.CAN_STATUS.conf 2 n
  let s := wr s Reg.CAN_BOFF.recov_count 0 n
  let s := wr s Reg.CAN_BOFF.holdoff_active (b2n (hold != 0)) n
  let s := modCan s n (fun c => { c with busOffAt := s.now, holdoff := hold, recovAt := s.now, recovBase := 0 })
  let s := lifeCount (bump s Reg.CAN_STAT_BUSOFF.value n) Life.busOff n
  canEvent s n 0x10 Reg.CAN_INT_STATUS.busoff
    (leBytes 2 (rd s Reg.CAN_ERRC.tec n) ++ leBytes 2 (rd s Reg.CAN_ERRC.rec n) ++ leBytes 1 (rd s Reg.CAN_STATUS.lec n) ++ zeros 3 ++
      leBytes 4 ((f.map (fun f => f.id)).getD 0) ++ leBytes 1 (b2n (f.any (fun f => f.xtd))))

/-- The error counters at new values, with what follows from them (R90). `f` is the frame in the attempt. -/
def setErrors (s : State) (n tec rec_ : Nat) (f : Option CanFrame) : State :=
  let ew := b2n (decide (96 ≤ tec) || decide (96 ≤ rec_))
  let s := wr s Reg.CAN_ERRC.tec (min tec 511) n
  let s := wr s Reg.CAN_ERRC.rec (min rec_ 255) n
  let s := wr s Reg.CAN_ERRC.rp (b2n (decide (128 ≤ rec_))) n
  let s := if rd s Reg.CAN_STATUS.ew n = ew then s else wr s Reg.CAN_INT_STATUS.ew 1 n
  let s := wr s Reg.CAN_STATUS.ew ew n
  let old := rd s Reg.CAN_STATUS.conf n
  let data : Bytes := leBytes 2 tec ++ leBytes 2 (min rec_ 255)
  if 255 < tec then enterBusOff s n f
  else if 128 ≤ tec ∨ 128 ≤ rec_ then
    if old = 1 then s else canEvent (wr s Reg.CAN_STATUS.conf 1 n) n 0x12 Reg.CAN_INT_STATUS.err_passive data
  else if old = 1 then canEvent (wr s Reg.CAN_STATUS.conf 0 n) n 0x13 Reg.CAN_INT_STATUS.err_passive data
  else s

/-- A frame transmitted: TEC down by 1 where it is above 0. PRESUMED from ISO 11898-1 (assumption 33). -/
def txGood (s : State) (n : Nat) : State := setErrors s n (rd s Reg.CAN_ERRC.tec n - 1) (rd s Reg.CAN_ERRC.rec n) none

/-- A frame received: REC down by 1 between 1 and 127, to a value from 119 to 127 above it. PRESUMED from ISO 11898-1
(assumption 33). -/
def rxGood (s : State) (n : Nat) : State :=
  let r := rd s Reg.CAN_ERRC.rec n
  let tec := rd s Reg.CAN_ERRC.tec n
  if 127 < r then setErrors (drawn s) n tec (freeIn s 119 127) none else setErrors s n tec (r - 1) none

/-- Whether a frame has a data phase of its own bit rate, to which delay compensation applies (R75). -/
def hasDataPhase (f : CanFrame) : Bool := (f.fmt == 1 && f.brs) || f.fmt == 2

/-- The frame of the attempt that has begun. -/
def begunFrame (s : State) (n : Nat) : Option CanFrame :=
  if (begunIdx s n).isSome then (canCh s n).offer.map (fun o => o.frame) else none

/-- Whether the engine measures the loop delay of the attempt under way (R75). -/
def measuresDelay (s : State) (n : Nat) : Bool := rdB s Reg.CAN_TDC.tdc_en n && (begunFrame s n).any hasDataPhase

/-- A delay measured: the register shows it, and the secondary sample point lies at it, or at the filter window where it is
shorter, plus the offset (R75). -/
def delayMeasured (s : State) (n d : Nat) : State :=
  modCan (wr s Reg.CAN_TDC.tdcv d n) n (fun c => { c with
    secondary := some (max d (rd s Reg.CAN_TDC.tdcf n) + rd s Reg.CAN_TDC.tdco n) })

/-- What an error code shows: a delay past the limit of measurement is a bit error in the data phase (R75), recessive (4) or
dominant (5) as the bit was: a free value where the row does not tell. -/
def noteError (s : State) (n : Nat) (e : CanError) : State :=
  if e.delayFail && measuresDelay s n then
    let s := bump s Reg.CAN_STAT_TDC_FAIL.value n
    if e.code.val = 4 ∨ e.code.val = 5 then wr s Reg.CAN_STATUS.dlec e.code n else wr (drawn s) Reg.CAN_STATUS.dlec (freeIn s 4 5) n
  else wr s (if e.dataPhase then Reg.CAN_STATUS.dlec else Reg.CAN_STATUS.lec) e.code n

/-- An error detected (R90, Table 3.3): in the modes that count, an error frame and the counters; the attempt ends. In
LOOP_INTERNAL nothing leaves the pins. -/
def errorOp (n : Nat) (e : CanError) (s : State) : State :=
  if !listens s n then s
  else
    let s := noteError s n e
    let s := if e.underrun then bump s Reg.CAN_STAT_TX_UNDR.value n else s
    let began := begunIdx s n
    let frame := begunFrame s n
    let s := modCan s n (fun c => { c with transmittedLast := began.isSome })
    let s := if modeSends s n then
        let s := bump s Reg.CAN_STAT_ERRFRM.value n
        let s := if canMode s n = 4 then s else emit s (.canErrorFrame n (rd s Reg.CAN_STATUS.conf n == 0))
        let tec := rd s Reg.CAN_ERRC.tec n
        let rec_ := rd s Reg.CAN_ERRC.rec n
        if e.transmitter then setErrors s n (tec + (if e.uncounted then 0 else 8) + 8 * e.plus8) rec_ frame
        else setErrors s n tec (min 255 (rec_ + (if e.uncounted then 0 else 1) + 8 * e.plus8)) frame
      else s
    attemptEnds s n

/-- BUSOFF_HOLDOFF_EXPIRED (R91). -/
def holdoffOp (n : Nat) (s : State) : State :=
  let c := canCh s n
  if isBusOff s n ∧ rdB s Reg.CAN_BOFF.holdoff_active n = true ∧ c.busOffAt + c.holdoff * ms ≤ s.now then
    wr s Reg.CAN_BOFF.holdoff_active 0 n
  else s

/-- BUSOFF_RECOVERY: the 128th sequence; counting pauses in INIT and in Cloak and during the hold-off (R91, R95). -/
def recoveryOp (n : Nat) (s : State) : State :=
  let c := canCh s n
  if isBusOff s n && !rdB s Reg.CAN_BOFF.holdoff_active n && canMode s n != 0 && !cloaked s n then
    let s := wr s Reg.CAN_BOFF.recov_count 128 n
    let s := wr s Reg.CAN_STATUS.conf 0 n
    let s := setErrors s n 0 0 none
    let s := canEvent s n 0x11 Reg.CAN_INT_STATUS.busoff_rec
      (leBytes 4 (min ((s.now - c.busOffAt) / ms) 0xFFFFFFFF) ++ leBytes 2 c.holdoff)
    selectNow s n false none []
  else s

/-! ### Transmission (R84) -/

/-- CAN_TRANSMIT_COMPLETE. -/
def transmitDone (n sof : Nat) (delay : Option (Fin 256)) (s : State) : State :=
  match (canCh s n).offer with
  | none => s
  | some o =>
    match pendOf s n o.idx with
    | none => s
    | some p =>
      if !canSend s n then s
      else
        let len := leAt (elemBytes s n p.idx) 12 4
        let s := match delay with
          | some d => if rdB s Reg.CAN_TDC.tdc_en n && hasDataPhase o.frame then delayMeasured s n d else s
          | none => s
        let s := bump s Reg.CAN_STAT_TXOK.value n
        let s := if canMode s n = 4 then s else emit s (.canFrame n o.frame sof)
        let s := txGood s n
        let logs := if p.gw.isSome then rdB s Reg.CAN_TXEF_CFG.gw_events n else bitSet len 24
        let s := if logs then txEvent s n p o.frame (bitsOf len 16 8) sof else s
        let s := mirrorFrame s n o.frame sof true
        let s := if isBuffer s n p.idx then
            wr (setBitF s Reg.CAN_TXBUF_DONE.done p.idx n) Reg.CAN_INT_STATUS.txdone 1 n
          else s
        let s := tellCancels (dropPend s n p.idx) n p true
        let s := match p.gw with
          | some g => contentLeft s g.ckOffer g.secOffer
          | none => s
        modCan s n (fun c => { c with transmittedLast := true })

/-- ARBITRATION_LOST (R84). -/
def arbitrationLost (n : Nat) (s : State) : State :=
  if (canCh s n).offer.isSome && canSend s n then
    let s := bump s Reg.CAN_STAT_ARBLOST.value n
    modCan (attemptEnds s n) n (fun c => { c with transmittedLast := false })
  else s

/-! ### Reception (R104) -/

/-- Whether a frame accepted now is the channel's own: one that a loopback mode delivers to it while its attempt is under way
(Table 3.3). -/
def acceptsOwn (s : State) (n : Nat) : Bool := (begunIdx s n).isSome && (canMode s n == 4 || canMode s n == 5)

/-- CAN_FRAME_ACCEPTED. The channel's own frame is delivered and mirrored but not offered to the gateway (Table 3.3, R132,
R195); another node's ends what the channel had on offer. -/
def frameAccepted (n : Nat) (rx : CanRx) (s : State) : State :=
  let own := acceptsOwn s n
  if !listens s n || (!own && canMode s n == 4) then s
  else if rx.overrun then bump s Reg.CAN_STAT_CORE_OVR.value n
  else
    let s := bump s Reg.CAN_STAT_RXOK.value n
    let s := if !own && modeSends s n then rxGood s n else s
    let s := if own then s else modCan (attemptEnds s n) n (fun c => { c with transmittedLast := false })
    let s := mirrorFrame s n rx.frame rx.sof false
    let s := if own then s else canOffer s n rx.frame (localOrigin s (canStamp s n rx.sof) rx.sof n)
    hostDeliver s n rx

/-- Whether a frame accepted on channel `n` now comes from another node and reaches the device (R104, R431). -/
def heardFrame (s : State) (n : Nat) (rx : CanRx) : Bool :=
  listens s n && !acceptsOwn s n && canMode s n != 4 && !rx.overrun

/-- PROTOCOL_EXCEPTION (R93): a form error with pxhd = 1, otherwise the engine integrates again. -/
def protocolException (n : Nat) (xl : Bool) (s : State) : State :=
  if !listens s n || rdB s (if xl then Reg.CAN_CTRL.xl_en else Reg.CAN_CTRL.fd_en) n then s
  else if rdB s Reg.CAN_CTRL.pxhd n then errorOp n ⟨2, false, false, false, 0, false, false⟩ s
  else
    let s := wr (attemptEnds s n) Reg.CAN_STATUS.integrating 1 n
    let s := wr (bump s Reg.CAN_STAT_PXE.value n) Reg.CAN_INT_STATUS.pxe 1 n
    raiseLimited s 3 0x18 n n 1 (leBytes 4)

/-! ### Cloak (R94, R95) -/

/-- Cloak imposed on channel `n` at the sleep commit of its group. -/
def cloakEnter (s : State) (n group : Nat) : State :=
  if rdB s Reg.CAN_STATUS.cloak n then s
  else
    let s := wr s Reg.CAN_STATUS.cloak 1 n
    let s := if cloaked s n then wr (abandonAttempt s n) Reg.CAN_STATUS.integrating 0 n else s
    let s := modCan s n (fun c => { c with cloakIgnored := 0, cloakGroup := group })
    canEvent s n 0x14 Reg.CAN_INT_STATUS.cloak (leBytes 1 group)

/-- Cloak lifted from channel `n`. -/
def cloakLeave (s : State) (n : Nat) : State :=
  if rdB s Reg.CAN_STATUS.cloak n then
    let c := canCh s n
    let was := cloaked s n
    let s := wr s Reg.CAN_STATUS.cloak 0 n
    let s := canEvent s n 0x15 Reg.CAN_INT_STATUS.cloak (leBytes 1 c.cloakGroup ++ zeros 3 ++ leBytes 4 c.cloakIgnored)
    if was && !isBusOff s n then wr s Reg.CAN_STATUS.integrating 1 n else s
  else s

/-- CLOAK_IGNORED_FRAME (R94). -/
def cloakIgnored (n : Nat) (s : State) : State :=
  if cloaked s n then
    bump (modCan s n (fun c => { c with cloakIgnored := c.cloakIgnored + 1 })) Reg.CAN_STAT_CLOAK_IGN.value n
  else s

/-! ### Registers read whole (CAN_GET_STATE) -/

/-- The pending host-share and gateway-share slots. -/
def canQueueFill (s : State) (n : Nat) : Nat × Nat :=
  let slots := (canCh s n).pends.filter (fun p => !isBuffer s n p.idx)
  ((slots.filter (fun p => isHostElem s n p.idx)).length, (slots.filter (fun p => !isHostElem s n p.idx)).length)

/-- The pending buffers as a mask. -/
def pendMask (s : State) (n : Nat) : Nat :=
  (((canCh s n).pends.filter (fun p => isBuffer s n p.idx)).map (fun p => 2 ^ p.idx)).sum

/-- CAN_GET_STATE (Table 3.10). -/
def opGetState (p : Bytes) (s : State) : CmdAnswer :=
  let n := byteAt p 0
  if p.length ≠ 4 then fail s stBadLength
  else if 63 < n then okay s (zeros 16)
  else
    let status := wordOf s [Reg.CAN_STATUS.mode_eff, Reg.CAN_STATUS.conf, Reg.CAN_STATUS.ew, Reg.CAN_STATUS.cloak,
      Reg.CAN_STATUS.integrating, Reg.CAN_STATUS.lec, Reg.CAN_STATUS.dlec, Reg.CAN_STATUS.cfg_err] n + canActivity s n * 256
    let errc := wordOf s [Reg.CAN_ERRC.tec, Reg.CAN_ERRC.rec, Reg.CAN_ERRC.rp] n
    let boff := wordOf s [Reg.CAN_BOFF.holdoff_ms, Reg.CAN_BOFF.holdoff_active, Reg.CAN_BOFF.recov_count] n
    let q := canQueueFill s n
    okay s (leBytes 4 status ++ leBytes 4 errc ++ leBytes 4 boff ++ leBytes 4 (q.1 + q.2 * 65536))

/-! ### The rows of chapters 3 and 4 -/

/-- CAN_CTRL_MODE_WRITE (R78). -/
def execCanCtrlModeWrite (t : Nat) (ch : Fin 64) (mode : Fin 8) (s : State) : Host.Outcome State Fault Refusal :=
  running t s <|
  done (serveAll (modeWrite (arrive t s) ch mode).1)

/-- MODE_CHANGE_AT_IDLE (R78). -/
def execModeChangeAtIdle (t : Nat) (ch : Fin 64) (s : State) : Host.Outcome State Fault Refusal :=
  running t s <|
  done (serveAll (modeAtIdle ch (arrive t s)))

/-- INTEGRATION_COMPLETE (R78). -/
def execIntegrationComplete (t : Nat) (ch : Fin 64) (s : State) : Host.Outcome State Fault Refusal :=
  running t s <|
  done (wr (arrive t s) Reg.CAN_STATUS.integrating 0 ch)

/-- RX_STORE_COMPLETE (R104). -/
def execRxStoreComplete (t : Nat) (ch : Fin 64) (s : State) : Host.Outcome State Fault Refusal :=
  running t s <|
  done (storeDone ch (arrive t s))

/-- PROTOCOL_EXCEPTION (R93). -/
def execProtocolException (t : Nat) (ch : Fin 64) (xl : Bool) (s : State) : Host.Outcome State Fault Refusal :=
  running t s <|
  done (serveAll (protocolException ch xl (arrive t s)))

/-- SELECTION_POINT (R85, R144). -/
def execSelectionPoint (g : GwAt) (ch : Fin 64) (intermission : Bool) (taken : Option Nat) (errors : List MmErr)
    (s : State) : Host.Outcome State Fault Refusal :=
  running g.t s <|
  done (withGatewayErrors g.errors (fun s => serveAll (selectNow s ch intermission taken errors)) (arrive g.t s))

/-- REBUILD_COMPLETE (R88). -/
def execRebuildComplete (g : GwAt) (ch : Fin 64) (s : State) : Host.Outcome State Fault Refusal :=
  running g.t s <|
  done (withGatewayErrors g.errors (fun s => serveAll (rebuildDone ch s)) (arrive g.t s))

/-- CAN_TRANSMIT_COMPLETE (R84). -/
def execCanTransmitComplete (t : Nat) (ch : Fin 64) (sof : Nat) (delay : Option (Fin 256)) (s : State) :
    Host.Outcome State Fault Refusal :=
  running t s <|
  done (serveAll (transmitDone ch sof delay (arrive t s)))

/-- ARBITRATION_LOST (R84). -/
def execArbitrationLost (t : Nat) (ch : Fin 64) (s : State) : Host.Outcome State Fault Refusal :=
  running t s <|
  done (serveAll (arbitrationLost ch (arrive t s)))

/-- CAN_ERROR_DETECTED (R90). -/
def execCanErrorDetected (t : Nat) (ch : Fin 64) (e : CanError) (s : State) : Host.Outcome State Fault Refusal :=
  running t s <|
  done (serveAll (errorOp ch e (arrive t s)))

/-- BUSOFF_HOLDOFF_EXPIRED (R91). -/
def execBusoffHoldoffExpired (t : Nat) (ch : Fin 64) (s : State) : Host.Outcome State Fault Refusal :=
  running t s <|
  done (holdoffOp ch (arrive t s))

/-- BUSOFF_RECOVERY (R91). -/
def execBusoffRecovery (t : Nat) (ch : Fin 64) (s : State) : Host.Outcome State Fault Refusal :=
  running t s <|
  done (serveAll (recoveryOp ch (arrive t s)))

/-- CAN_TXBUF_REQ (R81). -/
def execCanTxbufReq (t : Nat) (ch : Fin 64) (bits : BitVec 64) (s : State) : Host.Outcome State Fault Refusal :=
  running t s <|
  done (eachBit (fun s k => requestBuffer s ch k) bits.toNat (arrive t s))

/-- CAN_TXQ_PUT (R81). -/
def execCanTxqPut (t : Nat) (ch : Fin 64) (slot : Fin 256) (s : State) : Host.Outcome State Fault Refusal :=
  running t s <|
  done (queuePut (arrive t s) ch slot)

/-- CAN_TXBUF_CANCEL (R89). -/
def execCanTxbufCancel (t : Nat) (ch : Fin 64) (bits : BitVec 64) (s : State) : Host.Outcome State Fault Refusal :=
  running t s <|
  done (serveAll (eachBit (fun s k => cancelBuffer s ch k) bits.toNat (arrive t s)))

/-- CAN_TXQ_CANCEL (R89). -/
def execCanTxqCancel (t : Nat) (ch : Fin 64) (slot : Fin 256) (s : State) : Host.Outcome State Fault Refusal :=
  running t s <|
  done (serveAll (cancelSlot (arrive t s) ch slot))

/-- CAN_SET_MODE (R97). -/
def execCanSetMode (t : Nat) (c : Call) (p : Bytes) (s : State) : Host.Outcome State Fault Refusal :=
  gatewayRow t 0x2001 c p s (fun s => serveAll (answer 0x2001 c (opSetMode p s)))

/-- CAN_TX_ENQUEUE (R81). -/
def execCanTxEnqueue (t : Nat) (c : Call) (p : Bytes) (s : State) : Host.Outcome State Fault Refusal :=
  gatewayRow t 0x2010 c p s (fun s => answer 0x2010 c (opTxEnqueue p s))

/-- CAN_TX_CANCEL (R89). -/
def execCanTxCancel (t : Nat) (c : Call) (p : Bytes) (s : State) : Host.Outcome State Fault Refusal :=
  gatewayRow t 0x2011 c p s (fun s => serveAll (answer 0x2011 c (opTxCancel c p s)))

/-- CAN_GET_STATE (R97). -/
def execCanGetState (t : Nat) (c : Call) (p : Bytes) (s : State) : Host.Outcome State Fault Refusal :=
  gatewayRow t 0x2020 c p s (fun s => answer 0x2020 c (opGetState p s))

/-- CAN_RXF_ACK (R109). -/
def execCanRxfAck (t : Nat) (ch : Fin 64) (fifo : Fin 2) (index : Fin 256) (uc : Fin 256) (s : State) :
    Host.Outcome State Fault Refusal :=
  running t s <|
  done (rxfAck ch fifo index uc (arrive t s))

/-- CAN_TXEF_ACK (R116). -/
def execCanTxefAck (t : Nat) (ch : Fin 64) (index : Fin 256) (uc : Fin 256) (s : State) : Host.Outcome State Fault Refusal :=
  running t s <|
  done (txefAck ch index uc (arrive t s))

/-- CAN_MB_ND_CLEAR (R111). -/
def execCanMbNdClear (t : Nat) (ch : Fin 64) (bits : BitVec 64) (s : State) : Host.Outcome State Fault Refusal :=
  running t s <|
  done (mbNdClear ch bits.toNat (arrive t s))

/-- HOST_TX_ELEMENT_WRITE (R113). -/
def execHostTxElementWrite (t : Nat) (ch : Fin 64) (offset : Nat) (data : Bytes) (s : State) :
    Host.Outcome State Fault Refusal :=
  running t s <|
  done (hostMemWrite (arrive t s) ch offset data)

/-- CAN_FLT_WRITE (R107). -/
def execCanFltWrite (t : Nat) (c : Call) (p : Bytes) (s : State) : Host.Outcome State Fault Refusal :=
  gatewayRow t 0x2030 c p s (fun s => answer 0x2030 c (opFltWrite p s))

/-- CAN_FLT_READ (R118). -/
def execCanFltRead (t : Nat) (c : Call) (p : Bytes) (s : State) : Host.Outcome State Fault Refusal :=
  gatewayRow t 0x2031 c p s (fun s => answer 0x2031 c (opFltRead p s))

/-- CLOAK_IGNORED_FRAME (R94). -/
def execCloakIgnoredFrame (t : Nat) (ch : Fin 64) (s : State) : Host.Outcome State Fault Refusal :=
  running t s <|
  done (cloakIgnored ch (arrive t s))

end Sys2Proof.Machine
end

