-- ==== Sys2Proof/Machine/Buffer.lean ====
section
/-! DEFINITION. The ingress buffer of the switch core (R199, R200, R208–R212): frames and their cells, admission, push-out and
the virtual output queues. -/

namespace Sys2Proof.Machine

/-- The switch state changed by `f`. -/
def modSw (s : State) (f : SwState → SwState) : State := { s with sw := f s.sw }

/-- An SW event (Table 8.14), limited. -/
def swEvent (s : State) (code inst n : Nat) (data : Nat → Bytes) : State :=
  raiseInLimited s Reg.SW_INT_STATUS.event 0 5 code inst inst n data

/-! ### Frames -/

/-- Frame `id`. -/
def frameAt (s : State) (id : Nat) : Option CoreFrame := Tab.find s.sw.frames id

/-- Frame `id` changed by `f`. -/
def modFrame (s : State) (id : Nat) (f : CoreFrame → CoreFrame) : State :=
  match frameAt s id with
  | none => s
  | some x => modSw s (fun w => { w with frames := Tab.put w.frames id (f x) })

/-- A new frame, without cells, and its number; it returns the device from Idle (R438). -/
def addFrame (s : State) (f : CoreFrame) : State × Nat :=
  (modSw (leaveIdle s) (fun w => { w with
    frames := Tab.put w.frames w.nextId { f with cells := 0 }
    nextId := w.nextId + 1 }), s.sw.nextId)

/-- A frame as it enters at input `p`: nothing decided. -/
def CoreFrame.entering (data fcs : Bytes) (p cls : Nat) : CoreFrame where
  data := data
  fcs := fcs
  len := data.length + 4
  received := true
  input := p
  port0 := p
  cls := cls
  cells := 0
  stamp := 0
  start := 0
  vid := 0
  pcp := 0
  dei := false
  device := 0
  orgPort := p
  given := none
  turn := none
  bank := none
  pass := 0
  strip := 0
  words := List.replicate 8 0
  result := []
  key := 0
  action := 0
  stream := 0
  targets := []
  nextHop := none
  untag := 0
  raw := false

/-- The CRC-32 of IEEE 802.3 over a frame, as its four FCS bytes. PRESUMED: the spec names the FCS and prints no polynomial
(assumption 34). -/
def fcsOf (data : Bytes) : Bytes := leBytes 4 (crcRunR 0xEDB88320 data 0xFFFFFFFF ^^^ 0xFFFFFFFF)

/-! ### Virtual output queues (R200) -/

/-- The index of a virtual output queue. -/
def voqIndex (input out cls : Nat) : Nat := 152 * input + 8 * out + cls

/-- The places of queue `v`, the head first. -/
def voqOf (s : State) (v : Nat) : List QEntry := Tab.get s.sw.voqs v []

/-- Queue `v` set. -/
def setVoq (s : State) (v : Nat) (q : List QEntry) : State :=
  modSw s (fun w => { w with voqs := Tab.set w.voqs v [] q })

/-- Whether frame `id` stands in a queue or is in transmission. -/
def frameQueued (s : State) (id : Nat) : Bool :=
  s.sw.voqs.any (fun v => v.2.any (fun e => e.frame == id)) || s.sw.sending.any (fun x => x.2.entry.frame == id)

/-- Frame `id` removed and its cells freed. -/
def freeFrame (s : State) (id : Nat) : State := modSw s (fun w => { w with frames := Tab.del w.frames id })

/-- Frame `id` freed where no queue holds it any more (R211). -/
def releaseFrame (s : State) (id : Nat) : State := if frameQueued s id then s else freeFrame s id

/-- The cells of the frames queue `v` holds, the one it is sending included. -/
def voqCells (s : State) (v : Nat) : Nat :=
  let cells := fun (e : QEntry) => ((frameAt s e.frame).map (fun f => f.cells)).getD 0
  ((voqOf s v).map cells).sum + ((s.sw.sending.filter (fun x => x.2.voq == v)).map (fun x => cells x.2.entry)).sum

/-- The frames queue `v` holds. -/
def voqFrames (s : State) (v : Nat) : Nat :=
  (voqOf s v).length + (s.sw.sending.filter (fun x => x.2.voq == v)).length

/-! ### Cells (R209, R210) -/

/-- Cells of class `c`. -/
def classCells (s : State) (c : Nat) : Nat := ((s.sw.frames.filter (fun f => f.2.cls == c)).map (fun f => f.2.cells)).sum

/-- Cells of input `p`. -/
def inputCells (s : State) (p : Nat) : Nat := ((s.sw.frames.filter (fun f => f.2.input == p)).map (fun f => f.2.cells)).sum

/-- Cells in use. -/
def usedCells (s : State) : Nat := (s.sw.frames.map (fun f => f.2.cells)).sum

/-- The reserve of class `c`. -/
def classRsv (s : State) (c : Nat) : Nat := rd s Reg.SW_CLASS_RSV.rsv c

/-- The shared free count: negative where a reserve raised since has taken shared cells. -/
def sharedFree (s : State) : Int :=
  (49152 : Int) - (sumBelow (classRsv s) 8 : Nat) - (sumBelow (fun c => classCells s c - classRsv s c) 8 : Nat)

/-- The queue of class `v` whose tail is to be pushed out: the one with the most cells among those whose tail is received and
waits, the lowest among equals (R210). -/
def victimQueue (s : State) (v : Nat) : Option Nat :=
  let ok := fun (k : Nat) => match (voqOf s k).getLast? with
    | none => false
    | some e => ((frameAt s e.frame).map (fun f => f.received)).getD false
  leastBy (fun k => 49152 - voqCells s k) ((Tab.keys s.sw.voqs).filter (fun k => k % 8 == v && ok k))

/-- One frame pushed out on behalf of class `c` (R210); tells whether one was. -/
def evictOne (s : State) (c : Nat) : State × Bool :=
  match (((List.range c).filter (fun v => decide (classRsv s v < classCells s v))).filterMap
      (fun v => (victimQueue s v).map (fun k => (v, k)))).head? with
  | none => (s, false)
  | some (v, k) =>
    match (voqOf s k).getLast? with
    | none => (s, false)
    | some e =>
      let s := releaseFrame (setVoq s k (voqOf s k).dropLast) e.frame
      let s := bump s Reg.SW_STAT_PUSHED.value v
      (swEvent s 2 v 1 (fun n => leBytes 4 n ++ leBytes 1 c), true)

/-- Frames pushed out on behalf of class `c` until a shared cell is free; tells whether one is. -/
def makeRoom (c : Nat) : Nat → State → State × Bool
  | 0, s => (s, false)
  | fuel + 1, s =>
    match evictOne s c with
    | (s, false) => (s, false)
    | (s, true) => if 0 < sharedFree s then (s, true) else makeRoom c fuel s

/-- One cell requested for class `c` at input `p` (R209); tells whether it is granted. -/
def cellRequest (s : State) (c p : Nat) : State × Bool :=
  if classCells s c < classRsv s c then (s, true)
  else if rd s Reg.SW_CLASS_MAX.max c ≤ classCells s c ∨ rd s Reg.SW_IN_MAX.max p ≤ inputCells s p then (s, false)
  else if 0 < sharedFree s then (s, true)
  else if rdB s Reg.SW_CTRL.pushout_en then
    makeRoom c ((s.sw.voqs.map (fun v => v.2.length)).sum + 1) s
  else (s, false)

/-- `n` more cells requested for frame `id`; tells whether every one is granted. The first cell of a frame is refused while
SW_CTRL.en is 0. -/
def admitCells (id : Nat) : Nat → State → State × Bool
  | 0, s => (s, true)
  | n + 1, s =>
    match frameAt s id with
    | none => (s, false)
    | some f =>
      if f.cells = 0 ∧ rdB s Reg.SW_CTRL.en = false then (s, false)
      else
        match cellRequest s f.cls f.input with
        | (s, false) => (s, false)
        | (s, true) => admitCells id n (modFrame s id (fun f => { f with cells := f.cells + 1 }))

/-- The refusal of a cell to frame `id`, counted and reported (R209). -/
def admissionRefused (s : State) (id : Nat) : State :=
  match frameAt s id with
  | none => s
  | some f =>
    let s := bump s Reg.SW_STAT_DROP.value f.cls
    let s := if f.input < 12 then bump s Reg.ETH_RX_ADMIT_DROP.value f.input else s
    swEvent s 1 f.cls 1 (fun n => leBytes 4 n ++ leBytes 1 f.input)

/-- A frame entering with all its cells, or refused; tells its number where it stays. -/
def enterFrame (s : State) (f : CoreFrame) : State × Option Nat :=
  let (s, id) := addFrame s f
  match admitCells id (ceilDiv f.len 256) s with
  | (s, true) => (s, some id)
  | (s, false) => (freeFrame (admissionRefused s id) id, none)

/-- Frame `id` put behind the frames of input `p` that are not ready yet. -/
def pushArrived (s : State) (p id : Nat) : State :=
  modSw s (fun w => { w with arrived := Tab.upd w.arrived p [] (fun l => l ++ [id]) })

/-! ### Tags (R208, R242) -/

/-- Whether a frame starts with an outer 802.1Q tag. -/
def isTagged (data : Bytes) : Bool := beAt data 12 2 == 0x8100 || beAt data 12 2 == 0x88A8

/-- The tag control information of the outer tag. -/
def tci (data : Bytes) : Nat := beAt data 14 2

/-- A frame's bytes without its outer tag. -/
def untagged (data : Bytes) : Bytes := if isTagged data then data.take 12 ++ data.drop 16 else data

/-- VID, PCP and DEI of a frame that brings no others with it: from its tag, the port's pvid where there is none or its VID
is 0 (R242). -/
def withTag (s : State) (f : CoreFrame) : CoreFrame :=
  let pvid := rd s Reg.FT_PORT_CFG.pvid f.input
  if isTagged f.data then
    let v := tci f.data % 4096
    { f with
      vid := if v = 0 then pvid else v
      pcp := tci f.data / 8192
      dei := bitSet (tci f.data) 12 }
  else { f with
      vid := pvid
      pcp := 0
      dei := false }

/-- The preliminary class of an Ethernet frame on port `p` (R208). -/
def prelimClass (s : State) (p : Nat) (data : Bytes) : Nat :=
  if isTagged data then bitsOf (rd s Reg.ETH_PCP_MAP.map p) (3 * (tci data / 8192)) 3
  else rd s Reg.ETH_CFG.class_untagged p

end Sys2Proof.Machine
end

