-- ==== Sys2Proof/Machine/Gates.lean ====
section
/-! DEFINITION. Gate control lists and credit-based shapers of the Ethernet outputs (R220–R223), and the two commands on gate
lists. -/

namespace Sys2Proof.Machine

/-- An ETH event (Table 8.13). -/
def ethEvent (s : State) (port code : Nat) (data : Bytes) : State :=
  raiseIn s Reg.ETH_INT_STATUS.event port 4 code port data

/-- A link speed in kbit/s (ETH_STATUS.speed encoding). -/
def speedKbps (x : Nat) : Nat := [10000, 100000, 1000000, 2500000, 5000000, 10000000, 25000000].getD x 0

/-- The link speed of a port in kbit/s, 0 without a link. -/
def linkKbps (s : State) (port : Nat) : Nat := speedKbps (rd s Reg.ETH_STATUS.speed port)

/-- How long a frame of `len` bytes occupies the port's link, in ns rounded up (R220). -/
def occupancy (s : State) (port len : Nat) : Nat := ceilDiv ((len + 20) * 8 * 1000000) (linkKbps s port)

/-! ### Gate lists (R220–R222) -/

/-- The entry in force at position `pos` of a cycle: its index and states; the last entry holds to the cycle's end. -/
def entryAt (pos : Nat) : Nat → List (Nat × Nat) → Nat × Nat
  | k, [] => (k, 0xFF)
  | k, [(g, _)] => (k, g)
  | k, (g, d) :: l => if pos < d then (k, g) else entryAt (pos - d) (k + 1) l

/-- How long the entry at position `pos` lasts at most: to the next entry or the cycle's end, `left` ns away. -/
def entryLeft (pos left : Nat) : List (Nat × Nat) → Nat
  | [] => left
  | [_] => left
  | (_, d) :: l => if pos < d then min (d - pos) left else entryLeft (pos - d) left l

/-- The position of device time `dt` in a list's cycle. -/
def GateList.pos (l : GateList) (dt : Nat) : Nat := (((dt : Int) - l.start) % (l.cycle : Int)).toNat

/-- The operational list of a port. -/
def operList (s : State) (port : Nat) : Option GateList := Tab.find s.sw.operLists port

/-- The pending list of a port and its CT. -/
def pendingList (s : State) (port : Nat) : Option GateList :=
  if rdB s Reg.ETH_TAS_STATUS.pending port then Tab.find s.sw.adminLists port else none

/-- The start of the old list's cycle that a pending change at `ct` keeps from starting, where the cycle before it runs on
to `ct` (R221). The extension is the old list's (assumption 36). -/
def runOnFrom (l : GateList) (ct : Nat) : Option Nat :=
  let s := ct - l.pos ct
  if ct - s < l.ext ∧ s < ct then some s else none

/-- Index and states of the entry in force on a port at device time `dt`, pending changes taken into account (R220, R221). -/
def gateEntry (s : State) (port dt : Nat) : Nat × Nat :=
  let run := fun (l : GateList) => entryAt (l.pos dt) 0 l.entries
  match operList s port, pendingList s port with
  | o, some p =>
    if p.start ≤ dt then run p
    else match o with
      | none => (0, 0xFF)
      | some l =>
        match runOnFrom l p.start with
        | some x => if x ≤ dt then entryAt (l.cycle - 1) 0 l.entries else run l
        | none => run l
  | some l, none => run l
  | none, none => (0, 0xFF)

/-- The gate states of a port at device time `dt`: all open without gate_en (R220). -/
def gatesAt (s : State) (port dt : Nat) : Nat :=
  if rdB s Reg.ETH_TAS_CTRL.gate_en port then (gateEntry s port dt).2 else 0xFF

/-- The next listed instant after device time `dt` at which the entry in force may change; none where there is none. -/
def nextGate (s : State) (port dt : Nat) : Option Nat :=
  let run := fun (l : GateList) => dt + entryLeft (l.pos dt) (l.cycle - l.pos dt) l.entries
  match operList s port, pendingList s port with
  | o, some p =>
    if p.start ≤ dt then some (run p)
    else match o with
      | none => some p.start
      | some l =>
        match runOnFrom l p.start with
        | some x => some (if x ≤ dt then p.start else min (run l) p.start)
        | none => some (min (run l) p.start)
  | some l, none => some (run l)
  | none, none => none

/-- The counter instant of the first 4 ns edge after `t` at which DT has come to `n` ns, as far as the rate in force at `t`
lasts: no later than the planned end of a slew (R14, R24). -/
def edgeReaching (s : State) (t n : Nat) : Nat :=
  let g := segAt s t
  let step := (17179869184 + g.adj).toNat
  let k := max 1 (ceilDiv (n * 4294967296 - segDt g t) step)
  let stop := ((s.dt.segs.filter (fun x => decide (t < x.t0))).map (fun x => x.t0)).foldl min ((t / 4 + k) * 4)
  stop

/-- Whether class `c` of a port stays open from counter instant `t` to `until_` (R220): its gates change at the first edge of
the device-time counter at or after each listed instant. `fuel` bounds the changes looked at, one edge each at least. -/
def staysOpen (s : State) (port c until_ : Nat) : Nat → Nat → Bool
  | 0, _ => false
  | fuel + 1, t =>
    if until_ ≤ t then true
    else if bitSet (gatesAt s port (dtAt s t)) c then
      match nextGate s port (dtAt s t) with
      | none => true
      | some n => staysOpen s port c until_ fuel (edgeReaching s t n)
    else false

/-- A cycle's entries cut at its end, the last one filling it. -/
def cutEntries (left : Nat) : List (Nat × Nat) → List (Nat × Nat)
  | [] => if left = 0 then [] else [(0xFF, left)]
  | [(g, _)] => [(g, left)]
  | (g, d) :: l => if left ≤ d then [(g, left)] else (g, d) :: cutEntries (left - d) l

/-- The longest run of open time of class `c` in a sequence of entries. -/
def longestOpenRun (c : Nat) : Nat → Nat → List (Nat × Nat) → Nat
  | best, _, [] => best
  | best, run, (g, d) :: l =>
    if bitSet g c then longestOpenRun c (max best (run + d)) (run + d) l else longestOpenRun c best 0 l

/-- The longest contiguous window of class `c` in the operational list, none where it never closes (R220). -/
def longestWindow (s : State) (port c : Nat) : Option Nat :=
  match operList s port with
  | none => none
  | some l =>
    let es := cutEntries l.cycle l.entries
    if !rdB s Reg.ETH_TAS_CTRL.gate_en port || es.all (fun e => bitSet e.1 c) then none
    else some (longestOpenRun c 0 0 (es ++ es))

/-- The largest SDU class `c` may send under the operational list, 0 for no limit. -/
def maxSdu (s : State) (port c : Nat) : Nat :=
  if rdB s Reg.ETH_TAS_CTRL.gate_en port then ((operList s port).map (fun l => l.sdu.getD c 0)).getD 0 else 0

/-! ### Shapers (R223) -/

/-- The credit of class `c` of a port. -/
def creditOf (s : State) (port c : Nat) : Credit := Tab.get s.sw.credits (8 * port + c) ⟨0, 0⟩

/-- Whether a frame of class `c` waits for output `out`. -/
def classWaits (s : State) (out c : Nat) : Bool :=
  (List.range 19).any (fun i => !(voqOf s (voqIndex i out c)).isEmpty)

/-- The class an output is sending, if any. -/
def sendingClass (s : State) (out : Nat) : Option Nat := (Tab.find s.sw.sending out).map (fun x => x.voq % 8)

/-- The credit of a class brought up to now, under what has held since (R223). -/
def settledCredit (s : State) (port c : Nat) : Credit :=
  let x := creditOf s port c
  let d : Int := (s.now - x.at_ : Nat)
  let idle : Int := rd s Reg.ETH_CBS.idle_slope port c
  let v :=
    if !bitSet (rd s Reg.ETH_TAS_STATUS.gates port) c then x.value
    else if sendingClass s port = some c then x.value + (idle - linkKbps s port) * d
    else if classWaits s port c then x.value + idle * d
    else if 0 < x.value then 0
    else min 0 (x.value + idle * d)
  ⟨v, s.now⟩

/-- Every shaper of a port brought up to now, and the gate states shown brought up to the device time (R221). -/
def gateSync (s : State) (port : Nat) : State :=
  let s := modSw s (fun w => { w with
    credits := (List.range 8).foldl (fun t c =>
      if rdB s Reg.ETH_CBS.en port c then Tab.put t (8 * port + c) (settledCredit s port c) else t) w.credits })
  let e := gateEntry s port (dtNow s)
  let s := wr s Reg.ETH_TAS_STATUS.entry (if rdB s Reg.ETH_TAS_CTRL.gate_en port then e.1 else 0) port
  wr s Reg.ETH_TAS_STATUS.gates (gatesAt s port (dtNow s)) port

/-- The shaper of class `c` set to no credit. -/
def clearCredit (s : State) (port c : Nat) : State :=
  modSw s (fun w => { w with credits := Tab.put w.credits (8 * port + c) ⟨0, s.now⟩ })

/-- Whether the credit of class `c` lets it send. -/
def creditOk (s : State) (port c : Nat) : Bool :=
  !rdB s Reg.ETH_CBS.en port c ||
    (rd s Reg.ETH_CBS.idle_slope port c != 0 && decide (0 ≤ (settledCredit s port c).value))

/-- The test of the idle slopes against the link rate (R223). -/
def checkSlopes (s : State) (port : Nat) : State :=
  let sum := sumBelow (fun c => if rdB s Reg.ETH_CBS.en port c then rd s Reg.ETH_CBS.idle_slope port c else 0) 8
  if rdB s Reg.ETH_STATUS.link port && decide (linkKbps s port < sum) then
    ethEvent s port 5 (leBytes 4 sum ++ leBytes 4 (linkKbps s port))
  else s

/-! ### The rows on gate lists -/

/-- A pending list that has come to its CT made operational (R221, R222). -/
def configChange (port : Nat) (s : State) : State :=
  let s := gateSync s port
  match pendingList s port with
  | none => s
  | some p =>
    if p.start ≤ dtNow s then
      let s := modSw s (fun w => { w with operLists := Tab.put w.operLists port p })
      let s := wr (wr s Reg.ETH_TAS_STATUS.pending 0 port) Reg.ETH_TAS_STATUS.has_oper 1 port
      let s := wr s Reg.ETH_TAS_CHANGE.ct 0 port
      gateSync (ethEvent s port 4 (leBytes 8 p.start ++ leBytes 4 p.cycle)) port
    else s

/-- The entries of a gate list's parameters. -/
def gclEntries (p : Bytes) (n : Nat) : List (Nat × Nat) :=
  (List.range n).map (fun k => (leAt p (40 + 8 * k) 4, leAt p (44 + 8 * k) 4))

/-- ETH_GCL_WRITE (R221). -/
def opGclWrite (p : Bytes) (s : State) : CmdAnswer :=
  let port := byteAt p 0
  let n := leAt p 2 2
  let base := leAt p 8 8
  let cycle := leAt p 16 4
  let ext := leAt p 20 4
  let sdu := (List.range 8).map (fun c => leAt p (24 + 2 * c) 2)
  let es := gclEntries p n
  if p.length < 40 || p.length ≠ 40 + 8 * n then fail s stBadLength
  else if 11 < port then fail s stBadParam
  else if 256 < n then fail s stNoSpace
  else if cycle = 0 || 1000000000 < cycle || cycle < ext || sdu.any (fun x => decide (9216 < x)) ||
      byteAt p 1 ≠ 0 || leAt p 4 4 ≠ 0 || es.any (fun e => decide (255 < e.1) || decide (e.2 < 64)) then fail s stBadParam
  else
    let least := dtNow s + 100000
    let ct := if least ≤ base then base else base + ceilDiv (least - base) cycle * cycle
    let s := modSw s (fun w => { w with adminLists := Tab.put w.adminLists port ⟨base, ct, cycle, ext, sdu, es⟩ })
    let s := wr (wr s Reg.ETH_TAS_CHANGE.ct ct port) Reg.ETH_TAS_STATUS.pending 1 port
    okay s (leBytes 8 ct)

/-- ETH_GCL_READ (R226). -/
def opGclRead (p : Bytes) (s : State) : CmdAnswer :=
  let port := byteAt p 0
  let first := leAt p 2 2
  let k := leAt p 4 2
  if p.length ≠ 8 then fail s stBadLength
  else if 11 < port || 1 < byteAt p 1 || leAt p 6 2 ≠ 0 then fail s stBadParam
  else
    match (if byteAt p 1 = 0 then operList s port else Tab.find s.sw.adminLists port) with
    | none => fail s stNotFound
    | some l =>
      let n := l.entries.length
      if 64 < k || n < first + k then fail s stBadParam
      else
        let head := leBytes 1 port ++ zeros 1 ++ leBytes 2 n ++ zeros 4 ++ leBytes 8 l.base ++ leBytes 4 l.cycle ++
          leBytes 4 l.ext ++ (l.sdu.map (leBytes 2)).flatten
        let body := (((l.entries.drop first).take k).map (fun e => leBytes 4 e.1 ++ leBytes 4 e.2)).flatten
        okay s (head ++ body)

/-- GATE_ENTRY_CHANGE (R221). -/
def execGateEntryChange (t : Nat) (port : Fin 12) (s : State) : Host.Outcome State Fault Refusal :=
  running t s <|
  done (gateSync (tick t s) port)

/-- CONFIG_CHANGE_TIME (R221). -/
def execConfigChangeTime (t : Nat) (port : Fin 12) (s : State) : Host.Outcome State Fault Refusal :=
  running t s <|
  done (configChange port (tick t s))

/-- ETH_GCL_WRITE (R221). -/
def execEthGclWrite (t : Nat) (c : Call) (p : Bytes) (s : State) : Host.Outcome State Fault Refusal :=
  commandRow t 0x1400 c p s (fun s => answer 0x1400 c (opGclWrite p s))

/-- ETH_GCL_READ (R226). -/
def execEthGclRead (t : Nat) (c : Call) (p : Bytes) (s : State) : Host.Outcome State Fault Refusal :=
  commandRow t 0x1401 c p s (fun s => answer 0x1401 c (opGclRead p s))

end Sys2Proof.Machine
end

