-- ==== Sys2Proof/Machine/HostRing.lean ====
section
/-! DEFINITION. Completion of host frame descriptors, and the delivery of a frame that leaves the switch core for the host
(R391, Table 15.6). -/

namespace Sys2Proof.Machine

/-- An HB event (Table 15.8), limited. -/
def hbEventLimited (s : State) (code inst n : Nat) (data : Nat → Bytes) : State :=
  raiseInLimited s Reg.HB_INT_STATUS.event 0 13 code inst inst n data

/-- The descriptors ring `r` holds, from its head on. -/
def ringOf (s : State) (r : Nat) : List HostDesc := Tab.get s.hb.rings r []

/-- The descriptor at the head of ring `r` written back as `desc` with done set last, the head advanced, its interrupt made
pending where the descriptor asks for it (R391, R392). -/
def completeDesc (s : State) (r : Nat) (desc : Bytes) : State :=
  let head := rd s Reg.HB_RING_HEAD.head r
  let irq := bitSet (byteAt desc 10) 1
  let s := emit s (.hostWrite (rd s Reg.HB_RING_BASE.base r + 32 * head) (putBytes desc 10 (leBytes 1 (orBit (byteAt desc 10) 0))))
  let s := { s with hb := { s.hb with
    rings := Tab.put s.hb.rings r ((ringOf s r).drop 1)
    ringIrq := if irq then orBit s.hb.ringIrq r else s.hb.ringIrq } }
  wr s Reg.HB_RING_HEAD.head ((head + 1) % 2 ^ rd s Reg.HB_RING_SIZE.log2 r) r

/-- A frame without its FCS delivered to the receive ring of its class, or dropped (R391). -/
def ringDeliver (s : State) (data : Bytes) (cls input stamp vlan : Nat) : State :=
  let r := 4 + cls / 2
  let drop := hbEventLimited (bump s Reg.HB_STAT_RING_DROP.value) 7 r 1 (leBytes 4)
  if !rdB s Reg.HB_RING_SIZE.en r then drop
  else
    match (ringOf s r).head? with
    | none => drop
    | some d =>
      if leAt d.desc 8 2 < data.length then drop
      else
        let s := emit s (.hostWrite (leAt d.desc 0 8) data)
        let x := putBytes d.desc 8 (leBytes 2 data.length)
        let x := putBytes (putBytes x 11 (leBytes 1 cls)) 12 (leBytes 2 vlan)
        let x := putBytes (putBytes (putBytes x 14 (leBytes 1 input)) 16 (leBytes 8 stamp)) 24 (leBytes 2 0)
        completeDesc s r x

end Sys2Proof.Machine
end

