-- ==== Sys2Proof/Machine/Macsec.lean ====
section
/-! DEFINITION. The MACsec SecY of an Ethernet port (R331, R332). The frame outcomes are those of IEEE 802.1AE-2018, which the
spec names and does not print: PRESUMED (assumption 35). -/

namespace Sys2Proof.Machine

/-- What the SecY makes of a frame: the frame to hand on, nothing, or a verification under receive SA `sa` with packet number
`pn`. -/
inductive SecYOut where
  | pass (data : Bytes)
  | drop
  | cipher (sa pn : Nat)
  deriving DecidableEq, Repr

/-- The state after, and what becomes of the frame. -/
abbrev SecYResult := State × SecYOut

/-- A port's MACsec counter raised by 1. -/
def msCount (s : State) (f : Fld) (port : Nat) : State := bump s f port

/-- Whether the cipher engine may run a request under key slot `slot` for MACsec. -/
def msKeyOk (s : State) (slot : Nat) : Bool := rdB s Reg.CX_CTRL.en && keyCheck s slot 0 == stOk

/-- The receive SC of a port whose peer SCI is `sci`, or the only one where the frame names none. -/
def rxScFor (s : State) (port an : Nat) (sci : Option Nat) : Option (Nat × MacsecSa) :=
  let all := s.cx.rxSas.filter (fun x => x.1 / 64 == port && x.1 % 4 == an && x.2.enabled)
  match sci with
  | some v => all.find? (fun x => x.2.peer == v)
  | none => all.head?

/-- The full packet number of a received one, from the next one expected (XPN: the nearest at or above half a cycle below). -/
def fullPn (xpn : Bool) (next pn : Nat) : Nat :=
  if !xpn then pn
  else
    let hi := next / 2 ^ 32
    if pn < next % 2 ^ 32 ∧ 2 ^ 31 ≤ next % 2 ^ 32 - pn then (hi + 1) * 2 ^ 32 + pn
    else if next % 2 ^ 32 < pn ∧ 2 ^ 31 ≤ pn - next % 2 ^ 32 then (hi - 1) * 2 ^ 32 + pn
    else hi * 2 ^ 32 + pn

/-- The lowest acceptable packet number of an SA whose next one is `next`. -/
def lowestPn (y : SecY) (next : Nat) : Nat := next - y.window

/-! ### Frames as IEEE 802.1AE lays them out -/

/-- Where the secure data of a protected frame begins: after a SecTAG with or without an SCI. -/
def msHeader (data : Bytes) : Nat := if bitSet (byteAt data 14) 5 then 28 else 20

/-- Where it ends and the ICV begins: the short length's bytes on, or 16 bytes before the frame's end. -/
def msIcvAt (data : Bytes) : Nat :=
  let sl := byteAt data 15
  if sl = 0 then data.length - 16 else msHeader data + sl

/-- Whether a SecTAG is malformed. -/
def msBadTag (y : SecY) (data : Bytes) : Bool :=
  let tag := byteAt data 14
  bitSet tag 7 || (bitSet tag 6 && bitSet tag 5) || (bitSet tag 5 && bitSet tag 4) || (bitSet tag 3 && !bitSet tag 2) ||
    48 ≤ byteAt data 15 || decide (data.length < msHeader data + 16) || decide (data.length < msIcvAt data + 16) ||
    (byteAt data 15 == 0 && decide (msIcvAt data < msHeader data + 48)) || (beAt data 16 4 == 0 && !isXpn y.suite)

/-- A received frame without its SecTAG and ICV, its secure data as it stands. -/
def msClear (data : Bytes) : Bytes := data.take 12 ++ (data.take (msIcvAt data)).drop (msHeader data)

/-- The bytes of user data a SecY leaves in clear ahead of what it encrypts. -/
def SecY.offsetBytes (y : SecY) : Nat := [0, 30, 50].getD y.offset 0

/-- The IV of a frame numbered `pn` of the channel `sci`: the two as they stand, or, under an XPN suite, the SSCI and the
64-bit number combined with the salt. -/
def msIv (y : SecY) (sa : MacsecSa) (sci pn : Nat) : Bytes :=
  if isXpn y.suite then xorBytes (beBytes 4 sa.ssci ++ beBytes 8 pn) (padTo 12 sa.salt) else beBytes 8 sci ++ beBytes 4 pn

/-! ### Reception -/

/-- What the SecY of a port makes of a frame at the end of its reception, before any verification (R331). -/
def msReceive (s : State) (port : Nat) (data : Bytes) : SecYResult :=
  let y := secY s port
  let strict := y.validate == 2
  if !y.enable then (s, .pass data)
  else if beAt data 12 2 ≠ 0x88E5 then (msCount s Reg.CX_MS_in_untagged.value port, if strict then .drop else .pass data)
  else if msBadTag y data then (msCount s Reg.CX_MS_in_bad_tag.value port, .drop)
  else
    let tag := byteAt data 14
    let changed := bitSet tag 2
    let sci := if bitSet tag 5 then some (beAt data 20 8)
      else if bitSet tag 6 then some (beAt data 6 6 * 65536 + 1) else none
    match rxScFor s port (tag % 4) sci with
    | none => (msCount s Reg.CX_MS_in_no_sa.value port, if strict || changed then .drop else .pass (msClear data))
    | some (k, sa) =>
      let n := fullPn (isXpn y.suite) sa.pn (beAt data 16 4)
      if y.replayProtect && decide (n < lowestPn y sa.pn) then (msCount s Reg.CX_MS_in_late.value port, .drop)
      else if y.validate = 0 then
        (msCount s Reg.CX_MS_in_unchecked.value port, if changed then .drop else .pass (msClear data))
      else if !msKeyOk s sa.slot then (msCount s Reg.CX_MS_in_not_valid.value port, .drop)
      else (s, .cipher k n)

/-- How many bytes of a received frame's secure data are in clear: all of them where the SecTAG tells of no encryption. -/
def msInClear (y : SecY) (data : Bytes) : Nat :=
  let n := msIcvAt data - msHeader data
  if bitSet (byteAt data 14) 3 then min y.offsetBytes n else n

/-- The verification of a frame under receive SA `k`, `n` its packet number (R325, R331): the additional data is everything up
to the encrypted bytes. -/
def msRequest (s : State) (port id : Nat) (rx : EthRx) (early : Bool) (k n : Nat) : CxReq :=
  let y := secY s port
  let sa := Tab.get s.cx.rxSas k ⟨0, 0, 0, [], 0, false, false⟩
  let data := rx.frame.take (rx.frame.length - 4)
  let aad := msHeader data + msInClear y data
  let len := msIcvAt data - aad
  { id := 0
    queue := 1
    mode := 2
    op := 1
    slot := sa.slot
    gen := 0
    mac := none
    streaming := false
    noPad := false
    tagLen := 16
    voidId := 0
    aadLen := aad
    dataLen := len
    iv := msIv y sa sa.peer n
    tag := sliceBytes data (msIcvAt data) 16
    input := data.take (msIcvAt data)
    src := 0
    dst := 0
    units := ceilDiv (msIcvAt data - msHeader data) 256
    verifies := true
    pipe := none
    released := 0
    waiter := .macsec port id rx early k n }

/-- The end of such a verification (R331): the frame without its SecTAG and ICV, its plaintext in place; where it fails,
nothing, or, in Check, an unchanged frame as it came. -/
def msVerified (s : State) (port : Nat) (data : Bytes) (k n : Nat) (ok : Bool) (plain : Bytes) : State × Option Bytes :=
  let y := secY s port
  let h := msHeader data
  if !ok then
    if y.validate = 2 ∨ bitSet (byteAt data 14) 2 = true then (msCount s Reg.CX_MS_in_not_valid.value port, none)
    else (msCount s Reg.CX_MS_in_invalid.value port, some (msClear data))
  else
    let next := ((Tab.find s.cx.rxSas k).map (fun a => a.pn)).getD 0
    let late := decide (n < lowestPn y next)
    if late && y.replayProtect then (msCount s Reg.CX_MS_in_late.value port, none)
    else
      let s := msCount s (if late then Reg.CX_MS_in_delayed.value else Reg.CX_MS_in_ok.value) port
      let s := { s with cx := { s.cx with
        rxSas := Tab.mapAll (fun i a => if i = k then { a with pn := max a.pn (n + 1) } else a) s.cx.rxSas } }
      (s, some (data.take 12 ++ (data.drop h).take (msInClear y data) ++ plain))

/-! ### Transmission -/

/-- A frame as the SecY of a port protects it under transmit SA `an` (R331, R332), and whether any of it is encrypted: with
its SCI in the SecTAG, or without, and then marked as an end station's where the SCI is that of its source address. -/
def msProtect (s : State) (port an : Nat) (sa : MacsecSa) (data : Bytes) : Bytes × Bool :=
  let y := secY s port
  let user := data.drop 12
  let clear := min y.offsetBytes user.length
  let enc := decide (clear < user.length)
  let station := !y.includeSci && y.sci == beAt data 6 6 * 65536 + 1
  let tci := an + (if enc then 12 else 0) + b2n y.includeSci * 32 + b2n station * 64
  let tag : Bytes := beBytes 2 0x88E5 ++ beBytes 1 tci ++ beBytes 1 (if user.length < 48 then user.length else 0) ++
    beBytes 4 (sa.pn % 2 ^ 32) ++ (if y.includeSci then beBytes 8 y.sci else [])
  let aad := data.take 12 ++ tag ++ user.take clear
  let key := keyOf s sa.slot
  let iv := msIv y sa y.sci sa.pn
  let c := gcmCrypt key iv (user.drop clear)
  (aad ++ c ++ gcmTag key iv aad c, enc)

/-- The active transmit SA of a port. -/
def txSaOf (s : State) (port : Nat) : Option (Nat × MacsecSa) :=
  (secY s port).active.bind (fun an => (Tab.find s.cx.txSas (port * 4 + an)).map (fun a => (an, a)))

/-- A frame about to start on a port, protected where its SecY does so (R315, R331, R332); discarded without an active SA,
under an exhausted one, and where the cipher engine does not take it. -/
def msTransmit (s : State) (port waiting : Nat) (data : Bytes) : SecYResult :=
  let y := secY s port
  if !y.enable then (s, .pass data)
  else if !y.protect then (msCount s Reg.CX_MS_out_untagged.value port, .pass data)
  else
    match txSaOf s port with
    | none => (s, .drop)
    | some (an, sa) =>
      let last := if isXpn y.suite then 2 ^ 64 - 1 else 2 ^ 32 - 1
      if last ≤ sa.pn then
        (raiseIn (msCount s Reg.CX_MS_out_exhausted.value port) Reg.CX_INT_STATUS.event 0 11 8 port (leBytes 1 0 ++ leBytes 1 an),
          .drop)
      else if !msKeyOk s sa.slot then (s, .drop)
      else if waiting = 64 then (queueFull s 2, .drop)
      else
        let (out, enc) := msProtect s port an sa data
        if rd s Reg.ETH_CFG.max_len port < out.length + 4 then (bump s Reg.ETH_TX_OVERSIZE.value port, .drop)
        else
          let next := sa.pn + 1
          let thresh := if isXpn y.suite then rd s Reg.CX_XPN_THRESH_HI.xpn_hi * 2 ^ 32 else rd s Reg.CX_PN_THRESH.pn
          let warn := !sa.warned && decide (thresh ≤ next)
          let s := { s with cx := { s.cx with
            sent := Tab.put s.cx.sent (port * 512 + sa.slot) ((keySlot s sa.slot).gen, next)
            txSas := Tab.put s.cx.txSas (port * 4 + an) { sa with
              pn := next
              warned := sa.warned || warn } } }
          let s := if warn then
            raiseIn s Reg.CX_INT_STATUS.event 0 11 7 port (leBytes 1 0 ++ leBytes 1 an ++ leBytes 8 next) else s
          (msCount s (if enc then Reg.CX_MS_out_encrypted.value else Reg.CX_MS_out_protected.value) port, .pass out)

end Sys2Proof.Machine
end

