-- ==== Sys2Proof/Machine/Turns.lean ====
section
/-! DEFINITION. Turns (R284–R291): which entries live in which turn, the sweep, the commit instant, and what the discarding of
a frame that carries a turn brings about. -/

namespace Sys2Proof.Machine

/-- The classification state changed by `f`. -/
def modCl (s : State) (f : ClState → ClState) : State := { s with cl := f s.cl }

/-- A CL event (Table 11.7). -/
def clEvent (s : State) (code inst : Nat) (data : Bytes) : State := raiseIn s Reg.CL_INT_STATUS.event 0 8 code inst data

/-- The signed distance from turn `x` up to the current turn `c`, modulo 2^16 (R286). -/
def turnDist (c x : Nat) : Int := signed 16 (c + 65536 - x % 65536)

/-- Whether an entry is live in turn `t` while the current turn is `c` (R286). -/
def ClEntry.live (e : ClEntry) (t c : Nat) : Bool :=
  let st := turnDist c t
  let born := e.settled || decide (st ≤ turnDist c e.birth)
  let dead := match e.death with
    | none => false
    | some d => decide (st ≤ turnDist c d)
  born && !dead

/-- The frames that carry turn `t`. -/
def carriers (s : State) (t : Nat) : Nat := (s.sw.frames.filter (fun f => f.2.turn == some t)).length

/-- The oldest turn a frame carries, the current one where none does (R290). -/
def oldestTurn (s : State) : Nat :=
  let c := s.cl.current
  ((firstFrom (fun k => decide (0 < carriers s ((c + 65536 - (3 - k)) % 65536))) 0 4).map
    (fun k => (c + 65536 - (3 - k)) % 65536)).getD c

/-- Turns in the live window (R288). -/
def liveWindow (s : State) : Nat := (turnDist s.cl.current (oldestTurn s)).toNat + 1

/-- Turn `a` is `b` or an earlier one, while the current turn is `c`. -/
def turnLe (c a b : Nat) : Bool := decide (turnDist c b ≤ turnDist c a)

/-- The sweep for the oldest carried turn `l` (R290): dead entries freed, born ones settled. -/
def sweep (s : State) (l : Nat) : State :=
  let c := s.cl.current
  let es := Tab.keep (fun _ (e : ClEntry) => match e.death with
    | none => true
    | some d => !turnLe c d l) s.cl.entries
  let es := Tab.mapAll (fun _ (e : ClEntry) => { e with settled := e.settled || turnLe c e.birth l }) es
  modCl s (fun g => { g with
    entries := es
    miss := Tab.keep (fun t _ => turnLe c l t) g.miss
    swept := l })

/-- The commit instant: the open turn becomes the current one (R288). -/
def commitNow (s : State) : State :=
  match s.cl.commit, s.cl.open_ with
  | some k, some o =>
    let n := (s.cl.current + 1) % 65536
    let s := modCl s (fun g => { g with
      current := n
      open_ := none
      commit := none
      miss := Tab.put g.miss n o.miss })
    let s := bump s Reg.CL_STAT_COMMIT.value
    clEvent s 1 0xFFFF (leBytes 2 n ++ leBytes 2 k.adds ++ leBytes 2 k.dels ++ leBytes 4 ((s.now - k.accepted) / us))
  | _, _ => s

/-- What a change of the frames or of the current turn brings about: the sweep where the oldest carried turn has changed,
and the commit instant of a commit that its window no longer stalls (R289, R290); `n` bounds how often. -/
def turnSyncN : Nat → State → State
  | 0, s => s
  | n + 1, s =>
    let s := if oldestTurn s = s.cl.swept then s else sweep s (oldestTurn s)
    match s.cl.commit with
    | some k => if k.stalled && decide (liveWindow s < 4) then turnSyncN n (commitNow s) else s
    | none => s

/-- The same, as often as it can happen at one instant. -/
def turnSync (s : State) : State := turnSyncN 2 s

/-- Frame `id` taken from every place it waits in before its decision. -/
def unqueue (s : State) (id : Nat) : State :=
  let off := Tab.mapAll (fun _ (l : List Nat) => l.filter (fun i => i != id))
  let s := modSw s (fun w => { w with arrived := off w.arrived })
  { s with pe := { s.pe with
    queues := off s.pe.queues
    order := off s.pe.order
    results := s.pe.results.filter (fun i => i != id) } }

/-- Frame `id` discarded before or at its decision: its cells freed, its turn carried no longer. -/
def discardFrame (s : State) (id : Nat) : State := turnSync (freeFrame (unqueue s id) id)

end Sys2Proof.Machine
end

