-- ==== Sys2Proof/Machine/Switch.lean ====
section
/-! DEFINITION. The switch core behind the classification (chapter 8): mirroring, the per-stream functions, the enqueueing of
copies, and what each output sends. -/

namespace Sys2Proof.Machine

/-! ### Bytes of a frame on its way out -/

/-- The first place from `p` on, in steps of a VLAN tag, where no VLAN tag stands; the second argument bounds the tags. -/
def pastTags (data : Bytes) : Nat → Nat → Nat
  | 0, p => p
  | n + 1, p => if beAt data p 2 = 0x8100 ∨ beAt data p 2 = 0x88A8 then pastTags data n (p + 4) else p

/-- Where the EtherType after the VLAN tags of a frame stands (R217). -/
def typePos (data : Bytes) : Nat := pastTags data (data.length / 4) 12

/-- Whether a frame carries an R-TAG, and its sequence number (R216). -/
def rTag (data : Bytes) : Option Nat := if beAt data (typePos data) 2 = 0xF1C1 then some (beAt data (typePos data + 4) 2) else none

/-- A frame without its R-TAG. -/
def popRTag (data : Bytes) : Bytes := data.take (typePos data) ++ data.drop (typePos data + 6)

/-- A frame with an R-TAG carrying `seq`, in place of one already there (R217). -/
def pushRTag (data : Bytes) (seq : Nat) : Bytes :=
  let d := if (rTag data).isSome then popRTag data else data
  d.take (typePos d) ++ beBytes 2 0xF1C1 ++ zeros 2 ++ beBytes 2 seq ++ d.drop (typePos d)

/-- A frame's bytes replaced, its length with them. -/
def CoreFrame.withData (f : CoreFrame) (d : Bytes) : CoreFrame :=
  { f with
    data := d
    len := d.length + 4
    fcs := fcsOf d }

/-- The bytes frame `f` leaves output `out` with, up to the FCS (R242): an Ethernet output tags it or not, the others take it
as it stands. -/
def egressData (f : CoreFrame) (out : Nat) : Bytes :=
  if f.raw || 12 ≤ out then f.data
  else
    let d := untagged f.data
    if bitSet f.untag out then d
    else
      let tpid := if isTagged f.data then beAt f.data 12 2 else 0x8100
      d.take 12 ++ beBytes 2 tpid ++ beBytes 2 (f.pcp * 8192 + b2n f.dei * 4096 + f.vid % 4096) ++ d.drop 12

/-- Next-hop fields (Table 9.7). -/
def Nh.device (e : Nat) : Nat := bitsOf e 0 6
def Nh.kind (e : Nat) : Nat := bitsOf e 6 2
def Nh.port (e : Nat) : Nat := bitsOf e 8 5
def Nh.vid (e : Nat) : Nat := bitsOf e 13 12
def Nh.tagged (e : Nat) : Bool := bitSet e 25
def Nh.valid (e : Nat) : Bool := bitSet e 31

/-- A routed frame as it leaves: the next hop's address and tag, the router's as source, TTL or hop limit less 1, the IPv4
checksum brought up to that (R243). -/
def routeFrame (s : State) (f : CoreFrame) (e : Nat) : CoreFrame :=
  let l3 := bitsOf (f.result.getD 3 0) 0 10
  let d := f.data
  let d :=
    if bitsOf (f.result.getD 2 0) 16 8 = 4 then
      let c := beAt d (l3 + 10) 2 + 256
      putBytes (putBytes d (l3 + 8) (beBytes 1 (byteAt d (l3 + 8) - 1))) (l3 + 10) (beBytes 2 (c % 65536 + c / 65536))
    else putBytes d (l3 + 7) (beBytes 1 (byteAt d (l3 + 7) - 1))
  let d := leBytes 6 (bitsOf e 64 48) ++ leBytes 6 (rd s Reg.FT_RTR_MAC.mac) ++ d.drop 12
  { f.withData d with
    vid := Nh.vid e
    untag := if Nh.tagged e then 0 else 0xFFF }

/-! ### Mirroring (R224) -/

/-- Whether the link of output `out` is up; outputs other than Ethernet and Tyeth have none. -/
def outUp (s : State) (out : Nat) : Bool :=
  if out < 12 then rdB s Reg.ETH_STATUS.link out else if out < 16 then linkUp s (out - 12) else true

/-- A copy that session `m` drops. -/
def mirrorDrop (s : State) (m : Nat) : State := swEvent (bump s Reg.SW_MIRROR_DROP.drops m) 6 m 1 (leBytes 4)

/-- A place put at the end of a queue. -/
def pushVoq (s : State) (v : Nat) (e : QEntry) : State := setVoq s v (voqOf s v ++ [e])

/-- A frame offered to mirror session `m` (R224): every Nth is copied, charged to input `p`. -/
def mirrorCopy (s : State) (m p : Nat) (data : Bytes) (stamp : Nat) : State :=
  let n := rd s Reg.SW_MIRROR_N.n m
  if !rdB s Reg.SW_MIRROR_CFG.en m || n = 0 then s
  else
    let seen := Tab.get s.sw.mirrorSeen m 0
    let s := modSw s (fun w => { w with mirrorSeen := Tab.put w.mirrorSeen m ((seen + 1) % n) })
    if seen % n ≠ 0 then s
    else
      let dest := rd s Reg.SW_MIRROR_CFG.dest m
      let cls := rd s Reg.SW_MIRROR_CFG.class_ m
      let trunc := rd s Reg.SW_MIRROR_CFG.trunc m
      let data := if trunc = 0 then data else data.take (trunc - 4)
      if !outUp s dest then mirrorDrop s m
      else
        let f := { CoreFrame.entering data (fcsOf data) p cls with
          raw := true
          stamp := stamp }
        let (s, id) := addFrame s f
        match admitCells id (ceilDiv f.len 256) s with
        | (s, false) => mirrorDrop (freeFrame s id) m
        | (s, true) =>
          let s := if dest < 12 then gateSync s dest else s
          pushVoq (bump s Reg.SW_MIRROR_CNT.copies m) (voqIndex p dest cls) ⟨id, ⟨dest, 0, 31, false, none⟩⟩

/-- The port receive mirror of input `p`. -/
def mirrorRx (s : State) (p : Nat) (data : Bytes) (stamp : Nat) : State :=
  if rdB s Reg.SW_PORT_MIRROR.rx_en p then mirrorCopy s (rd s Reg.SW_PORT_MIRROR.rx_session p) p data stamp else s

/-- The port transmit mirror of output `p`, for a frame of input `input`. -/
def mirrorTx (s : State) (p input : Nat) (data : Bytes) (stamp : Nat) : State :=
  if rdB s Reg.SW_PORT_MIRROR.tx_en p then mirrorCopy s (rd s Reg.SW_PORT_MIRROR.tx_session p) input data stamp else s

/-- The mirrors of RCIRC for a frame sent round (R224, R270): it leaves by output 18 as `data`, of input `input`, and arrives on
input 18 as `rest`. -/
def mirrorRound (s : State) (input : Nat) (data rest : Bytes) (stamp : Nat) : State :=
  mirrorRx (mirrorTx s 18 input data stamp) 18 rest stamp

/-! ### Per-stream functions (R214–R217) -/

/-- A counter of a policer or of a recovery function raised by `k`, saturating. -/
def statAdd (t : Tab Nat) (i field k : Nat) : Tab Nat := Tab.upd t (8 * i + field) 0 (fun v => min (v + k) 0xFFFFFFFF)

/-- A policer counter raised. -/
def polCount (s : State) (i field : Nat) : State := modSw s (fun w => { w with polStats := statAdd w.polStats i field 1 })

/-- A recovery counter raised by `k`. -/
def cbCount (s : State) (i field k : Nat) : State := modSw s (fun w => { w with cbStats := statAdd w.cbStats i field k })

/-- What the vector algorithm answers for one sequence number (R216). -/
inductive VecOut where
  | pass (r : RecRun) (lost : Nat) (ooo : Bool)
  | duplicate
  | rogue
  deriving DecidableEq, Repr

/-- The vector algorithm with a history of `len` (R216). -/
def vectorRecover (len : Nat) (r : RecRun) (seq now : Nat) : VecOut :=
  if r.takeAny then .pass ⟨false, seq, 1, some now⟩ 0 false
  else
    let d := signed 16 (seq + 65536 - r.recv)
    if (len : Int) ≤ d ∨ d ≤ -(len : Int) then .rogue
    else if d ≤ 0 then
      let k := (-d).toNat
      if bitSet r.hist k then .duplicate else .pass ⟨false, r.recv, orBit r.hist k, some now⟩ 0 true
    else
      let k := d.toNat
      let lost := countBelow (fun i => !bitSet r.hist (len - 1 - i)) k
      .pass ⟨false, seq, (r.hist * 2 ^ k + 1) % 2 ^ 32, some now⟩ lost false

/-- The run-time state of recovery function `i`. -/
def recRun (s : State) (i : Nat) : RecRun := Tab.get s.sw.recRuns i ⟨true, 0, 0, none⟩

/-- Recovery fields (Table 8.11). -/
def Rec.len (e : Nat) : Nat := bitsOf e 8 6
def Rec.resetMs (e : Nat) : Nat := bitsOf e 32 16

/-- A frame passed by recovery function `i`. -/
def recPass (s : State) (i : Nat) (r : RecRun) : State := modSw (cbCount s i 0 1) (fun w => { w with recRuns := Tab.put w.recRuns i r })

/-- Sequence recovery of a frame by function `i` (R216): the frame as it goes on, or none. A function that is not valid acts
on nothing. -/
def recover (s : State) (i : Nat) (f : CoreFrame) : State × Option CoreFrame :=
  let e := Tab.get s.sw.recs i 0
  let r := recRun s i
  let popped := if bitSet e 2 then f.withData (popRTag f.data) else f
  if !bitSet e 31 then (s, some f)
  else
    match rTag f.data with
    | none =>
      if bitSet e 1 then (recPass s i { r with timer := some s.now }, some f) else (cbCount s i 5 1, none)
    | some q =>
      if Rec.len e = 0 then (recPass s i { r with timer := some s.now }, some popped)
      else if bitSet e 0 then
        if !r.takeAny && q == r.recv then (cbCount s i 1 1, none)
        else (recPass s i ⟨false, q, 1, some s.now⟩, some popped)
      else
        match vectorRecover (Rec.len e) r q s.now with
        | .rogue => (swEvent (cbCount s i 2 1) 5 i 1 (leBytes 4), none)
        | .duplicate => (cbCount s i 1 1, none)
        | .pass r' lost ooo =>
          let s := cbCount (if ooo then cbCount s i 3 1 else s) i 4 lost
          (recPass s i r', some popped)

/-- RECOVERY_RESET_TIMER (R216): once for each lapse of reset_ms without a passed frame, the next passed frame starting the
timer again (assumption 98). -/
def recoveryReset (i : Nat) (s : State) : State :=
  let e := Tab.get s.sw.recs i 0
  let r := recRun s i
  if bitSet e 31 && (r.timer.map (fun t => decide (t + Rec.resetMs e * ms ≤ s.now))).getD false then
    let s := modSw (cbCount s i 6 1) (fun w => { w with recRuns := Tab.put w.recRuns i { r with
      takeAny := true
      hist := 0
      timer := none } })
    swEvent s 4 i 1 (leBytes 4)
  else s

/-- One byte in the meters' unit of 10^-6 bit. -/
def byteUnits : Nat := 8000000

/-- Policer fields (Table 8.10). -/
def Pol.maxSdu (e : Nat) : Nat := bitsOf e 0 14
def Pol.cir (e : Nat) : Nat := bitsOf e 32 32
def Pol.eir (e : Nat) : Nat := bitsOf e 64 32
def Pol.cbs (e : Nat) : Nat := bitsOf e 96 32
def Pol.ebs (e : Nat) : Nat := bitsOf e 128 32

/-- A policer's buckets brought up to now (R215); with the coupling flag what overflows the committed bucket goes to the
excess one. -/
def meterNow (s : State) (i : Nat) : Meter :=
  let e := Tab.get s.sw.policers i 0
  let x := Tab.get s.sw.meters i ⟨Pol.cbs e * byteUnits, Pol.ebs e * byteUnits, s.now⟩
  let d := s.now - x.at_
  let c := x.committed + Pol.cir e * d
  let spill := if bitSet e 15 then c - Pol.cbs e * byteUnits else 0
  ⟨min c (Pol.cbs e * byteUnits), min (x.excess + Pol.eir e * d + spill) (Pol.ebs e * byteUnits), s.now⟩

/-- Metering of a frame by policer `i` (R214, R215): the frame as it goes on, or none. -/
def police (s : State) (i : Nat) (f : CoreFrame) : State × Option CoreFrame :=
  let e := Tab.get s.sw.policers i 0
  if !bitSet e 31 then (s, some f)
  else
    let s := polCount s i 0
    if Pol.maxSdu e ≠ 0 ∧ Pol.maxSdu e < f.len then (polCount s i 4, none)
    else if bitSet e 18 then (polCount s i 3, none)
    else
      let x := meterNow s i
      let need := f.len * byteUnits
      let yellowIn := bitSet e 14 && f.dei
      let set := fun (s : State) (x : Meter) => modSw s (fun w => { w with meters := Tab.put w.meters i x })
      if !yellowIn && Pol.cir e != 0 && decide (need ≤ x.committed) then
        (polCount (set s { x with committed := x.committed - need }) i 1, some f)
      else if Pol.eir e ≠ 0 ∧ need ≤ x.excess then
        let s := polCount (set s { x with excess := x.excess - need }) i 2
        (s, if bitSet e 16 then none else some { f with dei := true })
      else
        let s := polCount (set s x) i 3
        let s :=
          if bitSet e 17 then
            let s := modSw s (fun w => { w with policers := Tab.put w.policers i (orBit e 18) })
            raiseIn s Reg.SW_INT_STATUS.event 0 5 3 i []
          else s
        (s, none)

/-- Sequence generation by function `i` (R217); tells whether it tagged the frame. -/
def genRTag (s : State) (i : Nat) (f : CoreFrame) : State × CoreFrame × Bool :=
  let e := Tab.get s.sw.gens i 0
  if !bitSet e 31 then (s, f, false)
  else
    let q := bitsOf e 0 16
    (modSw s (fun w => { w with gens := Tab.put w.gens i (setBits e 0 16 (q + 1)) }), f.withData (pushRTag f.data q), true)

/-- Whether the per-stream functions apply to a frame: its action says so and an Ethernet port received it (R214). -/
def isStreamed (f : CoreFrame) : Bool := bitSet f.action 17 && decide (f.port0 < 12)

/-- A frame's stream entry read at its final decision (R214). -/
def readStream (s : State) (f : CoreFrame) : State × CoreFrame :=
  if isStreamed f then
    let e := Tab.get s.sw.streams (bitsOf f.action 6 11) 0
    (if bitSet e 63 then s else bump s Reg.SW_STAT_STREAM_INV.value, { f with stream := e })
  else (s, f)

/-- The per-stream functions of the entry a frame has read (R214): the frame as it goes on, or none, and whether it was given
an R-TAG. -/
def streamFunctions (s : State) (f : CoreFrame) : State × Option CoreFrame × Bool :=
  let e := f.stream
  if !bitSet e 63 then (s, some f, false)
  else
    match (if bitSet e 21 then recover s (bitsOf e 12 9) f else (s, some f)) with
    | (s, none) => (s, none, false)
    | (s, some f) =>
      match (if bitSet e 11 then police s (bitsOf e 0 11) f else (s, some f)) with
      | (s, none) => (s, none, false)
      | (s, some f) =>
        if bitSet e 31 then
          let (s, f, tagged) := genRTag s (bitsOf e 22 9) f
          (s, some f, tagged)
        else (s, some f, false)

/-! ### Enqueueing -/

/-- One copy enqueued, or removed at enqueue (R204, R217, R220, R346). -/
def enqueueCopy (id : Nat) (tagged : Bool) (s : State) (g : Target) : State :=
  match frameAt s id with
  | none => s
  | some f =>
    let len := (egressData f g.out).length + 4
    if g.out < 12 then
      if !rdB s Reg.ETH_STATUS.link g.out then bump s Reg.ETH_TX_FLUSH.value g.out
      else if tagged && decide (rd s Reg.ETH_CFG.max_len g.out < len) then bump s Reg.ETH_TX_OVERSIZE.value g.out
      else if maxSdu s g.out f.cls ≠ 0 ∧ maxSdu s g.out f.cls < len then bump s Reg.ETH_TX_TAS_SDU.value g.out
      else pushVoq (gateSync s g.out) (voqIndex f.input g.out f.cls) ⟨id, g⟩
    else if !outUp s g.out then bump s Reg.TF_STAT_FLUSH.value
    else pushVoq s (voqIndex f.input g.out f.cls) ⟨id, g⟩

/-- The copies of a frame enqueued; a frame none of whose copies stays is freed. -/
def enqueueFrame (s : State) (id : Nat) (tagged : Bool) : State :=
  match frameAt s id with
  | none => s
  | some f => releaseFrame (f.targets.foldl (enqueueCopy id tagged) s) id

/-- What follows the final decision and the cipher profile: the next hop's changes, the per-stream functions on a frame an
Ethernet port received, enqueueing (R214, R243). -/
def continueFrame (s : State) (id : Nat) : State :=
  match frameAt s id with
  | none => s
  | some f =>
    let f := match f.nextHop with
      | some e => routeFrame s f e
      | none => f
    if isStreamed f then
      match streamFunctions s f with
      | (s, none, _) => freeFrame s id
      | (s, some f, tagged) => enqueueFrame (modFrame s id (fun _ => f)) id tagged
    else enqueueFrame (modFrame s id (fun _ => f)) id false

/-! ### Outputs (R219, R220) -/

/-- The length an Ethernet output sends frame `f` with, its MACsec overhead included. -/
def wireLen (s : State) (f : CoreFrame) (out : Nat) : Nat :=
  let y := secY s out
  (egressData f out).length + 4 + (if y.enable && y.protect then (if y.includeSci then 32 else 24) else 0)

/-- The head of a queue with its frame. -/
def voqHead (s : State) (v : Nat) : Option (QEntry × CoreFrame) :=
  (voqOf s v).head?.bind (fun e => (frameAt s e.frame).map (fun f => (e, f)))

/-- Whether the head of queue `v` can never fit its class's windows on Ethernet output `out`. -/
def neverFits (s : State) (out v : Nat) : Bool :=
  match voqHead s v, longestWindow s out (v % 8) with
  | some (_, f), some w => decide (w < occupancy s out (wireLen s f out))
  | _, _ => false

/-- Head frames of a queue that never fit discarded (R220); `n` bounds how many. -/
def purgeQueue (out v : Nat) : Nat → State → State
  | 0, s => s
  | n + 1, s =>
    if neverFits s out v then
      match voqHead s v with
      | none => s
      | some (e, f) =>
        let len := wireLen s f out
        let s := releaseFrame (setVoq s v ((voqOf s v).drop 1)) e.frame
        let s := bump s Reg.ETH_TX_TAS_OVERRUN.value out
        let s := raiseInLimited s Reg.ETH_INT_STATUS.event out 4 6 out out 1
          (fun k => leBytes 1 (v % 8) ++ zeros 1 ++ leBytes 2 len ++ leBytes 4 k)
        purgeQueue out v n s
    else s

/-- Every queue of an Ethernet output purged. -/
def purgeOutput (s : State) (out : Nat) : State :=
  ((List.range 19).flatMap (fun i => (List.range 8).map (fun c => voqIndex i out c))).foldl
    (fun s v => purgeQueue out v (voqOf s v).length s) s

/-- Whether the head of queue `v` is eligible at output `out` (R219). -/
def eligible (s : State) (out v : Nat) : Bool :=
  match voqHead s v with
  | none => false
  | some (_, f) =>
    if out < 12 then
      let c := v % 8
      let time := occupancy s out (wireLen s f out)
      bitSet (gatesAt s out (dtNow s)) c && creditOk s out c &&
        staysOpen s out c (s.now + time) (time / 4 + 2) s.now
    else true

/-- The queue output `out` serves next: its highest class with an eligible head, its inputs in rotation (R219). -/
def selectQueue (s : State) (out : Nat) : Option Nat :=
  let pick := fun (c : Nat) =>
    let last := Tab.get s.sw.served (8 * out + c) 18
    (firstFrom (fun k => eligible s out (voqIndex ((last + 1 + k) % 19) out c)) 0 19).map
      (fun k => voqIndex ((last + 1 + k) % 19) out c)
  ((List.range 8).reverse.filterMap pick).head?

/-- The fabric frame that carries frame `f` over a Tyeth link (Table 14.2, type 4). -/
def fabricCarry (s : State) (f : CoreFrame) (g : Target) : FabFrame :=
  { fabHeader s 4 f.cls g.device f.data with
    dual := g.seq.isSome
    flood := g.flood
    dstPort := g.port
    orgPort := f.port0
    vid := f.vid
    pcp := f.pcp
    dei := f.dei
    seq := g.seq.getD 0 }

/-- The origin channel of a frame delivered to SGW (Table 5.4). -/
def originChannel (p : Nat) : Nat := if p < 12 then 64 + p else if p = 16 then 126 else 127

/-- A frame delivered to SGW: to the receive PDU its action names, else to the receive streams (R134, R186). -/
def sgwDeliver (s : State) (f : CoreFrame) : State :=
  if bitSet f.action 23 then
    pduReceive s (bitsOf f.action 32 13) (f.data.drop (bitsOf (f.result.getD 3 0) 20 10)) f.stamp f.start (originChannel f.port0)
  else streamReceive s f.data f.stamp f.start (originChannel f.port0)

/-- OUTPUT_FRAME_START (R219): nothing where the output is sending or has no eligible frame. -/
def outputStart (out queue2 : Nat) (s : State) : State :=
  let s := if out < 12 then purgeOutput (gateSync s out) out else s
  if (Tab.find s.sw.sending out).isSome || !outUp s out then s
  else
    match selectQueue s out with
    | none => s
    | some v =>
      match voqHead s v with
      | none => s
      | some (e, f) =>
        let s := setVoq s v ((voqOf s v).drop 1)
        let s := modSw s (fun w => { w with served := Tab.put w.served (8 * out + v % 8) (v / 152) })
        let begin_ := fun (s : State) (d : Bytes) =>
          mirrorTx (modSw s (fun w => { w with sending := Tab.put w.sending out ⟨v, e, d⟩ })) out f.input d f.stamp
        if out < 12 then
          match msTransmit s out queue2 (egressData f out) with
          | (s, .pass d) => begin_ s d
          | (s, _) => releaseFrame s e.frame
        else if out < 16 then putOnLink (begin_ s f.data) (out - 12) (fabricCarry s f e.target)
        else if out = 16 then
          ringDeliver (begin_ s f.data) f.data f.cls f.port0 f.stamp (f.vid % 4096 + f.pcp * 4096 + b2n f.dei * 32768)
        else if out = 17 then sgwDeliver (begin_ s f.data) f
        else begin_ s f.data

/-- A frame on the wire counted as multicast or broadcast (group bit, all ones). -/
def countGroup (s : State) (data : Bytes) (mcast bcast : Fld) (port : Nat) : State :=
  if beAt data 0 6 = 2 ^ 48 - 1 then bump s bcast port
  else if byteAt data 0 % 2 = 1 then bump s mcast port
  else s

/-- OUTPUT_FRAME_END (R219, R211, R43). -/
def outputEnd (out : Nat) (underrun : Bool) (s : State) : State :=
  match Tab.find s.sw.sending out with
  | none => s
  | some x =>
    let s := if out < 12 then gateSync s out else s
    let s := releaseFrame (modSw s (fun w => { w with sending := Tab.del w.sending out })) x.entry.frame
    if 12 ≤ out then s
    else if underrun then bump (emit s (.ethAborted out x.data)) Reg.ETH_TX_UNDR.value out
    else
      let s := bump (emit s (.ethFrame out x.data)) Reg.ETH_TX_OK.value out
      let s := bumpBy s Reg.ETH_TX_OCTETS.value (x.data.length + 4) out
      countGroup s x.data Reg.ETH_TX_MCAST.value Reg.ETH_TX_BCAST.value out

/-- Every copy queued for output `out` removed; tells how many (R204, R346). -/
def flushOutput (s : State) (out : Nat) : State × Nat :=
  let vs := (Tab.keys s.sw.voqs).filter (fun v => v % 152 / 8 == out)
  let es := vs.flatMap (voqOf s)
  let s := vs.foldl (fun s v => setVoq s v []) s
  ((es.map (fun e => e.frame)).foldl releaseFrame s, es.length)

/-- The frame in transmission on output `out` ended, if there is one, on an Ethernet output with an error code (R204); tells
whether. -/
def abortOutput (s : State) (out : Nat) : State × Bool :=
  match Tab.find s.sw.sending out with
  | none => (s, false)
  | some x =>
    let s := releaseFrame (modSw s (fun w => { w with sending := Tab.del w.sending out })) x.entry.frame
    (if out < 12 then emit s (.ethAborted out x.data) else s, true)

/-! ### Per-stream tables (R218, R226) -/

/-- Entries and entry bytes of tables 16–19 (Table 8.8). -/
def perStreamSize (t : Nat) : Nat × Nat := [(2048, 8), (2048, 32), (512, 8), (512, 16)].getD (t - 16) (0, 1)

/-- Table `t` of Table 8.8. -/
def perStreamTab (s : State) (t : Nat) : Tab Nat :=
  match t with
  | 16 => s.sw.streams
  | 17 => s.sw.policers
  | 18 => s.sw.gens
  | _ => s.sw.recs

/-- Whether an entry of table `t` is valid. -/
def perStreamValid (t e : Nat) : Bool := bitSet e (if t = 16 then 63 else 31)

/-- An entry of tables 16–19 written; what its becoming valid sets off (R215, R216). -/
def perStreamPut (t i e : Nat) (s : State) : State :=
  let fresh := perStreamValid t e && !perStreamValid t (Tab.get (perStreamTab s t) i 0)
  match t with
  | 16 => modSw s (fun w => { w with streams := Tab.put w.streams i e })
  | 17 =>
    let x := meterNow s i
    let s := modSw s (fun w => { w with policers := Tab.put w.policers i e })
    let x := if fresh then ⟨Pol.cbs e * byteUnits, Pol.ebs e * byteUnits, s.now⟩ else x
    modSw s (fun w => { w with meters := Tab.put w.meters i x })
  | 18 => modSw s (fun w => { w with gens := Tab.put w.gens i e })
  | _ =>
    let s := modSw s (fun w => { w with recs := Tab.put w.recs i e })
    let r := { recRun s i with
      takeAny := true
      timer := some s.now }
    if fresh then modSw s (fun w => { w with recRuns := Tab.put w.recRuns i r }) else s

/-- The reason an entry of tables 16–19 fails Table 8.12, 0 for none. -/
def perStreamReason (s : State) (t i e : Nat) : Nat :=
  let old := Tab.get (perStreamTab s t) i 0
  let reserved : Bool := match t with
    | 16 => bitsOf e 32 31 != 0
    | 17 => bitsOf e 19 12 != 0 || bitsOf e 160 96 != 0
    | 18 => bitsOf e 16 15 != 0 || bitsOf e 32 32 != 0
    | _ => bitsOf e 3 5 != 0 || bitsOf e 14 17 != 0 || bitsOf e 48 16 != 0 || bitsOf e 64 64 != 0
  let valid := fun (t i : Nat) => perStreamValid t (Tab.get (perStreamTab s t) i 0)
  if reserved then 1
  else if !perStreamValid t e then 0
  else
    match t with
    | 16 =>
      if (bitSet e 11 && !valid 17 (bitsOf e 0 11)) || (bitSet e 21 && !valid 19 (bitsOf e 12 9)) ||
        (bitSet e 31 && !valid 18 (bitsOf e 22 9)) then 4 else 0
    | 17 =>
      if 25000000 < Pol.cir e || 25000000 < Pol.eir e || 9216 < Pol.maxSdu e ||
        (bitSet e 18 && !perStreamValid 17 old) then 2 else 0
    | 18 => 0
    | _ => if 32 < Rec.len e || Rec.resetMs e = 0 then 3 else 0

/-- The result of a table write: the failing index and reason (R143). -/
def writeResult (fail : Option (Nat × Nat)) : Bytes :=
  match fail with
  | none => leBytes 4 0xFFFFFFFF ++ zeros 4
  | some (i, r) => leBytes 4 i ++ leBytes 1 r ++ zeros 3

/-- SW_TABLE_WRITE (R218): checked whole before anything is written. -/
def opSwTableWrite (p : Bytes) (s : State) : CmdAnswer :=
  let t := byteAt p 0
  let n := leAt p 2 2
  let first := leAt p 4 4
  let (count, size) := perStreamSize t
  let es := (List.range n).map (fun k => (first + k, leNat (sliceBytes p (16 + size * k) size)))
  if p.length < 16 then fail s stBadLength
  else if t < 16 || 19 < t then (s, some (stBadParam, writeResult none))
  else if p.length ≠ 16 + n * size then fail s stBadLength
  else if byteAt p 1 ≠ 0 || leAt p 8 8 ≠ 0 then (s, some (stBadParam, writeResult none))
  else if count < first + n then (s, some (stNoSpace, writeResult none))
  else
    match es.find? (fun x => perStreamReason s t x.1 x.2 != 0) with
    | some x => (s, some (stBadParam, writeResult (some (x.1, perStreamReason s t x.1 x.2))))
    | none => okay (es.foldl (fun s x => perStreamPut t x.1 x.2 s) s) (writeResult none)

/-- SW_TABLE_READ (R226). -/
def opSwTableRead (p : Bytes) (s : State) : CmdAnswer :=
  let t := byteAt p 0
  let n := leAt p 2 2
  let first := leAt p 4 4
  let (count, size) := perStreamSize t
  if p.length ≠ 8 then fail s stBadLength
  else if t < 16 || 19 < t || byteAt p 1 ≠ 0 || 4096 < n * size || count < first + n then fail s stBadParam
  else okay s (((List.range n).map (fun k => leBytes size (Tab.get (perStreamTab s t) (first + k) 0))).flatten)

/-- SW_MIRROR_N written (R224): ignored out of range, else the count restarts. -/
def mirrorNWrite (m data : Nat) (s : State) : State :=
  let n := data % 2 ^ 25
  if 16777216 < n then s
  else modSw (wr s Reg.SW_MIRROR_N.n n m) (fun w => { w with mirrorSeen := Tab.put w.mirrorSeen m 0 })

/-! ### The rows -/

/-- OUTPUT_FRAME_START (R219). -/
def execOutputFrameStart (t : Nat) (out : Fin 19) (queue2 : Fin 65) (s : State) : Host.Outcome State Fault Refusal :=
  running t s <|
  done (serveAll (outputStart out queue2 (arrive t s)))

/-- OUTPUT_FRAME_END (R219). -/
def execOutputFrameEnd (t : Nat) (out : Fin 19) (underrun : Bool) (s : State) : Host.Outcome State Fault Refusal :=
  running t s <|
  done (outputEnd out underrun (arrive t s))

/-- RECOVERY_RESET_TIMER (R216). -/
def execRecoveryResetTimer (t : Nat) (fn : Fin 512) (s : State) : Host.Outcome State Fault Refusal :=
  running t s <|
  done (recoveryReset fn (arrive t s))

/-- SW_MIRROR_N_WRITE (R224). -/
def execSwMirrorNWrite (t : Nat) (session : Fin 8) (data : BitVec 32) (s : State) : Host.Outcome State Fault Refusal :=
  running t s <|
  done (mirrorNWrite session data.toNat (arrive t s))

/-- SW_TABLE_WRITE (R218). -/
def execSwTableWrite (t : Nat) (c : Call) (p : Bytes) (s : State) : Host.Outcome State Fault Refusal :=
  commandRow t 0x1420 c p s (fun s => answer 0x1420 c (opSwTableWrite p s))

/-- SW_TABLE_READ (R226). -/
def execSwTableRead (t : Nat) (c : Call) (p : Bytes) (s : State) : Host.Outcome State Fault Refusal :=
  commandRow t 0x1421 c p s (fun s => answer 0x1421 c (opSwTableRead p s))

end Sys2Proof.Machine
end

