-- ==== Sys2Proof/Machine/Learning.lean ====
section
/-! DEFINITION. The learning table (R231–R241): its entries, the insertion engine, learning requests, ageing, quarantine and
the lock's effect on it. -/

namespace Sys2Proof.Machine

/-- The forwarding state changed by `f`. -/
def modFt (s : State) (f : FtState → FtState) : State := { s with ft := f s.ft }

/-- An FT event (Table 9.11). -/
def ftEvent (s : State) (code inst : Nat) (data : Bytes) : State := raiseIn s Reg.FT_INT_STATUS.event 0 6 code inst data

/-- A limited FT event of scope `inst`. -/
def ftEventLimited (s : State) (code inst n : Nat) (data : Nat → Bytes) : State :=
  raiseInLimited s Reg.FT_INT_STATUS.event 0 6 code inst inst n data

/-! ### Entries (Table 9.2) -/

def L2.mac (e : Nat) : Nat := bitsOf e 0 48
def L2.fid (e : Nat) : Nat := bitsOf e 48 12
def L2.static (e : Nat) : Bool := bitSet e 60
def L2.guard (e : Nat) : Bool := bitSet e 61
def L2.valid (e : Nat) : Bool := bitSet e 63
def L2.device (e : Nat) : Nat := bitsOf e 64 6
def L2.kind (e : Nat) : Nat := bitsOf e 70 2
def L2.port (e : Nat) : Nat := bitsOf e 72 5
def L2.lastSeen (e : Nat) : Nat := bitsOf e 80 16
def L2.commit (e : Nat) : Nat := bitsOf e 96 32

/-- A destination outside Table 9.13 reasons 3 and 5: a kind-0 port above 16, a kind-1 device that is 0 or this one. -/
def badDest (s : State) (kind device port : Nat) : Bool :=
  (kind == 0 && decide (16 < port)) || (kind == 1 && (device == 0 || device == ownId s))

/-- The reason a learning entry fails Table 9.13, 0 for none. -/
def l2Reason (s : State) (e : Nat) : Nat :=
  if bitSet e 62 || bitsOf e 77 3 != 0 || L2.kind e == 3 then 1
  else if L2.mac e = 0 ∨ (L2.static e = false ∧ bitSet e 0) then 4
  else if badDest s (L2.kind e) (L2.device e) (L2.port e) then 5
  else 0

/-- Entry `i` of the learning table. -/
def l2At (s : State) (i : Nat) : Nat := Tab.get s.ft.l2 i 0

/-- Entry `i` set. -/
def setL2 (s : State) (i e : Nat) : State := modFt s (fun g => { g with l2 := Tab.set g.l2 i 0 e })

/-- Valid entries. -/
def l2Used (s : State) : Nat := (s.ft.l2.filter (fun x => L2.valid x.2)).length

/-- Valid static entries. -/
def l2Statics (s : State) : Nat := (s.ft.l2.filter (fun x => L2.valid x.2 && L2.static x.2)).length

/-- The second count modulo 65,536 and the µs count modulo 2^32, from the counter clock (R231). -/
def secondCount (s : State) : Nat := s.now / sec % 65536
def usCount (s : State) : Nat := s.now / us % 2 ^ 32

/-- The commit of a destination applied now (R236). -/
def commitCount (s : State) : Nat := if usCount s = 2 ^ 32 - 1 then 2 ^ 32 - 2 else usCount s

/-- The four slots of the candidate bucket of a key in way `w` (R232). -/
def l2Bucket (mac fid w : Nat) : List Nat :=
  let h := crc32c (leBytes 6 mac ++ leBytes 2 fid)
  let b := if w = 0 then bitsOf h 0 13 else bitsOf h 13 13
  (List.range 4).map (fun k => 32768 * w + 4 * b + k)

/-- The eight candidate slots of a key, in rising order. -/
def l2Slots (mac fid : Nat) : List Nat := l2Bucket mac fid 0 ++ l2Bucket mac fid 1

/-- The entry that holds a key, the slots in `bad` left out (R232, R253). -/
def l2Find (s : State) (mac fid : Nat) (bad : Nat → Bool) : Option Nat :=
  (l2Slots mac fid).find? (fun i =>
    let e := l2At s i
    L2.valid e && L2.mac e == mac && L2.fid e == fid && !bad i)

/-! ### The insertion engine (R233, R238) -/

/-- The slots an entry at `i` can move to: its key's bucket in the other way. -/
def l2Alternates (s : State) (i : Nat) : List Nat :=
  let e := l2At s i
  l2Bucket (L2.mac e) (L2.fid e) (if i < 32768 then 1 else 0)

/-- The lowest free slot of a list. -/
def freeSlot (s : State) (l : List Nat) : Option Nat := l.find? (fun i => !L2.valid (l2At s i))

/-- A path of `n` moves that starts with the entry at `i`: the slots it runs through, its free end last. -/
def relocation (s : State) : Nat → Nat → List Nat → Option (List Nat)
  | 0, _, _ => none
  | n + 1, i, seen =>
    if n = 0 then (freeSlot s (l2Alternates s i)).map (fun j => [i, j])
    else
      (((l2Alternates s i).filter (fun j => !seen.contains j)).filterMap (fun j =>
        (relocation s n j (j :: seen)).map (fun p => i :: p))).head?

/-- The shortest path that frees one of the slots, of four moves at most; among equals the one whose first slot is lowest. -/
def shortestPath (s : State) (slots : List Nat) : Option (List Nat) :=
  ([1, 2, 3, 4].filterMap (fun n => (slots.filterMap (fun i => relocation s n i [i])).head?)).head?

/-- The moves of a path applied from its far end; the slot it starts with is vacated. -/
def applyPath : List Nat → State → State
  | i :: j :: rest, s =>
    let s := applyPath (j :: rest) s
    setL2 (setL2 s j (l2At s i)) i 0
  | _, s => s

/-- The slot a new key gets: a free one, or one that a relocation vacates where `move` allows it. -/
def placeL2 (s : State) (mac fid : Nat) (move : Bool) : State × Option Nat :=
  let slots := l2Slots mac fid
  match freeSlot s slots with
  | some i => (s, some i)
  | none =>
    match (if move then shortestPath s slots else none) with
    | some p => (applyPath p s, p.head?)
    | none => (s, none)

/-- The dynamic candidate seen longest ago, the lower index among equals. -/
def oldestDynamic (s : State) (slots : List Nat) : Option Nat :=
  leastBy (fun i => 65536 - (secondCount s + 65536 - L2.lastSeen (l2At s i)) % 65536)
    (slots.filter (fun i => !L2.static (l2At s i)))

/-- A failed insertion counted and reported (R238). -/
def insertFailed (s : State) (evicted : Bool) : State :=
  let used := l2Used s
  ftEventLimited (bump s Reg.FT_STAT_L2_FULL.value) 1 0xFFFF 1
    (fun n => leBytes 4 used ++ leBytes 4 n ++ leBytes 1 (b2n evicted))

/-- The lock of table 20 is held. -/
def l2Locked (s : State) : Bool := bitSet (rd s Reg.FT_LOCK_HELD.held) 20

/-! ### Learning (R234–R237, R240) -/

/-- The word 1 a learning event writes: destination, last_seen, commit. -/
def destWord (s : State) (r : LearnReq) : Nat :=
  r.device + 64 * r.kind + 256 * r.port + 65536 * secondCount s + 2 ^ 32 * commitCount s

/-- Whether an entry already names a request's destination. -/
def sameDest (e : Nat) (r : LearnReq) : Bool := L2.device e == r.device && L2.kind e == r.kind && L2.port e == r.port

/-- A move counted against input `p`, which it may quarantine (R240). -/
def countMove (s : State) (p : Nat) : State :=
  let now := s.now / sec
  let (at_, n) := Tab.get s.ft.moves p (0, 0)
  let n := if at_ = now then n + 1 else 1
  let s := modFt s (fun g => { g with moves := Tab.put g.moves p (now, n) })
  if rdB s Reg.FT_PORT_CFG.quar_en p && decide (rd s Reg.FT_PORT_CFG.move_limit p < n) &&
      !rdB s Reg.FT_PORT_QUAR.quarantined p then
    let s := modFt (wr s Reg.FT_PORT_QUAR.quarantined 1 p) (fun g => { g with
      quarantinedAt := Tab.put g.quarantinedAt p s.now })
    ftEvent s 4 p (leBytes 2 n)
  else s

/-- A move applied, or refused as a conflict within the hold (R236). -/
def applyMove (s : State) (i : Nat) (r : LearnReq) : State :=
  let e := l2At s i
  if L2.commit e ≠ 2 ^ 32 - 1 ∧ (usCount s + 2 ^ 32 - L2.commit e) % 2 ^ 32 < 1000 then
    ftEventLimited (bump s Reg.FT_STAT_CONFLICT.value) 3 r.input 1 (fun _ => leBytes 6 r.mac ++ leBytes 2 r.fid ++
      leBytes 1 (L2.port e) ++ leBytes 1 (L2.device e) ++ leBytes 1 r.port ++ leBytes 1 r.device)
  else countMove (bump (setL2 s i (e % 2 ^ 64 + 2 ^ 64 * destWord s r)) Reg.FT_STAT_MOVE.value) r.input

/-- The dynamic entry a learning event inserts. -/
def learned (s : State) (r : LearnReq) : Nat := r.mac + 2 ^ 48 * r.fid + 2 ^ 63 + 2 ^ 64 * destWord s r

/-- A learned key inserted (R233, R238). -/
def applyInsert (s : State) (r : LearnReq) : State :=
  match placeL2 s r.mac r.fid true with
  | (s, some i) => bump (setL2 s i (learned s r)) Reg.FT_STAT_LEARN.value
  | (s, none) =>
    match (if rdB s Reg.FT_CTRL.evict_en then oldestDynamic s (l2Slots r.mac r.fid) else none) with
    | none => insertFailed s false
    | some i =>
      let s := bump (insertFailed s true) Reg.FT_STAT_EVICT.value
      bump (setL2 s i (learned s r)) Reg.FT_STAT_LEARN.value

/-- A refresh (R235). -/
def refresh (s : State) (i : Nat) : State := setL2 s i (setBits (l2At s i) 80 16 (secondCount s))

/-- A request applied against the table as it stands (R234, R252). -/
def applyLearn (s : State) (r : LearnReq) : State :=
  match l2Find s r.mac r.fid (fun _ => false) with
  | none => applyInsert s r
  | some i =>
    let e := l2At s i
    if sameDest e r then (if L2.lastSeen e = secondCount s then s else refresh s i)
    else if L2.static e then bump s Reg.FT_STAT_STATIC_VIOL.value
    else applyMove s i r

/-- Whether a queued request is a refresh as the table stands. -/
def isRefresh (s : State) (r : LearnReq) : Bool :=
  ((l2Find s r.mac r.fid (fun _ => false)).map (fun i => sameDest (l2At s i) r)).getD false

/-- LEARN_ENGINE_OPERATION (R233): the first queued request; while table 20 is held, the first that is a refresh (R251). -/
def learnOnce (s : State) : State :=
  match s.ft.learnQ.find? (fun r => !l2Locked s || isRefresh s r) with
  | none => s
  | some r => applyLearn (modFt s (fun g => { g with learnQ := g.learnQ.erase r })) r

/-- Every queued request applied in order (R252). -/
def drainLearn (s : State) : State := s.ft.learnQ.foldl applyLearn (modFt s (fun g => { g with learnQ := [] }))

/-- A request queued in the order of the lookup instants, the lower input first among equals; dropped beside one with the same
destination, or refused by a full queue (R237). -/
def queueLearn (s : State) (r : LearnReq) : State :=
  let same := fun (q : LearnReq) => q.mac == r.mac && q.fid == r.fid && q.device == r.device && q.kind == r.kind &&
    q.port == r.port
  let after := fun (q : LearnReq) => q.at_ == r.at_ && decide (r.input < q.input)
  if s.ft.learnQ.any same then s
  else if s.ft.learnQ.length < 256 then
    modFt s (fun g => { g with learnQ := g.learnQ.filter (fun q => !after q) ++ [r] ++ g.learnQ.filter after })
  else ftEventLimited (bump s Reg.FT_STAT_LEARN_MISS.value) 2 0xFFFF 1 (leBytes 4)

/-- The learning request of a frame that passed the VLAN checks (R234), the slots in `bad` left out of its lookup (R253);
tells whether a guarded static entry discards it. -/
def learnRequest (s : State) (f : CoreFrame) (vlan : Nat) (bad : Nat → Bool) : State × Bool :=
  let p := f.input
  if 16 < p ∨ rdB s Reg.FT_PORT_CFG.learn_en p = false then (s, false)
  else if rdB s Reg.FT_PORT_QUAR.quarantined p then (bump s Reg.FT_STAT_QUAR_SKIP.value, false)
  else if !rdB s Reg.FT_CTRL.en || !rdB s Reg.FT_CTRL.learn_en || !bitSet vlan 56 then (s, false)
  else
    let far := decide (12 ≤ p) && decide (p < 16)
    let r : LearnReq := ⟨leAt f.data 6 6, bitsOf vlan 44 12, if far then f.device else 0, b2n far,
      if far then f.orgPort else p, p, s.now⟩
    match l2Find s r.mac r.fid bad with
    | none => (queueLearn s r, false)
    | some i =>
      let e := l2At s i
      if sameDest e r then (if L2.lastSeen e = secondCount s then s else queueLearn s r, false)
      else if L2.static e then (bump s Reg.FT_STAT_STATIC_VIOL.value, L2.guard e)
      else (queueLearn s r, false)

/-! ### Ageing, quarantine, locks (R239, R240, R251) -/

/-- What the sweep makes of an entry: settled where its hold is over. -/
def settleEntry (s : State) (e : Nat) : Nat :=
  if L2.commit e ≠ 2 ^ 32 - 1 ∧ 1000 ≤ (usCount s + 2 ^ 32 - L2.commit e) % 2 ^ 32 then setBits e 96 32 (2 ^ 32 - 1) else e

/-- Whether the sweep removes an entry. -/
def aged (s : State) (e : Nat) : Bool :=
  let age := rd s Reg.FT_AGE_CFG.age_s
  age != 0 && !l2Locked s && L2.valid e && !L2.static e && decide (age ≤ (secondCount s + 65536 - L2.lastSeen e) % 65536)

/-- AGEING_SWEEP (R239). -/
def ageSweep (s : State) : State :=
  let gone := (s.ft.l2.filter (fun x => aged s x.2)).length
  let l2 := Tab.mapAll (fun _ e => if L2.valid e then settleEntry s e else e) (Tab.keep (fun _ e => !aged s e) s.ft.l2)
  bumpBy (modFt s (fun g => { g with l2 := l2 })) Reg.FT_STAT_AGED.value gone

/-- The end of a port's quarantine (R240). -/
def endQuarantine (s : State) (p cause : Nat) : State :=
  if rdB s Reg.FT_PORT_QUAR.quarantined p then ftEvent (wr s Reg.FT_PORT_QUAR.quarantined 0 p) 5 p (leBytes 1 cause) else s

/-- QUARANTINE_EXPIRED (R240): once quar_s has passed. -/
def quarantineOver (p : Nat) (s : State) : State :=
  if Tab.get s.ft.quarantinedAt p 0 + rd s Reg.FT_PORT_QUAR.quar_s p * sec ≤ s.now then endQuarantine s p 0 else s

/-- Table locks: bit `t` of FT_LOCK_HELD set. -/
def holdLock (s : State) (t : Nat) : State :=
  if bitSet (rd s Reg.FT_LOCK_HELD.held) t then s
  else modFt (setBitF s Reg.FT_LOCK_HELD.held t) (fun g => { g with lockedAt := Tab.put g.lockedAt t s.now })

/-- Bit `t` of FT_LOCK_HELD cleared; the queue of table 20 drained (R252). -/
def dropLock (s : State) (t : Nat) : State :=
  if bitSet (rd s Reg.FT_LOCK_HELD.held) t then
    let s := clrBitF s Reg.FT_LOCK_HELD.held t
    if t = 20 then drainLearn s else s
  else s

/-- FT_LOCK_WRITE (R251): every lock but that of table 20 is in force at once. -/
def lockWrite (data : Nat) (s : State) : State :=
  (List.range 32).foldl (fun s t => if bitSet data t then (if t = 20 then s else holdLock s t) else dropLock s t)
    (wr s Reg.FT_LOCK.req data)

/-- LOCK_HELD (R251). -/
def lockTaken (s : State) : State := if bitSet (rd s Reg.FT_LOCK.req) 20 then holdLock s 20 else s

/-- LOCK_EXPIRED (R251). -/
def lockOver (t : Nat) (s : State) : State :=
  let held := rd s Reg.FT_LOCK_HELD.held
  let limit := rd s Reg.FT_LOCK_MAX.ms
  if bitSet held t && limit != 0 && decide (Tab.get s.ft.lockedAt t 0 + limit * ms ≤ s.now) then
    ftEvent (dropLock (clrBitF s Reg.FT_LOCK.req t) t) 6 0xFFFF (leBytes 4 held)
  else s

/-! ### Commands (Table 9.12) -/

/-- FT_L2_ADD. -/
def opL2Add (p : Bytes) (s : State) : CmdAnswer :=
  let e := leNat p
  if p.length ≠ 16 then fail s stBadLength
  else if !L2.valid e || l2Reason s e != 0 then fail s stBadParam
  else
    let w1 := bitsOf e 64 16 + 65536 * secondCount s + 2 ^ 32 * commitCount s
    match l2Find s (L2.mac e) (L2.fid e) (fun _ => false) with
    | some i => okay (setL2 s i (l2At s i % 2 ^ 64 + 2 ^ 64 * w1)) (leBytes 4 i)
    | none =>
      match placeL2 s (L2.mac e) (L2.fid e) (!l2Locked s) with
      | (s, some i) => okay (setL2 s i (e % 2 ^ 64 + 2 ^ 64 * w1)) (leBytes 4 i)
      | (s, none) => if l2Locked s then fail s stLocked else fail (insertFailed s false) stNoSpace

/-- The entry a key parameter of FT_L2_DEL and FT_L2_FIND names. -/
def l2Named (p : Bytes) (s : State) : Option Nat := l2Find s (leAt p 0 6) (leAt p 6 2) (fun _ => false)

/-- FT_L2_DEL. -/
def opL2Del (p : Bytes) (s : State) : CmdAnswer :=
  if p.length ≠ 8 then fail s stBadLength
  else
    match l2Named p s with
    | none => fail s stNotFound
    | some i => okay (setL2 s i 0) (leBytes 4 i)

/-- FT_L2_FIND. -/
def opL2Find (p : Bytes) (s : State) : CmdAnswer :=
  if p.length ≠ 8 then fail s stBadLength
  else
    match l2Named p s with
    | none => fail s stNotFound
    | some i => okay s (leBytes 4 i ++ leBytes 16 (l2At s i))

/-- FT_L2_FLUSH. -/
def opL2Flush (p : Bytes) (s : State) : CmdAnswer :=
  let select := byteAt p 0
  let hit := fun (e : Nat) => L2.valid e && (!L2.static e || bitSet select 2) &&
    (!bitSet select 0 || (decide (L2.kind e < 2) && L2.device e == byteAt p 1 && L2.port e == byteAt p 2)) &&
    (!bitSet select 1 || L2.fid e == leAt p 4 2)
  if p.length ≠ 8 then fail s stBadLength
  else if l2Locked s then fail s stLocked
  else
    let n := (s.ft.l2.filter (fun x => hit x.2)).length
    okay (modFt s (fun g => { g with l2 := Tab.keep (fun _ e => !hit e) g.l2 })) (leBytes 4 n)

/-! ### The rows -/

/-- LEARN_ENGINE_OPERATION (R233). -/
def execLearnEngineOperation (t : Nat) (s : State) : Host.Outcome State Fault Refusal :=
  running t s <|
  done (learnOnce (arrive t s))

/-- AGEING_SWEEP (R239). -/
def execAgeingSweep (t : Nat) (s : State) : Host.Outcome State Fault Refusal :=
  running t s <|
  done (ageSweep (arrive t s))

/-- QUARANTINE_EXPIRED (R240). -/
def execQuarantineExpired (t : Nat) (port : Fin 19) (s : State) : Host.Outcome State Fault Refusal :=
  running t s <|
  done (quarantineOver port (arrive t s))

/-- FT_PORT_QUAR_RELEASE (R240). -/
def execFtPortQuarRelease (t : Nat) (port : Fin 19) (s : State) : Host.Outcome State Fault Refusal :=
  running t s <|
  done (endQuarantine (arrive t s) port 1)

/-- FT_LOCK_WRITE (R251). -/
def execFtLockWrite (t : Nat) (data : BitVec 32) (s : State) : Host.Outcome State Fault Refusal :=
  running t s <|
  done (lockWrite data.toNat (arrive t s))

/-- LOCK_HELD (R251). -/
def execLockHeld (t : Nat) (s : State) : Host.Outcome State Fault Refusal :=
  running t s <|
  done (lockTaken (arrive t s))

/-- LOCK_EXPIRED (R251). -/
def execLockExpired (t : Nat) (table : Fin 32) (s : State) : Host.Outcome State Fault Refusal :=
  running t s <|
  done (lockOver table (arrive t s))

/-- FT_L2_ADD (R255). -/
def execFtL2Add (t : Nat) (c : Call) (p : Bytes) (s : State) : Host.Outcome State Fault Refusal :=
  commandRow t 0x1010 c p s (fun s => answer 0x1010 c (opL2Add p s))

/-- FT_L2_DEL (R255). -/
def execFtL2Del (t : Nat) (c : Call) (p : Bytes) (s : State) : Host.Outcome State Fault Refusal :=
  commandRow t 0x1011 c p s (fun s => answer 0x1011 c (opL2Del p s))

/-- FT_L2_FIND (R255). -/
def execFtL2Find (t : Nat) (c : Call) (p : Bytes) (s : State) : Host.Outcome State Fault Refusal :=
  commandRow t 0x1012 c p s (fun s => answer 0x1012 c (opL2Find p s))

/-- FT_L2_FLUSH (R255). -/
def execFtL2Flush (t : Nat) (c : Call) (p : Bytes) (s : State) : Host.Outcome State Fault Refusal :=
  commandRow t 0x1013 c p s (fun s => answer 0x1013 c (opL2Flush p s))

end Sys2Proof.Machine
end

