-- ==== Sys2Proof/Machine/Forwarding.lean ====
section
/-! DEFINITION. The VLAN and next-hop tables (R242, R246), the LPM trie as the prefixes it stores and the nodes they take
(R243–R248), table DMA (R249, R250), and the commands over them (R255). -/

namespace Sys2Proof.Machine

/-! ### VLAN and next-hop entries (Tables 9.5, 9.7, 9.13) -/

def Vlan.member (e : Nat) : Nat := bitsOf e 0 19
def Vlan.valid (e : Nat) : Bool := bitSet e 31
def Vlan.untag (e : Nat) : Nat := bitsOf e 32 12
def Vlan.fid (e : Nat) : Nat := bitsOf e 44 12
def Vlan.routeEn (e : Nat) : Bool := bitSet e 57

/-- The VLAN entry of `vid`. -/
def vlanAt (s : State) (vid : Nat) : Nat := Tab.get s.ft.vlans vid 0

/-- The next-hop entry `i`. -/
def nextHopAt (s : State) (i : Nat) : Nat := Tab.get s.ft.nextHops i 0

/-- The reason VLAN entry `i` fails Table 9.13, 0 for none. -/
def vlanReason (i e : Nat) : Nat :=
  if bitsOf e 19 12 ≠ 0 ∨ bitsOf e 58 6 ≠ 0 then 1
  else if Vlan.valid e && (i == 0 || i == 4095 || bitsOf e 17 2 != 0) then 2
  else 0

/-- The reason a next-hop entry fails Table 9.13, 0 for none. -/
def nextHopReason (s : State) (e : Nat) : Nat :=
  if bitsOf e 26 5 ≠ 0 ∨ bitsOf e 32 32 ≠ 0 ∨ bitsOf e 112 16 ≠ 0 then 1
  else if Nh.valid e && (badDest s (Nh.kind e) (Nh.device e) (Nh.port e) ||
      (Nh.tagged e && (Nh.vid e == 0 || Nh.vid e == 4095))) then 3
  else 0

/-! ### Prefixes (Table 9.6) -/

/-- The prefix records of a family, true for IPv6. -/
def pfxTab (s : State) (six : Bool) : Tab Nat := if six then s.ft.pfx6 else s.ft.pfx4

/-- The records of a family set. -/
def setPfx (s : State) (six : Bool) (t : Tab Nat) : State :=
  modFt s (fun g => if six then { g with pfx6 := t } else { g with pfx4 := t })

def Pfx.width (six : Bool) : Nat := if six then 128 else 32
def Pfx.root (six : Bool) : Nat := if six then 12 else 16
def Pfx.levels (six : Bool) : Nat := if six then 29 else 4
def Pfx.records (six : Bool) : Nat := if six then 8192 else 32768
def Pfx.len (e : Nat) : Nat := bitsOf e 0 8
def Pfx.nextHop (e : Nat) : Nat := bitsOf e 16 12

/-- The prefix of a record, its first bit the most significant. -/
def Pfx.value (six : Bool) (e : Nat) : Nat := beNat (if six then leBytes 16 (bitsOf e 64 128) else leBytes 4 (bitsOf e 32 32))

/-- The record of a prefix. -/
def Pfx.record (six : Bool) (len nh value : Nat) : Nat :=
  len + 2 ^ 15 + 2 ^ 16 * nh + (if six then 2 ^ 64 * leNat (beBytes 16 value) else 2 ^ 32 * leNat (beBytes 4 value))

/-- Whether a record's prefix contains an address. -/
def Pfx.contains (six : Bool) (e addr : Nat) : Bool :=
  Pfx.value six e / 2 ^ (Pfx.width six - Pfx.len e) == addr / 2 ^ (Pfx.width six - Pfx.len e)

/-- The record of the longest prefix that contains an address (R243, R244), with its index. -/
def lpmFind (s : State) (six : Bool) (addr : Nat) : Option (Nat × Nat) :=
  leastBy (fun x => 128 - Pfx.len x.2) ((pfxTab s six).filter (fun x => Pfx.contains six x.2 addr))

/-- The record that holds exactly this prefix. -/
def pfxNamed (s : State) (six : Bool) (len value : Nat) : Option (Nat × Nat) :=
  (pfxTab s six).find? (fun x => Pfx.len x.2 == len && Pfx.value six x.2 == value)

/-- The nodes a prefix takes part in: one for each level whose leading bits it is longer than (R247), by family, level and
leading bits. -/
def pfxNodes (six : Bool) (len value : Nat) : List Nat :=
  ((List.range (Pfx.levels six)).filter (fun k => decide (Pfx.root six + 4 * k < len))).map (fun k =>
    (64 * b2n six + k) * 2 ^ 128 + value / 2 ^ (Pfx.width six - (Pfx.root six + 4 * k)))

/-- The nodes of a family's prefixes, each once. -/
def familyNodes (s : State) (six : Bool) : List Nat :=
  ((pfxTab s six).flatMap (fun x => pfxNodes six (Pfx.len x.2) (Pfx.value six x.2))).eraseDups

/-- Nodes in use, those a delete has left and that are not freed yet included (R245, R247). -/
def nodesUsed (s : State) : Nat := (familyNodes s false).length + (familyNodes s true).length + s.ft.freeing.length

/-- Nodes free. -/
def nodesFree (s : State) : Nat := 13056 - nodesUsed s

/-! ### Commands over prefixes -/

/-- The family, length and prefix a command names: none for a family other than 4 and 6. -/
def pfxParam (p : Bytes) : Option (Bool × Nat × Nat) :=
  match byteAt p 0 with
  | 4 => some (false, byteAt p 1, beAt p 8 4)
  | 6 => some (true, byteAt p 1, beAt p 8 16)
  | _ => none

/-- FT_LPM_ADD (R248). -/
def opLpmAdd (p : Bytes) (s : State) : CmdAnswer :=
  if p.length ≠ 24 then fail s stBadLength
  else
    match pfxParam p with
    | none => fail s stBadParam
    | some (six, len, value) =>
      let nh := leAt p 2 2
      if leAt p 4 4 ≠ 0 ∨ Pfx.width six < len ∨ value % 2 ^ (Pfx.width six - len) ≠ 0 ∨ 4095 < nh ∨
          Nh.valid (nextHopAt s nh) = false then fail s stBadParam
      else
        let put := fun (i : Nat) => setPfx s six (Tab.put (pfxTab s six) i (Pfx.record six len nh value))
        match pfxNamed s six len value with
        | some (i, _) => okay (put i) (leBytes 4 (nodesFree s))
        | none =>
          let nodes := familyNodes s six
          let needed := ((pfxNodes six len value).filter (fun n => !nodes.contains n)).length
          match firstFrom (fun i => (Tab.find (pfxTab s six) i).isNone) 0 (Pfx.records six) with
          | none => fail s stNoSpace
          | some i =>
            if nodesFree s < needed then fail s stNoSpace else okay (put i) (leBytes 4 (nodesFree s - needed))

/-- FT_LPM_DEL (R245): nodes no prefix needs any more are freed 2 µs later. -/
def opLpmDel (p : Bytes) (s : State) : CmdAnswer :=
  if p.length ≠ 24 then fail s stBadLength
  else
    match pfxParam p with
    | none => fail s stNotFound
    | some (six, len, value) =>
      match pfxNamed s six len value with
      | none => fail s stNotFound
      | some (i, _) =>
        let s := setPfx s six (Tab.del (pfxTab s six) i)
        let kept := familyNodes s six
        let gone := (pfxNodes six len value).filter (fun n => !kept.contains n)
        let s := modFt s (fun g => { g with freeing := g.freeing ++ gone.map (fun n => (n, s.now + 2 * us)) })
        okay s (leBytes 4 (nodesFree s))

/-- FT_LPM_FIND. -/
def opLpmFind (p : Bytes) (s : State) : CmdAnswer :=
  if p.length ≠ 24 then fail s stBadLength
  else
    match pfxParam p with
    | none => fail s stNotFound
    | some (six, _, addr) =>
      match lpmFind s six addr with
      | none => fail s stNotFound
      | some (i, e) => okay s (leBytes 1 (Pfx.len e) ++ zeros 1 ++ leBytes 2 (Pfx.nextHop e) ++ leBytes 4 i)

/-- LPM_NODE_FREE (R245). -/
def nodeFree (s : State) : State := modFt s (fun g => { g with freeing := g.freeing.filter (fun x => decide (s.now < x.2)) })

/-! ### The tables by number (R255) -/

/-- Entries and entry bytes of tables 20–24. -/
def ftSize (t : Nat) : Nat × Nat := [(65536, 16), (4096, 8), (32768, 8), (8192, 24), (4096, 16)].getD (t - 20) (0, 1)

/-- Entry `i` of table `t`, 20–24. -/
def ftGet (s : State) (t i : Nat) : Nat :=
  match t with
  | 20 => l2At s i
  | 21 => vlanAt s i
  | 22 => Tab.get s.ft.pfx4 i 0
  | 23 => Tab.get s.ft.pfx6 i 0
  | _ => nextHopAt s i

/-- Entry `i` of table 20, 21 or 24 stored. -/
def ftPut (t i e : Nat) (s : State) : State :=
  match t with
  | 20 => setL2 s i e
  | 21 => modFt s (fun g => { g with vlans := Tab.set g.vlans i 0 e })
  | _ => modFt s (fun g => { g with nextHops := Tab.set g.nextHops i 0 e })

/-- FT_TABLE_WRITE: checked whole before anything is written. -/
def opFtTableWrite (p : Bytes) (s : State) : CmdAnswer :=
  let t := byteAt p 0
  let n := leAt p 2 2
  let first := leAt p 4 4
  let (count, size) := ftSize t
  let es := (List.range n).map (fun k => (first + k, leNat (sliceBytes p (16 + size * k) size)))
  let reason := fun (x : Nat × Nat) => if t = 21 then vlanReason x.1 x.2 else nextHopReason s x.2
  if p.length < 16 then fail s stBadLength
  else if t ≠ 21 ∧ t ≠ 24 then (s, some (stBadParam, writeResult none))
  else if p.length ≠ 16 + n * size then fail s stBadLength
  else if byteAt p 1 ≠ 0 || leAt p 8 8 ≠ 0 then (s, some (stBadParam, writeResult none))
  else if count < first + n then (s, some (stNoSpace, writeResult none))
  else
    match es.find? (fun x => reason x != 0) with
    | some x => (s, some (stBadParam, writeResult (some (x.1, reason x))))
    | none => okay (es.foldl (fun s x => ftPut t x.1 x.2 s) s) (writeResult none)

/-- FT_TABLE_READ. -/
def opFtTableRead (p : Bytes) (s : State) : CmdAnswer :=
  let t := byteAt p 0
  let n := leAt p 2 2
  let first := leAt p 4 4
  let (count, size) := ftSize t
  if p.length ≠ 8 then fail s stBadLength
  else if t < 20 || 24 < t || byteAt p 1 ≠ 0 || 4096 < n * size || count < first + n then fail s stBadParam
  else okay s (((List.range n).map (fun k => leBytes size (ftGet s t (first + k)))).flatten)

/-! ### Table DMA (R249, R250) -/

/-- Entries and entry bytes of every table of Table 9.8; no entries for another number. -/
def dmaSize (t : Nat) : Nat × Nat :=
  if t = 0 then (65536, 32)
  else if t = 10 then (16384, 64)
  else if t ≤ 11 then (SgTables.count t, SgTables.size t)
  else if t < 16 then (0, 1)
  else if t < 20 then perStreamSize t
  else if t ≤ 24 then ftSize t
  else (0, 1)

/-- The bytes of entry `i` of table `t`. -/
def dmaGet (s : State) (t i : Nat) : Bytes :=
  if t = 0 then slotImage (slotOf s i)
  else if t = 10 then Memory.readBytes s.ba (64 * i) 64
  else if t ≤ 11 then leBytes (SgTables.size t) (tableGet s t i)
  else if t < 20 then leBytes (perStreamSize t).2 (Tab.get (perStreamTab s t) i 0)
  else leBytes (ftSize t).2 (ftGet s t i)

/-- Entry `i` of table `t` stored without a check. -/
def dmaPut (t i e : Nat) (s : State) : State :=
  if t ≤ 11 then tableStore s t i e
  else if t < 20 then perStreamPut t i e s
  else ftPut t i e s

/-- The status a descriptor ends with, before anything is moved. -/
def dmaStatus (s : State) (op t first length addr : Nat) : Nat :=
  let (count, size) := dmaSize t
  if 1 < op ∨ count = 0 then stBadParam
  else if length = 0 then stOk
  else if length % size ≠ 0 ∨ 1048576 < length ∨ count < first + length / size ∨ addr % 8 ≠ 0 then stBadParam
  else if op = 0 then stOk
  else if t = 0 ∨ t = 10 ∨ t = 22 ∨ t = 23 then stDenied
  else if t = 20 ∧ l2Locked s = false then stLocked
  else stOk

/-- DMA_DESCRIPTOR_COMPLETE (R249, R250): nothing where the ring is stopped or empty. -/
def dmaComplete (desc data : Bytes) (s : State) : State :=
  let head := rd s Reg.FT_DMA_HEAD.head
  let op := byteAt desc 0
  let t := byteAt desc 1
  let first := leAt desc 4 4
  let length := leAt desc 8 4
  let addr := leAt desc 16 8
  let st := dmaStatus s op t first length addr
  let size := (dmaSize t).2
  let n := length / size
  if !rdB s Reg.FT_DMA_CTRL.en || head == rd s Reg.FT_DMA_TAIL.tail then s
  else
    let s :=
      if st ≠ stOk ∨ length = 0 then s
      else if op = 0 then emit s (.hostWrite addr (((List.range n).map (fun k => dmaGet s t (first + k))).flatten))
      else (List.range n).foldl (fun s k => dmaPut t (first + k) (leAt data (size * k) size) s) s
    let at_ := rd s Reg.FT_DMA_BASE.base + 32 * head
    let s := emit s (.hostWrite (at_ + 0x18) (leBytes 2 st))
    let s := emit s (.hostWrite (at_ + 0x1C) (leBytes 4 (if st = stOk then length else 0)))
    let s := emit s (.hostWrite (at_ + 0x1A) (leBytes 1 1))
    let s := wr s Reg.FT_DMA_HEAD.head ((head + 1) % 2 ^ rd s Reg.FT_DMA_SIZE.log2)
    if bitSet (leAt desc 2 2) 0 then wr s Reg.FT_INT_STATUS.dma_done 1 else s

/-- FT_DMA_TAIL_WRITE (R249): a tail outside the ring is ignored. -/
def dmaTailWrite (tail : Nat) (s : State) : State :=
  if tail < 2 ^ rd s Reg.FT_DMA_SIZE.log2 then wr s Reg.FT_DMA_TAIL.tail tail else s

/-- FT_DMA_CTRL_WRITE (R249): setting en restarts the ring. -/
def dmaCtrlWrite (en : Bool) (s : State) : State :=
  let s := if en && !rdB s Reg.FT_DMA_CTRL.en then wr (wr s Reg.FT_DMA_HEAD.head 0) Reg.FT_DMA_TAIL.tail 0 else s
  wr s Reg.FT_DMA_CTRL.en (b2n en)

/-! ### The rows -/

/-- FT_DMA_TAIL_WRITE (R249). -/
def execFtDmaTailWrite (t : Nat) (tail : Fin 4096) (s : State) : Host.Outcome State Fault Refusal :=
  running t s <|
  done (dmaTailWrite tail (arrive t s))

/-- FT_DMA_CTRL_WRITE (R249). -/
def execFtDmaCtrlWrite (t : Nat) (en : Bool) (s : State) : Host.Outcome State Fault Refusal :=
  running t s <|
  done (dmaCtrlWrite en (arrive t s))

/-- DMA_DESCRIPTOR_COMPLETE (R250). -/
def execDmaDescriptorComplete (t : Nat) (desc data : Bytes) (s : State) : Host.Outcome State Fault Refusal :=
  running t s <|
  done (dmaComplete desc data (arrive t s))

/-- LPM_NODE_FREE (R245). -/
def execLpmNodeFree (t : Nat) (s : State) : Host.Outcome State Fault Refusal :=
  running t s <|
  done (nodeFree (arrive t s))

/-- FT_TABLE_WRITE (R255). -/
def execFtTableWrite (t : Nat) (c : Call) (p : Bytes) (s : State) : Host.Outcome State Fault Refusal :=
  commandRow t 0x1001 c p s (fun s => answer 0x1001 c (opFtTableWrite p s))

/-- FT_TABLE_READ (R255). -/
def execFtTableRead (t : Nat) (c : Call) (p : Bytes) (s : State) : Host.Outcome State Fault Refusal :=
  commandRow t 0x1002 c p s (fun s => answer 0x1002 c (opFtTableRead p s))

/-- FT_LPM_ADD (R248). -/
def execFtLpmAdd (t : Nat) (c : Call) (p : Bytes) (s : State) : Host.Outcome State Fault Refusal :=
  commandRow t 0x1020 c p s (fun s => answer 0x1020 c (opLpmAdd p s))

/-- FT_LPM_DEL (R245). -/
def execFtLpmDel (t : Nat) (c : Call) (p : Bytes) (s : State) : Host.Outcome State Fault Refusal :=
  commandRow t 0x1021 c p s (fun s => answer 0x1021 c (opLpmDel p s))

/-- FT_LPM_FIND (R255). -/
def execFtLpmFind (t : Nat) (c : Call) (p : Bytes) (s : State) : Host.Outcome State Fault Refusal :=
  commandRow t 0x1022 c p s (fun s => answer 0x1022 c (opLpmFind p s))

end Sys2Proof.Machine
end

