-- ==== Sys2Proof/Machine/Ethernet.lean ====
section
/-! DEFINITION. The Ethernet ports (R201–R207): configuration, links, reception, and the reading of 64-bit counters. -/

namespace Sys2Proof.Machine

/-! ### Configuration and links (R202–R204) -/

/-- Whether an interface is available on a port (Table 8.2). -/
def ifaceOn (port iface : Nat) : Bool := if port < 4 then decide (iface ≤ 3) else iface == 4 || iface == 5

/-- Whether a FEC is available with an interface (Table 8.2). -/
def fecOn (iface fec : Nat) : Bool := fec == 0 || (iface == 0 && decide (fec ≤ 2)) || (iface == 1 && fec == 1)

/-- Whether an interface runs at a speed (Table 8.2; ETH_STATUS.speed encoding). -/
def speedOn (iface speed : Nat) : Bool :=
  match iface with
  | 0 => speed == 6
  | 1 => speed == 5
  | 2 => decide (speed ≤ 5)
  | 3 => speed == 4
  | 4 => decide (speed ≤ 2)
  | 5 => speed == 3
  | _ => false

/-- The code of the first row of Table 8.3 that fails, 0 for none. -/
def ethConfigCode (s : State) (port : Nat) : Nat :=
  let iface := rd s Reg.ETH_CFG.iface port
  let len := rd s Reg.ETH_CFG.max_len port
  if !ifaceOn port iface then 1
  else if !fecOn iface (rd s Reg.ETH_CFG.fec port) then 2
  else if len < 64 ∨ 9216 < len then 3
  else if rd s Reg.ETH_CFG.loopback port = 3 then 4
  else 0

/-- The link of a port going down (R204): the frame in transmission ended, the queues flushed, the frame being received
discarded, the event. -/
def ethDown (s : State) (port cause : Nat) (receiving : Bool) : State :=
  if !rdB s Reg.ETH_STATUS.link port then s
  else
    let s := gateSync s port
    let (s, sent) := abortOutput s port
    let s := if sent then bump s Reg.ETH_TX_ABORT.value port else s
    let (s, n) := flushOutput s port
    let s := bumpBy s Reg.ETH_TX_FLUSH.value n port
    let early := Tab.find s.sw.receiving port
    let s := modSw s (fun w => { w with receiving := Tab.del w.receiving port })
    let s := match early with
      | some (some id) => discardFrame s id
      | _ => s
    let s := if early.isSome || receiving then bump s Reg.ETH_RX_ABORT.value port else s
    let s := wr (wr s Reg.ETH_STATUS.link 0 port) Reg.ETH_STATUS.speed 7 port
    let s := wr s Reg.ETH_STATUS.fec_eff 0 port
    ethEvent s port 2 (leBytes 1 cause ++ zeros 3 ++ leBytes 4 n)

/-- A write of ETH_CFG: stored whole while the port is not running, whatever the values, so that Table 8.3 tests them (R202,
assumption 99). Whether a frame is being received as a write disables the port is a free value (assumption 100). -/
def ethCfgWrite (port data : Nat) (s : State) : State :=
  let en := bitSet data 0
  if rdB s Reg.ETH_STATUS.en_eff port then
    let s := wr s Reg.ETH_CFG.en (b2n en) port
    if en then s else wr (ethDown s port 3 (Config.portBusy port s.now)) Reg.ETH_STATUS.en_eff 0 port
  else
    let s := wr (wr s Reg.ETH_CFG.en (b2n en) port) Reg.ETH_CFG.iface (bitsOf data 1 3) port
    let s := wr (wr s Reg.ETH_CFG.fec (bitsOf data 4 2) port) Reg.ETH_CFG.loopback (bitsOf data 6 2) port
    let s := wr (wr s Reg.ETH_CFG.max_len (bitsOf data 8 14) port) Reg.ETH_CFG.class_untagged (bitsOf data 22 3) port
    if en && !transitFull s then
      let code := ethConfigCode s port
      let s := wr s Reg.ETH_STATUS.cfg_err code port
      if code = 0 then wr s Reg.ETH_STATUS.en_eff 1 port else ethEvent s port 3 (leBytes 1 code)
    else s

/-- ETH_LINK_UP (R203): nothing where the port is not running, its link is up, or its interface has no such speed. -/
def ethUp (port speed : Nat) (s : State) : State :=
  if !rdB s Reg.ETH_STATUS.en_eff port || rdB s Reg.ETH_STATUS.link port ||
      !speedOn (rd s Reg.ETH_CFG.iface port) speed then s
  else
    let s := gateSync s port
    let s := wr (wr s Reg.ETH_STATUS.link 1 port) Reg.ETH_STATUS.speed speed port
    let s := wr s Reg.ETH_STATUS.fec_eff (rd s Reg.ETH_CFG.fec port) port
    let s := wr (wr s Reg.ETH_STATUS.local_fault 0 port) Reg.ETH_STATUS.remote_fault 0 port
    let s := wr s Reg.ETH_STATUS.hd_refused 0 port
    let s := (List.range 8).foldl (fun s c => clearCredit s port c) s
    let s := ethEvent s port 1 (leBytes 1 speed ++ leBytes 1 (rd s Reg.ETH_STATUS.fec_eff port))
    checkSlopes s port

/-- ETH_LINK_DOWN (R203, R204). -/
def ethLinkDownOp (port cause : Nat) (receiving : Bool) (s : State) : State :=
  let s := match cause with
    | 1 => wr s Reg.ETH_STATUS.local_fault 1 port
    | 2 => wr s Reg.ETH_STATUS.remote_fault 1 port
    | 4 => wr s Reg.ETH_STATUS.hd_refused 1 port
    | _ => s
  ethDown s port cause receiving

/-! ### Reception (R205, R206) -/

/-- Whether a frame is an in-band command (R406). -/
def isInband (s : State) (port : Nat) (data : Bytes) : Bool :=
  let p := if isTagged data then 16 else 12
  rdB s Reg.CMD_CTRL.inb_en && bitSet (rd s Reg.CMD_INB_CFG.ports) port && beAt data p 2 == 0x88B5 &&
    leAt data 0 6 == rd s Reg.CMD_INB_MAC.mac

/-- A frame counted as received and handed on. -/
def countRx (s : State) (port : Nat) (data : Bytes) : State :=
  let s := bumpBy (bump s Reg.ETH_RX_OK.value port) Reg.ETH_RX_OCTETS.value (data.length + 4) port
  countGroup s data Reg.ETH_RX_MCAST.value Reg.ETH_RX_BCAST.value port

/-- A frame being received given its further cells up to `len` bytes (R206, R209); tells whether none is refused. A frame
already discarded needs none. -/
def growFrame (s : State) (id len : Nat) : State × Bool :=
  match frameAt s id with
  | none => (s, true)
  | some f => admitCells id (ceilDiv len 256 - f.cells) s

/-- The frame whose reception starts on an Ethernet port, without cells. -/
def startEth (s : State) (port : Nat) (data fcs : Bytes) (len start : Nat) : State × Nat :=
  addFrame s (withTag s { CoreFrame.entering data fcs port (prelimClass s port data) with
    len := len
    received := false
    stamp := ethStamp s port start
    start := start })

/-- The port receive mirror of a frame as its reception ends: one with a correct FCS received whole (R224). -/
def mirrorReceived (s : State) (port : Nat) (rx : EthRx) : State :=
  let len := rx.frame.length
  let data := rx.frame.take (len - 4)
  if rx.overrun || decide (rd s Reg.ETH_CFG.max_len port < len) || rx.frame.drop (len - 4) != fcsOf data then s
  else mirrorRx s port data (ethStamp s port rx.start)

/-- The mirrors of a frame sent round while it was received: output and input 18 (R224, R270). -/
def mirrorLate (s : State) (id : Nat) : State :=
  match frameAt s id with
  | none => s
  | some f => if f.input = 18 then mirrorRound s f.port0 f.data f.data f.stamp else s

/-- Frame `id` at the end of its reception, with what its SecY left of it: counted, delivered or handed to parsing. What an
earlier pass has stripped from an early frame stays off it (R206, R270). -/
def finishReception (s : State) (port id : Nat) (rx : EthRx) (early : Bool) (plain : Bytes) : State :=
  let len := rx.frame.length
  let data := rx.frame.take (len - 4)
  let s := countRx s port data
  let s := modFrame s id (fun f =>
    let f := if plain = data then { f with
        data := data.drop f.strip
        len := len - f.strip
        fcs := rx.frame.drop (len - 4) } else withTag s (f.withData plain)
    { f with received := true })
  if early then mirrorLate s id else pushArrived s port id

/-- The end of a SecY's verification of a frame held at the end of its reception (R331). -/
def secYVerified (s : State) (port id : Nat) (rx : EthRx) (early : Bool) (k n : Nat) (ok : Bool) (plain : Bytes) : State :=
  if (frameAt s id).isNone then s
  else
    match msVerified s port (rx.frame.take (rx.frame.length - 4)) k n ok plain with
    | (s, none) => discardFrame s id
    | (s, some d) => finishReception s port id rx early d

/-- The end of a frame's reception (R206, Table 8.4): counted, and discarded, delivered or handed to parsing; `early` tells
that it was ready before. What an earlier pass has stripped from an early frame stays off it (R270). `inband` takes an in-band
command (R406). -/
def endReception (s : State) (port id : Nat) (rx : EthRx) (early : Bool) (inband : Bytes → State → State) : State :=
  let len := rx.frame.length
  let data := rx.frame.take (len - 4)
  let fcs := rx.frame.drop (len - 4)
  let drop := fun (s : State) (f : Fld) => discardFrame (bump s f port) id
  let maxLen := rd s Reg.ETH_CFG.max_len port
  match growFrame s id (min len (maxLen + 1)) with
  | (s, false) => mirrorReceived (discardFrame (admissionRefused s id) id) port rx
  | (s, true) =>
    let s := mirrorReceived s port rx
    if rx.overrun then drop s Reg.ETH_RX_CORE_OVR.value
    else if maxLen < len then drop s Reg.ETH_RX_OVERSIZE.value
    else if rx.code then drop s Reg.ETH_RX_CODE.value
    else if fcs ≠ fcsOf data then drop s Reg.ETH_RX_FCS.value
    else
      if beAt data 12 2 = 0x8808 then drop s Reg.ETH_RX_CTRL.value
      else if bitSet (byteAt data 6) 0 then drop s Reg.ETH_RX_BAD_SA.value
      else if isInband s port data then inband data (discardFrame (countRx s port data) id)
      else if beAt data 12 2 = 0x88F7 then discardFrame (countRx s port data) id
      else
        match msReceive s port data with
        | (s, .drop) => discardFrame s id
        | (s, .pass d) => finishReception s port id rx early d
        | (s, .cipher k n) =>
          if queueFullNow s 1 then discardFrame (queueFull s 1) id else enqueueReq s (msRequest s port id rx early k n)

/-- ETH_FRAME_RECEIVED (R205, R206): nothing on a port without a link. A frame that was ready before its reception ended is
the one the port is receiving. -/
def ethReceive (port : Nat) (rx : EthRx) (inband : Bytes → State → State) (s : State) : State :=
  let len := rx.frame.length
  let data := rx.frame.take (len - 4)
  let fcs := rx.frame.drop (len - 4)
  if !rdB s Reg.ETH_STATUS.link port then s
  else
    let early := Tab.find s.sw.receiving port
    let s := modSw s (fun w => { w with receiving := Tab.del w.receiving port })
    match early with
    | some none => mirrorReceived s port rx
    | some (some id) => endReception s port id rx true inband
    | none =>
      if len < 64 then
        bump (mirrorReceived s port rx) (if fcs = fcsOf data then Reg.ETH_RX_RUNT.value else Reg.ETH_RX_FRAG.value) port
      else
        let (s, id) := startEth s port data fcs len rx.start
        endReception s port id rx false inband

/-- A frame still being received that is ready (R259), its first 256 bytes in the buffer: its first cell taken. Frames that never reach parsing, and MACsec
frames, which are verified before it, are not ready before their reception ends. -/
def ethEarly (port : Nat) (e : EarlyFrame) (s : State) : State × Option Nat :=
  let consumed := beAt e.head 12 2 == 0x8808 || beAt e.head 12 2 == 0x88F7 || bitSet (byteAt e.head 6) 0 ||
    isInband s port e.head || ((secY s port).enable && beAt e.head 12 2 == 0x88E5)
  if !rdB s Reg.ETH_STATUS.link port || (Tab.find s.sw.receiving port).isSome || e.head.length ≠ 256 || e.len < 257 ||
      consumed then (s, none)
  else
    let (s, id) := startEth s port (e.head.take (e.len - 4)) (e.head.drop (e.len - 4)) e.len e.start
    match growFrame s id 256 with
    | (s, false) =>
      let s := discardFrame (admissionRefused s id) id
      (modSw s (fun w => { w with receiving := Tab.put w.receiving port none }), none)
    | (s, true) => (modSw s (fun w => { w with receiving := Tab.put w.receiving port (some id) }), some id)

/-! ### 64-bit counters (R207) -/

/-- The 64-bit counter whose LO half stands at an address: its field and its port. -/
def octetCounter (addr : Nat) : Option (Fld × Nat) :=
  if addr = 0xB0230 then some (Reg.PE_STAT_SLOTS.value, 0)
  else if 0x80000 ≤ addr ∧ addr < 0x8C000 then
    if addr % 0x1000 = 0x100 then some (Reg.ETH_RX_OCTETS.value, (addr - 0x80000) / 0x1000)
    else if addr % 0x1000 = 0x108 then some (Reg.ETH_TX_OCTETS.value, (addr - 0x80000) / 0x1000)
    else none
  else none

/-- A read at the LO offset of a 64-bit counter (R207): a 4-byte read latches the high half, a non-speculative one clears
both. -/
def octetRead (addr : Nat) (wide speculative : Bool) (s : State) : State :=
  match octetCounter addr with
  | none => s
  | some (f, i) =>
    let v := rd s f i
    let s := if wide then s else modSw s (fun w => { w with shadows := Tab.put w.shadows addr (v / 2 ^ 32) })
    if speculative then s else wr s f 0 i

/-! ### The rows -/

/-- ETH_CFG_WRITE (R202). -/
def execEthCfgWrite (t : Nat) (port : Fin 12) (data : BitVec 32) (s : State) : Host.Outcome State Fault Refusal :=
  running t s <|
  done (ethCfgWrite port data.toNat (arrive t s))

/-- ETH_LINK_UP (R203). -/
def execEthLinkUp (t : Nat) (port : Fin 12) (speed : Fin 7) (s : State) : Host.Outcome State Fault Refusal :=
  running t s <|
  done (ethUp port speed (arrive t s))

/-- ETH_LINK_DOWN (R204). -/
def execEthLinkDown (t : Nat) (port : Fin 12) (cause : Fin 5) (receiving : Bool) (s : State) :
    Host.Outcome State Fault Refusal :=
  done (ethLinkDownOp port cause receiving (arrive t s))

/-- OCTET_COUNTER_LO_READ (R207): the low half, or both, comes back to the host. -/
def octetReadOp (addr : Nat) (wide speculative : Bool) (s : State) : State :=
  match octetCounter addr with
  | none => s
  | some (f, i) =>
    let n := if wide then 8 else 4
    emit (octetRead addr wide speculative s) (.pcieCompletion 16 0 (leBytes n (rd s f i)))

/-- OCTET_COUNTER_LO_READ (R207). -/
def execOctetCounterLoRead (t : Nat) (addr : Nat) (wide speculative : Bool) (s : State) :
    Host.Outcome State Fault Refusal :=
  running t s <|
  done (octetReadOp addr wide speculative (arrive t s))

end Sys2Proof.Machine
end

