-- ==== Sys2Proof/Machine/Microcode.lean ====
section
/-! DEFINITION. The programming model of the parse engines (R261–R269): images, window, registers, metadata, what each
instruction does, and the decoding of the instruction words of Tables 10.4 and 10.5. -/

namespace Sys2Proof.Machine

/-- The parse-engine state changed by `f`. -/
def modPe (s : State) (f : PeState → PeState) : State := { s with pe := f s.pe }

/-- A PE event (Table 10.10). -/
def peEvent (s : State) (code inst : Nat) (data : Bytes) : State := raiseIn s Reg.PE_INT_STATUS.event 0 7 code inst data

/-- A limited PE event of scope `inst`. -/
def peEventLimited (s : State) (code inst n : Nat) (data : Nat → Bytes) : State :=
  raiseInLimited s Reg.PE_INT_STATUS.event 0 7 code inst inst n data

/-- Engine `e`. -/
def engineAt (s : State) (e : Nat) : Engine := Tab.get s.pe.engines e Engine.reset

/-- Engine `e` set. -/
def setEngine (s : State) (e : Nat) (g : Engine) : State := modPe s (fun p => { p with engines := Tab.put p.engines e g })

/-! ### Images (Table 10.6) -/

/-- The image of bank `b`. -/
def imageOf (s : State) (b : Nat) : Bytes := Tab.get s.pe.images b []

def Image.words (x : Bytes) : Nat := leAt x 0x06 2
def Image.worst (x : Bytes) : Nat := leAt x 0x08 2
def Image.tableWords (x : Bytes) : Nat := leAt x 0x0A 2
def Image.entry (x : Bytes) (p : Nat) : Nat := leAt x (0x10 + 2 * p) 2
def Image.tableBase (x : Bytes) (t : Nat) : Nat := bitsOf (leAt x (0x40 + 4 * t) 4) 0 14
def Image.tableSize (x : Bytes) (t : Nat) : Nat := bitsOf (leAt x (0x40 + 4 * t) 4) 14 15

/-- Instruction word `i`. -/
def Image.code (x : Bytes) (i : Nat) : Nat := leAt x (0x80 + 4 * i) 4

/-- Word `i` of table `t`. -/
def Image.lookup (x : Bytes) (t i : Nat) : Nat := leAt x (0x80 + 4 * (Image.words x + Image.tableBase x t + i)) 4

/-! ### Registers, window, metadata (R261–R263) -/

/-- 32-bit arithmetic is modulo 2^32 (R266). -/
def w32 (v : Nat) : Nat := v % 2 ^ 32

/-- General register `r`, 32 bits; g0 reads as 0. -/
def Engine.gr (g : Engine) (r : Nat) : Nat := if r = 0 then 0 else w32 (g.g.getD r 0)

/-- General register `r` written; writes to g0 are ignored. -/
def Engine.setG (g : Engine) (r v : Nat) : Engine := if r = 0 then g else { g with g := setNth g.g r (w32 v) }

/-- Metadata word `k`. -/
def Engine.mr (g : Engine) (k : Nat) : Nat := g.m.getD k 0

/-- Metadata word `k` written by a program: m0 and m1 are not, nor bits 10–8 of m14. -/
def Engine.setM (g : Engine) (k v : Nat) : Engine :=
  if k < 2 then g
  else
    let v := if k = 14 then setBits v 8 3 (bitsOf (g.mr 14) 8 3) else v
    { g with m := setNth g.m k (w32 v) }

/-- Bit `k` of m14 set by the device. -/
def Engine.flag (g : Engine) (k : Nat) : Engine := { g with m := setNth g.m 14 (orBit (g.mr 14) k) }

/-- The cursor set; above 1,023 it is 1,023 (R262). -/
def Engine.setC (g : Engine) (v : Nat) : Engine := { g with c := min (w32 v) 1023 }

/-- Input port and pass as m0 tells them. -/
def Engine.input (g : Engine) : Nat := bitsOf (g.mr 0) 0 5
def Engine.passNo (g : Engine) : Nat := bitsOf (g.mr 0) 5 2

/-- The window byte at an address, 0 beyond the window. -/
def Engine.byteAt (g : Engine) (a : Nat) : Nat := (g.window.getD (w32 a) 0#8).toNat

/-- Whether any of the `n` bytes at an address lies beyond the window. -/
def Engine.beyond (g : Engine) (a n : Nat) : Bool := (List.range n).any (fun k => decide (g.window.length ≤ w32 (a + k)))

/-- `n` window bytes, big-endian. -/
def Engine.load (g : Engine) (a : Nat) : Nat → Nat
  | 0 => 0
  | n + 1 => g.load a n * 256 + g.byteAt (a + n)

/-! ### What instructions do (Table 10.5) -/

/-- Where an instruction leads. -/
inductive Flow where
  | next
  | branch (target : Nat)
  | ended
  | dropped (code : Nat)
  | round (strip : Nat)
  deriving DecidableEq, Repr

/-- What an instruction makes of the state and its engine: both afterwards, its slots, where it leads. -/
abbrev Effect := State → Engine → State × Engine × Nat × Flow

/-- An instruction of one slot that changes its engine alone. -/
def Pe.plain (f : Engine → Engine) : Effect := fun s g => (s, f g, 1, .next)

/-- A branch: two slots where taken, one where not. -/
def Pe.branchIf (p : Engine → Bool) (target : Nat) : Effect := fun s g =>
  if p g then (s, g, 2, .branch target) else (s, g, 1, .next)

def Pe.nop : Effect := Pe.plain id
def Pe.add (d a b : Nat) : Effect := Pe.plain (fun g => g.setG d (g.gr a + g.gr b))
def Pe.sub (d a b : Nat) : Effect := Pe.plain (fun g => g.setG d (g.gr a + 2 ^ 32 - g.gr b))
def Pe.and (d a b : Nat) : Effect := Pe.plain (fun g => g.setG d (g.gr a &&& g.gr b))
def Pe.or (d a b : Nat) : Effect := Pe.plain (fun g => g.setG d (g.gr a ||| g.gr b))
def Pe.xor (d a b : Nat) : Effect := Pe.plain (fun g => g.setG d (g.gr a ^^^ g.gr b))
def Pe.shl (d a b : Nat) : Effect := Pe.plain (fun g => g.setG d (g.gr a * 2 ^ (g.gr b % 32)))
def Pe.shr (d a b : Nat) : Effect := Pe.plain (fun g => g.setG d (g.gr a / 2 ^ (g.gr b % 32)))

/-- The 18-bit immediate sign-extended to 32 bits. -/
def Pe.signExt (imm : Nat) : Nat := pattern 32 (signed 18 imm)

def Pe.addi (d a imm : Nat) : Effect := Pe.plain (fun g => g.setG d (g.gr a + Pe.signExt imm))
def Pe.andi (d a imm : Nat) : Effect := Pe.plain (fun g => g.setG d (g.gr a &&& imm))
def Pe.ori (d a imm : Nat) : Effect := Pe.plain (fun g => g.setG d (g.gr a ||| imm))
def Pe.xori (d a imm : Nat) : Effect := Pe.plain (fun g => g.setG d (g.gr a ^^^ imm))
def Pe.movi (d imm : Nat) : Effect := Pe.plain (fun g => g.setG d imm)
def Pe.movhi (d a imm : Nat) : Effect := Pe.plain (fun g => g.setG d (imm * 2 ^ 16 + g.gr a % 2 ^ 16))
def Pe.shli (d a pos : Nat) : Effect := Pe.plain (fun g => g.setG d (g.gr a * 2 ^ pos))
def Pe.shri (d a pos : Nat) : Effect := Pe.plain (fun g => g.setG d (g.gr a / 2 ^ pos))
def Pe.ext (d a pos len : Nat) : Effect := Pe.plain (fun g => g.setG d (bitsOf (g.gr a) pos len))
def Pe.ins (d a pos len : Nat) : Effect := Pe.plain (fun g => g.setG d (setBits (g.gr d) pos len (g.gr a)))

/-- LDW; a read beyond the window is flagged and counted once (R261). -/
def Pe.ldw (d a size off : Nat) : Effect := fun s g =>
  let at_ := g.c + g.gr a + off
  let n := 2 ^ size
  let beyond := g.beyond at_ n
  let v := g.load at_ n
  let g := if beyond then g.flag 8 else g
  (if beyond then bump s Reg.PE_STAT_WIN_OVER.value else s, g.setG d v, 1, .next)

def Pe.setc (a off : Nat) : Effect := Pe.plain (fun g => g.setC (g.gr a + off))
def Pe.advc (a off : Nat) : Effect := Pe.plain (fun g => g.setC (g.c + g.gr a + off))
def Pe.getc (d : Nat) : Effect := Pe.plain (fun g => g.setG d g.c)
def Pe.ldm (d m : Nat) : Effect := Pe.plain (fun g => g.setG d (g.mr m))
def Pe.emit (m a : Nat) : Effect := Pe.plain (fun g => g.setM m (g.gr a))
def Pe.emitf (m a pos len : Nat) : Effect := Pe.plain (fun g => g.setM m (setBits (g.mr m) pos len (g.gr a)))

/-- LKT: three slots; beyond the table all ones, flagged and counted (R264). -/
def Pe.lkt (d a t : Nat) : Effect := fun s g =>
  let x := imageOf s g.bank
  let i := g.gr a
  if i < Image.tableSize x t then (s, g.setG d (Image.lookup x t i), 3, .next)
  else (bump s Reg.PE_STAT_LKT_OVER.value, (g.flag 9).setG d (2 ^ 32 - 1), 3, .next)

def Pe.beq (a b target : Nat) : Effect := Pe.branchIf (fun g => g.gr a == g.gr b) target
def Pe.bne (a b target : Nat) : Effect := Pe.branchIf (fun g => g.gr a != g.gr b) target
def Pe.bltu (a b target : Nat) : Effect := Pe.branchIf (fun g => decide (g.gr a < g.gr b)) target
def Pe.bgeu (a b target : Nat) : Effect := Pe.branchIf (fun g => decide (g.gr b ≤ g.gr a)) target
def Pe.beqi (a imm target : Nat) : Effect := Pe.branchIf (fun g => g.gr a == imm) target
def Pe.bnei (a imm target : Nat) : Effect := Pe.branchIf (fun g => g.gr a != imm) target
def Pe.bbs (a bit target : Nat) : Effect := Pe.branchIf (fun g => bitSet (g.gr a) bit) target
def Pe.bbc (a bit target : Nat) : Effect := Pe.branchIf (fun g => !bitSet (g.gr a) bit) target
def Pe.jmp (target : Nat) : Effect := Pe.branchIf (fun _ => true) target
def Pe.ended : Effect := fun s g => (s, g, 1, .ended)
def Pe.drop (code : Nat) : Effect := fun s g => (s, g, 1, .dropped code)
def Pe.rcirc (a off : Nat) : Effect := fun s g => (s, g, 1, .round (w32 (g.gr a + off)))

/-! ### Decoding (Tables 10.4 and 10.5) -/

/-- What an instruction word does; none for a reserved opcode or a field marked 0 that is not. `pos + len` and the words
EMIT may name are the load check's to judge (Table 10.7). -/
def peDecode (w : Nat) : Option Effect :=
  let op := bitsOf w 26 6
  let d := bitsOf w 22 4
  let a := bitsOf w 18 4
  let b := bitsOf w 14 4
  let imm := bitsOf w 0 18
  let pos := bitsOf w 13 5
  let len := bitsOf w 8 5 + 1
  let size := bitsOf w 16 2
  let off := bitsOf w 0 10
  let target := bitsOf w 0 14
  let r := fun (e : Nat → Nat → Nat → Effect) => if bitsOf w 0 14 = 0 then some (e d a b) else none
  let i := fun (e : Nat → Nat → Nat → Effect) => some (e d a imm)
  let k := fun (e : Nat → Nat → Nat → Nat → Effect) => if bitsOf w 0 8 = 0 then some (e d a pos len) else none
  let sh := fun (e : Nat → Nat → Nat → Effect) => if bitsOf w 0 13 = 0 then some (e d a pos) else none
  let c := fun (e : Nat → Nat → Effect) => if d = 0 ∧ bitsOf w 10 8 = 0 then some (e a off) else none
  let br := fun (e : Nat → Nat → Nat → Effect) => if bitsOf w 14 4 = 0 then some (e d a target) else none
  let bi := fun (e : Nat → Nat → Nat → Effect) => some (e d (bitsOf w 14 8) target)
  let bb := fun (e : Nat → Nat → Nat → Effect) => if bitsOf w 14 3 = 0 then some (e d (bitsOf w 17 5) target) else none
  match op with
  | 0x00 => if w = 0 then some Pe.nop else none
  | 0x01 => r Pe.add
  | 0x02 => r Pe.sub
  | 0x03 => r Pe.and
  | 0x04 => r Pe.or
  | 0x05 => r Pe.xor
  | 0x06 => r Pe.shl
  | 0x07 => r Pe.shr
  | 0x08 => i Pe.addi
  | 0x09 => i Pe.andi
  | 0x0A => i Pe.ori
  | 0x0B => i Pe.xori
  | 0x0C => if a = 0 then some (Pe.movi d imm) else none
  | 0x0D => if bitsOf w 16 2 = 0 then some (Pe.movhi d a (bitsOf w 0 16)) else none
  | 0x0E => sh Pe.shli
  | 0x0F => sh Pe.shri
  | 0x10 => k Pe.ext
  | 0x11 => k Pe.ins
  | 0x14 => if size < 3 ∧ bitsOf w 10 6 = 0 then some (Pe.ldw d a size off) else none
  | 0x15 => c Pe.setc
  | 0x16 => c Pe.advc
  | 0x17 => if a = 0 ∧ imm = 0 then some (Pe.getc d) else none
  | 0x18 => if imm = 0 then some (Pe.ldm d a) else none
  | 0x19 => if imm = 0 then some (Pe.emit d a) else none
  | 0x1A => k Pe.emitf
  | 0x1C => r (fun d a t => Pe.lkt d a t)
  | 0x20 => br Pe.beq
  | 0x21 => br Pe.bne
  | 0x22 => br Pe.bltu
  | 0x23 => br Pe.bgeu
  | 0x24 => bi Pe.beqi
  | 0x25 => bi Pe.bnei
  | 0x26 => bb Pe.bbs
  | 0x27 => bb Pe.bbc
  | 0x28 => if d = 0 ∧ a = 0 ∧ bitsOf w 14 4 = 0 then some (Pe.jmp target) else none
  | 0x3C => if w = 0xF0000000 then some Pe.ended else none
  | 0x3D => if d = 0 ∧ a = 0 ∧ bitsOf w 8 10 = 0 then some (Pe.drop (bitsOf w 0 8)) else none
  | 0x3E => c Pe.rcirc
  | _ => none

/-! ### The load check (Table 10.7) -/

/-- The reason instruction word `w` of image `x` fails, 0 for none. -/
def codeReason (x : Bytes) (w : Nat) : Nat :=
  let op := bitsOf w 26 6
  let d := bitsOf w 22 4
  if (peDecode w).isNone then 5
  else if op = 0x1C ∧ Image.tableSize x (bitsOf w 14 4) = 0 then 4
  else if 0x20 ≤ op ∧ op ≤ 0x28 ∧ Image.words x ≤ bitsOf w 0 14 then 6
  else if (op = 0x19 ∨ op = 0x1A) ∧ d < 2 then 6
  else if (op = 0x10 ∨ op = 0x11 ∨ op = 0x1A) ∧ 32 < bitsOf w 13 5 + bitsOf w 8 5 + 1 then 6
  else 0

/-- The first failing word of an image, by its 32-bit word from the image's start, with its reason (Table 10.7). -/
def imageFault (s : State) (x : Bytes) : Option (Nat × Nat) :=
  let n := Image.words x
  let head : List (Nat × Nat × Bool) := [
    (0, 1, leAt x 0 4 != 0x43504550 || x.length != 132 + 4 * (n + Image.tableWords x)),
    (1, 1, leAt x 4 2 != 1),
    (1, 2, n == 0 || decide (16384 < n)),
    (2, 7, Image.worst x == 0 || decide (rd s Reg.PE_CTRL.max_slots < Image.worst x)),
    (2, 2, decide (16384 < Image.tableWords x))]
  let entries := (List.range 19).map (fun p => ((0x10 + 2 * p) / 4, 3, decide (n ≤ Image.entry x p)))
  let tables := (List.range 16).map (fun t =>
    (16 + t, 4, decide (Image.tableWords x < Image.tableBase x t + Image.tableSize x t)))
  match (head ++ entries ++ tables).find? (fun c => c.2.2) with
  | some c => some (c.1, c.2.1)
  | none =>
    (firstFrom (fun i => codeReason x (Image.code x i) != 0) 0 n).map (fun i => (32 + i, codeReason x (Image.code x i)))

end Sys2Proof.Machine
end

