-- ==== Sys2Proof/Machine/Parse.lean ====
section
/-! DEFINITION. Passes of the parse engines (R258–R260, R267–R276): readiness and dispatch, the running of an instruction and
the ends of a pass, recirculation, halting and stepping, banks and their loading. -/

namespace Sys2Proof.Machine

/-! ### Banks (R271, R273) -/

/-- The active bank. -/
def activeBank (s : State) : Nat := rd s Reg.PE_STATUS.active

/-- Whether bank `b` holds a checked image. -/
def bankReady (s : State) (b : Nat) : Bool := rdB s (if b = 0 then Reg.PE_STATUS.ready0 else Reg.PE_STATUS.ready1)

/-- Bank `b` marked ready or not. -/
def markBank (s : State) (b : Nat) (ready : Bool) : State :=
  wr s (if b = 0 then Reg.PE_STATUS.ready0 else Reg.PE_STATUS.ready1) (b2n ready)

/-- The drain flag of bank `b`. -/
def drainFld (b : Nat) : Fld := if b = 0 then Reg.PE_STATUS.drain0 else Reg.PE_STATUS.drain1

/-- Whether a frame that still carries bank `b`, or an engine with a frame, uses it (R273). -/
def bankUsed (s : State) (b : Nat) : Bool :=
  s.sw.frames.any (fun f => f.2.bank == some b) || s.pe.engines.any (fun g => g.2.frame.isSome && g.2.bank == b)

/-- The words a frame carries into its next pass. -/
def carried (m : List Nat) : List Nat := (m.drop 6).take 8

/-! ### The result store (R260) -/

/-- The free places of the result store given to engines whose pass has ended, lowest engine first. -/
def storeResults (s : State) : State :=
  s.pe.engines.foldl (fun s x =>
    let g := x.2
    match g.frame with
    | none => s
    | some id =>
      if !g.waiting || g.halted then s
      else if (frameAt s id).isNone then setEngine s x.1 { g with
        frame := none
        waiting := false }
      else if s.pe.results.length < 256 then
        let s := modFrame s id (fun f => { f with result := g.m })
        let s := modPe s (fun p => { p with results := p.results ++ [id] })
        setEngine s x.1 { g with
          frame := none
          waiting := false }
      else s) s

/-- Frame `id` discarded, and what its place in the result store was wanted for. -/
def dropFrame (s : State) (id : Nat) : State := storeResults (discardFrame s id)

/-! ### Recirculation (R270) -/

/-- Frame `id` no longer waits for a decision on its input. -/
def unorder (s : State) (id : Nat) : State :=
  modPe s (fun p => { p with
    order := Tab.mapAll (fun _ (l : List Nat) => l.filter (fun i => i != id)) p.order
    results := p.results.filter (fun i => i != id) })

/-- Whether the first 256 bytes of a frame's pass are in the buffer, or all of a shorter one (R259). -/
def inBuffer (f : CoreFrame) : Bool := f.received || decide (min f.len 256 ≤ f.data.length + f.fcs.length)

/-- Frame `id` sent round with `strip` bytes off its front, carrying `words`. -/
def sendRound (s : State) (id strip : Nat) (words : List Nat) : State :=
  match frameAt s id with
  | none => s
  | some f =>
    if 2 ≤ f.pass then
      dropFrame (peEventLimited (bump s Reg.PE_STAT_RCIRC_LIMIT.value) 2 f.port0 1 (leBytes 4)) id
    else if 255 < strip ∨ f.len < strip + 14 then dropFrame (bump s Reg.PE_STAT_RCIRC_BAD.value) id
    else
      let cells := f.cells
      let s := if f.received then mirrorRound s f.input f.data (f.data.drop strip) f.stamp else s
      let s := modFrame (unorder s id) id (fun f => { f with
        data := f.data.drop strip
        len := f.len - strip
        input := 18
        cells := 0
        pass := f.pass + 1
        strip := f.strip + strip
        words := words
        result := [] })
      match admitCells id cells s with
      | (s, true) => storeResults (pushArrived s 18 id)
      | (s, false) => dropFrame (admissionRefused s id) id

/-! ### Readiness and dispatch (R259) -/

/-- Frame `id` ready on input `p`: discarded where no checked bank would parse it, else stamped with the current turn at its
pass 0 and put into the parse queue (R271, R285). -/
def makeReady (s : State) (p id : Nat) : State :=
  match frameAt s id with
  | none => s
  | some f =>
    if !rdB s Reg.PE_CTRL.en || !bankReady s (f.bank.getD (activeBank s)) then
      dropFrame (bump s Reg.PE_STAT_DISABLED.value) id
    else
      let s := modFrame s id (fun f => { f with turn := some (f.turn.getD s.cl.current) })
      modPe s (fun g => { g with
        queues := Tab.upd g.queues p [] (fun l => l ++ [id])
        order := Tab.upd g.order p [] (fun l => l ++ [id]) })

/-- The next frame of the signal gateway admitted (R206, R208): its contents leave the gateway here (R303, R336). -/
def admitSgw (s : State) : State × Option Nat :=
  match s.sg.toSwitch with
  | [] => (s, none)
  | x :: rest =>
    let s := modSg s (fun g => { g with toSwitch := rest })
    let s := mirrorRx s 17 x.bytes (dtNow s)
    let s := x.left.foldl (fun s c => contentLeft s c.1 c.2) s
    enterFrame s (withTag s { CoreFrame.entering x.bytes (fcsOf x.bytes) 17 x.cls with
      stamp := dtNow s
      start := s.now })

/-- The first frame of input `p` that is not ready yet and that `ok` holds of, put among the ready ones by `k`. -/
def readyFirst (p : Nat) (ok : CoreFrame → Bool) (k : State → Nat → State) (s : State) : State :=
  let l := Tab.get s.sw.arrived p []
  match l.find? (fun id => ((frameAt s id).map ok).getD true) with
  | none => s
  | some id => makeReady (k (modSw s (fun w => { w with arrived := Tab.put w.arrived p (l.erase id) })) id) p id

/-- The bytes of a frame still being received brought up to those `e` shows from the start of its pass. -/
def showHead (e : EarlyFrame) (s : State) (id : Nat) : State :=
  modFrame s id (fun f => { f with
    data := e.head.take (e.len - 4)
    fcs := e.head.drop (e.len - 4) })

/-- FRAME_READY (R259): on an Ethernet port a frame still being received may be ready, and so may one sent round while it is
received. -/
def frameReadyOp (p : Nat) (early : Option EarlyFrame) (s : State) : State :=
  match early with
  | some e =>
    if p < 12 then
      match ethEarly p e s with
      | (s, some id) => makeReady s p id
      | (s, none) => s
    else readyFirst p (fun f => !f.received && f.start == e.start && f.len == e.len && f.data.isPrefixOf e.head &&
      e.head.length == min e.len 256) (showHead e) s
  | none =>
    if p = 17 then
      match admitSgw s with
      | (s, some id) => makeReady s 17 id
      | (s, none) => s
    else
      readyFirst p inBuffer (fun s _ => s) s

/-- The metadata at the start of a pass of frame `f` (Table 10.3). -/
def startMeta (f : CoreFrame) : List Nat :=
  [f.port0 + 32 * f.pass + 256 * f.cls + 65536 * f.len,
   f.vid % 4096 + 4096 * f.pcp + 32768 * b2n f.dei + 65536 * b2n (isTagged f.data), 0, 0, 0, 0] ++ f.words ++ [0, 0]

/-- The input the round robin comes to next: the first after the last one served with a frame waiting (R212). -/
def nextParseInput (s : State) : Option Nat :=
  (firstFrom (fun k => !(Tab.get s.pe.queues ((s.pe.lastInput + 1 + k) % 19) []).isEmpty) 0 19).map
    (fun k => (s.pe.lastInput + 1 + k) % 19)

/-- Engine `e` given frame `id`: its pass starts (R262, R263, R273). -/
def startPass (s : State) (e id : Nat) (f : CoreFrame) : State :=
  let b := f.bank.getD (activeBank s)
  let s := modFrame s id (fun f => { f with bank := some b })
  let entry := Image.entry (imageOf s b) (if f.pass = 0 then f.port0 else 18)
  setEngine s e { engineAt s e with
    window := (f.data ++ f.fcs).take (min f.len 256)
    g := List.replicate 16 0
    m := startMeta f
    c := 0
    pc := entry
    slots := 0
    frame := some id
    bank := b
    detached := false
    pastBp := false }

/-! ### The classification key (R280) -/

/-- The key of a pass result (Table 11.1). -/
def classKey (s : State) (m : List Nat) (data : Bytes) : Nat :=
  let w := fun (k : Nat) => m.getD k 0
  let kind := bitsOf (w 2) 16 8
  let l3 := if kind = 0 then 0 else if kind = 4 then 1 else if kind = 6 then 2 else 3
  let k0 := bitsOf (w 0) 0 5 + bitsOf (w 0) 5 2 * 2 ^ 5 + bitsOf (w 0) 8 3 * 2 ^ 7 + bitsOf (w 1) 0 12 * 2 ^ 10 +
    bitsOf (w 1) 12 3 * 2 ^ 22 + bitsOf (w 1) 15 1 * 2 ^ 25 + bitsOf (w 1) 16 1 * 2 ^ 26 + bitsOf (w 14) 8 1 * 2 ^ 27 +
    bitsOf (w 14) 9 1 * 2 ^ 28 + bitsOf (w 14) 10 1 * 2 ^ 29 + l3 * 2 ^ 30
  let k1 := bitsOf (w 2) 0 16 + bitsOf (w 2) 24 1 * 2 ^ 16 + bitsOf (w 2) 25 1 * 2 ^ 17 + bitsOf (w 14) 0 8 * 2 ^ 18 +
    byteAt data 0 % 2 * 2 ^ 26 + b2n (leAt data 0 6 == rd s Reg.FT_RTR_MAC.mac) * 2 ^ 27
  k0 + 2 ^ 32 * k1 + 2 ^ 64 * leNat ((carried m).flatMap (leBytes 4))

/-! ### The ends of a pass (R267–R269, R275, R276) -/

/-- The pass of engine `e` over: counted, and the engine free but for a result that waits. -/
def passOver (s : State) (e : Nat) (g : Engine) : State :=
  let s := bump s Reg.PE_STAT_PASS.value
  let s := wr s Reg.PE_STAT_MAX_SLOTS.value (max (rd s Reg.PE_STAT_MAX_SLOTS.value) g.slots)
  setEngine s e { g with
    frame := none
    detached := false
    halted := g.halted && !g.detached }

/-- A pass whose frame goes on by `k`; a detached frame is discarded whatever the end. -/
def passEnd (s : State) (e : Nat) (g : Engine) (k : State → Nat → State) : State :=
  match g.frame with
  | none => s
  | some id =>
    let s := passOver s e g
    if g.detached then dropFrame (bump s Reg.PE_STAT_DBG_DISCARD.value) id else k s id

/-- The result of engine `e` to the result store, its key formed as the pass ends (R280); while the store is full the engine
keeps it (R260). -/
def deliverResult (e : Nat) (g : Engine) (s : State) (id : Nat) : State :=
  match frameAt s id with
  | none => s
  | some f =>
    let key := classKey s g.m f.data
    storeResults (setEngine (modFrame s id (fun f => { f with key := key })) e { g with
      frame := some id
      waiting := true })

/-- An overrun (R269). -/
def overrun (s : State) (e : Nat) (g : Engine) : State :=
  let g := g.flag 10
  let s := bump s Reg.PE_STAT_OVERRUN.value
  let s := peEventLimited s 1 e 1 (fun n => leBytes 2 g.pc ++ leBytes 1 g.input ++ leBytes 1 g.passNo ++ leBytes 4 n)
  passEnd s e g (if rdB s Reg.PE_CTRL.ovr_action then deliverResult e g else dropFrame)

/-- An uncorrectable error under engine `e`: kind 0 an instruction word, 1 a table word, 2 engine state (R276). -/
def memoryError (s : State) (e : Nat) (g : Engine) (kind word : Nat) : State :=
  let s := lifeCount (bump s Reg.PE_STAT_EXC.value) Life.ecc 11
  let s := if kind < 2 then markBank s g.bank false else s
  let s := peEvent s 6 (if kind < 2 then 0xFFFF else e) (leBytes 1 kind ++ leBytes 1 g.bank ++ leBytes 2 word)
  passEnd s e g dropFrame

/-- A DROP recorded and its frame discarded. -/
def dropInstr (g : Engine) (code : Nat) (s : State) (id : Nat) : State :=
  let s := bump s Reg.PE_STAT_DROP.value
  let s := wr (wr s Reg.PE_LAST_DROP.code code) Reg.PE_LAST_DROP.input g.input
  let s := wr (wr s Reg.PE_LAST_DROP.pass g.passNo) Reg.PE_LAST_DROP.pc g.pc
  dropFrame s id

/-! ### Running (R268, R274, R275) -/

/-- Engine `e` halted for `cause`, the frame it holds detached. -/
def haltEngine (s : State) (e : Nat) (g : Engine) (cause bp : Nat) : State :=
  let s := match g.frame with
    | some id => unorder s id
    | none => s
  setEngine s e { g with
    halted := true
    detached := g.frame.isSome
    cause := cause
    bp := bp }

/-- The breakpoint that matches at an engine's pc (R274). -/
def breakpointAt (g : Engine) : Option Nat :=
  firstFrom (fun k =>
    let b := g.bps.getD k 0
    bitSet b 31 && bitsOf b 0 14 == g.pc && bitsOf b 23 1 == g.bank && (!bitSet b 19 || bitsOf b 14 5 == g.input) &&
      (!bitSet b 22 || bitsOf b 20 2 == g.passNo)) 0 4

/-- One instruction executed on engine `e`, or the overrun it would make (R269); a detached frame's overrun check is
suspended. -/
def execute (s : State) (e : Nat) (g : Engine) (eff : Effect) : State :=
  let (s', g', cost, flow) := eff s g
  if !g.detached && decide (rd s Reg.PE_CTRL.max_slots < g.slots + cost) then overrun s e g
  else
    let s := bumpBy s' Reg.PE_STAT_SLOTS.value cost
    let g := { g' with
      slots := g.slots + cost
      pastBp := false }
    match flow with
    | .next => setEngine s e { g with pc := (g.pc + 1) % 16384 }
    | .branch t => setEngine s e { g with pc := t }
    | .ended => passEnd s e g (deliverResult e g)
    | .dropped code => passEnd s e g (dropInstr g code)
    | .round strip =>
      passEnd (bump s Reg.PE_STAT_RCIRC.value) e g (fun s id => sendRound s id strip (carried g.m))

/-- What the memory under an engine shows at an instruction: `mem` as PARSE_DISPATCH has it, `word` the table word the
instruction reads (R276). -/
def executeOver (s : State) (e : Nat) (g : Engine) (mem word : Nat) (eff : Effect) : State :=
  if mem = 2 then memoryError s e g 0 g.pc
  else if mem = 3 then memoryError s e g 1 word
  else if mem = 4 then memoryError (drawn s) e g 2 (freeIn s 0 2047)
  else execute (if mem = 1 then lifeCount s Life.ecc 10 else s) e g eff

/-- The next instruction of engine `e`: nothing on an engine without a running pass; before a matching breakpoint the engine
halts instead. -/
def runInstr (e mem : Nat) (word : State → Engine → Nat) (eff : Effect) (s : State) : State :=
  let g := engineAt s e
  if g.frame.isNone || g.halted || g.waiting then s
  else
    match (if g.pastBp then none else breakpointAt g) with
    | some k =>
      let s := peEvent s 5 e (leBytes 1 k ++ leBytes 2 g.pc ++ leBytes 1 g.input ++ leBytes 1 g.passNo)
      haltEngine s e g 1 k
    | none => executeOver s e g mem (word s g) eff

/-- The table word an LKT reads. -/
def lktWord (a t : Nat) (s : State) (g : Engine) : Nat := (Image.tableBase (imageOf s g.bank) t + g.gr a) % 65536

/-- An instruction that reads no table. -/
def noWord : State → Engine → Nat := fun _ _ => 0

/-- PARSE_DISPATCH (R259): nothing on an engine that is busy or halted, or with no frame waiting. -/
def dispatch (e mem : Nat) (s : State) : State :=
  let g := engineAt s e
  if g.frame.isSome || g.halted then s
  else
    match nextParseInput s with
    | none => s
    | some p =>
      match Tab.get s.pe.queues p [] with
      | [] => s
      | id :: rest =>
        let s := modPe s (fun q => { q with
          queues := Tab.put q.queues p rest
          lastInput := p })
        match frameAt s id with
        | none => s
        | some f =>
          let s := startPass s e id f
          if 2 ≤ mem then memoryError (drawn s) e (engineAt s e) 2 (freeIn s 0 2047)
          else if mem = 1 then lifeCount s Life.ecc 10
          else s

/-! ### Debugging (R274, R275) -/

/-- The engine PE_DBG_SEL names. -/
def dbgEngine (s : State) : Nat := rd s Reg.PE_DBG_SEL.engine

/-- Whether PE_DBG_ registers take writes: the debug level in force is full. -/
def peDebug (s : State) : Bool := rd s Reg.LC_STATUS.level == 2 && decide (dbgEngine s < 24)

/-- PE_DBG_HALT. -/
def dbgHalt (s : State) : State :=
  let e := dbgEngine s
  if peDebug s && !(engineAt s e).halted then haltEngine s e (engineAt s e) 0 0 else s

/-- Engine `e` runs again from its pc; a detached frame whose pass had ended when the engine was halted is discarded (R275). -/
def resumeEngine (e : Nat) (s : State) : State :=
  let g := engineAt s e
  if g.halted then
    let s := setEngine s e { g with
      frame := if g.waiting then none else g.frame
      waiting := false
      halted := false
      detached := g.detached && !g.waiting
      pastBp := true }
    match g.waiting, g.frame with
    | true, some id => dropFrame (bump s Reg.PE_STAT_DBG_DISCARD.value) id
    | _, _ => s
  else s

/-- PE_DBG_RESUME. -/
def dbgResume (s : State) : State := if peDebug s then resumeEngine (dbgEngine s) s else s

/-- PE_DBG_STEP: the instruction at pc as the bank holds it. -/
def dbgStep (mem : Nat) (s : State) : State :=
  let e := dbgEngine s
  let g := engineAt s e
  if peDebug s && g.halted && g.frame.isSome && !g.waiting then
    let w := Image.code (imageOf s g.bank) g.pc
    match peDecode w with
    | none => s
    | some eff =>
      let word := if bitsOf w 26 6 = 0x1C then lktWord (bitsOf w 18 4) (bitsOf w 14 4) s g else 0
      executeOver s e { g with
        cause := 2
        bp := 0 } mem word eff
  else s

/-! ### Loading and switching (R272, R273, R278) -/

/-- PE_LOAD_OPEN. -/
def opLoadOpen (p : Bytes) (s : State) : CmdAnswer :=
  let b := 1 - activeBank s
  let n := leAt p 0 4
  if p.length ≠ 8 then fail s stBadLength
  else if leAt p 4 4 ≠ 0 then fail s stBadParam
  else if rdB s (drainFld b) then fail s stBusy
  else if n % 4 ≠ 0 ∨ n < 136 ∨ 131204 < n then fail s stBadParam
  else okay (modPe (markBank s b false) (fun g => { g with load := some ⟨n, []⟩ })) (leBytes 1 b ++ zeros 3)

/-- PE_LOAD_CHUNK. -/
def opLoadChunk (p : Bytes) (s : State) : CmdAnswer :=
  let k := p.length - 8
  if p.length < 12 ∨ k % 4 ≠ 0 ∨ 32768 < k then fail s stBadLength
  else if leAt p 4 4 ≠ 0 then fail s stBadParam
  else
    match s.pe.load with
    | none => fail s stBadParam
    | some l =>
      if leAt p 0 4 ≠ l.data.length ∨ l.length < l.data.length + k then fail s stBadParam
      else okay (modPe s (fun g => { g with load := some { l with data := l.data ++ p.drop 8 } })) []

/-- An image put into bank `b` where it passes its checks; the reply's status and result (R272). -/
def loadImage (s : State) (b : Nat) (x : Bytes) : State × Nat × Bytes :=
  let n := x.length
  if leAt x (n - 4) 4 ≠ crc32c (x.take (n - 4)) then (markBank s b false, stIntegrity, leBytes 4 0xFFFFFFFF ++ zeros 4)
  else
    match imageFault s x with
    | some (w, r) => (markBank s b false, stBadParam, leBytes 4 w ++ leBytes 1 r ++ zeros 3)
    | none =>
      let s := modPe (markBank s b true) (fun g => { g with images := Tab.put g.images b x })
      let s := wr (wr s Reg.PE_BANK_INFO.n_words (Image.words x) b) Reg.PE_BANK_INFO.worst_slots (Image.worst x) b
      (s, stOk, leBytes 4 0xFFFFFFFF ++ zeros 4)

/-- PE_LOAD_CLOSE. -/
def opLoadClose (p : Bytes) (s : State) : CmdAnswer :=
  if p.length ≠ 0 then fail s stBadLength
  else
    match s.pe.load with
    | none => fail s stBadParam
    | some l =>
      let s := modPe s (fun g => { g with load := none })
      if l.data.length < l.length then (s, some (stBadParam, leBytes 4 0xFFFFFFFF ++ zeros 4))
      else
        let (s, st, r) := loadImage s (1 - activeBank s) l.data
        (s, some (st, r))

/-- PE_BANK_SWITCH. -/
def opBankSwitch (p : Bytes) (s : State) : CmdAnswer :=
  let b := byteAt p 0
  if p.length ≠ 4 then fail s stBadLength
  else if 1 < b || leAt p 1 3 ≠ 0 || !bankReady s b then fail s stBadParam
  else if b = activeBank s then okay s []
  else
    let x := imageOf s b
    let s := wr (wr s (drainFld (activeBank s)) 1) Reg.PE_STATUS.active b
    okay (peEvent s 3 0xFFFF (leBytes 1 b ++ leBytes 2 (Image.words x) ++ leBytes 2 (Image.worst x))) []

/-- BANK_DRAINED (R273): nothing where the bank does not drain or a frame still uses it. -/
def bankDrainedOp (b : Nat) (s : State) : State :=
  if rdB s (drainFld b) && !bankUsed s b then peEvent (wr s (drainFld b) 0) 4 0xFFFF (leBytes 1 b) else s

/-! ### The rows -/

/-- FRAME_READY (R259). -/
def execFrameReady (t : Nat) (input : Fin 19) (early : Option EarlyFrame) (s : State) : Host.Outcome State Fault Refusal :=
  running t s <|
  done (frameReadyOp input early (arrive t s))

/-- PARSE_DISPATCH (R259). -/
def execParseDispatch (t : Nat) (e : Fin 24) (mem : Fin 5) (s : State) : Host.Outcome State Fault Refusal :=
  running t s <|
  done (dispatch e mem (arrive t s))

/-- PE_DBG_HALT (R275). -/
def execPeDbgHalt (t : Nat) (s : State) : Host.Outcome State Fault Refusal :=
  running t s <|
  done (dbgHalt (arrive t s))

/-- PE_DBG_RESUME (R275). -/
def execPeDbgResume (t : Nat) (s : State) : Host.Outcome State Fault Refusal :=
  running t s <|
  done (dbgResume (arrive t s))

/-- PE_DBG_STEP (R275). -/
def execPeDbgStep (t : Nat) (mem : Fin 5) (s : State) : Host.Outcome State Fault Refusal :=
  running t s <|
  done (dbgStep mem (arrive t s))

/-- PE_LOAD_OPEN (R278). -/
def execPeLoadOpen (t : Nat) (c : Call) (p : Bytes) (s : State) : Host.Outcome State Fault Refusal :=
  commandRow t 0x1500 c p s (fun s => answer 0x1500 c (opLoadOpen p s))

/-- PE_LOAD_CHUNK (R278). -/
def execPeLoadChunk (t : Nat) (c : Call) (p : Bytes) (s : State) : Host.Outcome State Fault Refusal :=
  commandRow t 0x1501 c p s (fun s => answer 0x1501 c (opLoadChunk p s))

/-- PE_LOAD_CLOSE (R272). -/
def execPeLoadClose (t : Nat) (c : Call) (p : Bytes) (s : State) : Host.Outcome State Fault Refusal :=
  commandRow t 0x1502 c p s (fun s => answer 0x1502 c (opLoadClose p s))

/-- PE_BANK_SWITCH (R273). -/
def execPeBankSwitch (t : Nat) (c : Call) (p : Bytes) (s : State) : Host.Outcome State Fault Refusal :=
  commandRow t 0x1503 c p s (fun s => answer 0x1503 c (opBankSwitch p s))

/-- BANK_DRAINED (R273). -/
def execBankDrained (t : Nat) (bank : Fin 2) (s : State) : Host.Outcome State Fault Refusal :=
  running t s <|
  done (bankDrainedOp bank (arrive t s))

end Sys2Proof.Machine
end

