-- ==== Sys2Proof/Machine/Classify.lean ====
section
/-! DEFINITION. Classification (chapter 11): keys, rules, the decision with its lookups (R229, R241–R243, R280–R284, R329),
turns and their commands (R285–R291, R294, R295), the scrub (R292). -/

namespace Sys2Proof.Machine

/-! ### The action word (Table 11.3) -/

def Act.fwd (a : Nat) : Nat := bitsOf a 0 2
def Act.cls (a : Nat) : Nat := bitsOf a 2 3
def Act.clsEn (a : Nat) : Bool := bitSet a 5
def Act.session (a : Nat) : Nat := bitsOf a 18 3
def Act.mirror (a : Nat) : Bool := bitSet a 21
def Act.copyHost (a : Nat) : Bool := bitSet a 22
def Act.rxPdu (a : Nat) : Bool := bitSet a 23
def Act.strip (a : Nat) : Nat := bitsOf a 24 8
def Act.device (a : Nat) : Nat := bitsOf a 45 6
def Act.port (a : Nat) : Nat := bitsOf a 51 5
def Act.profile (a : Nat) : Nat := bitsOf a 56 8

/-- The reason of Table 11.6 an action word fails, 0 for none. -/
def actionReason (s : State) (a : Nat) : Nat :=
  if Act.fwd a = 3 ∧ (bitsOf a 6 18 ≠ 0 ∨ bitsOf a 32 32 ≠ 0) then 2
  else if Act.fwd a == 2 && (decide (18 ≤ Act.port a) || (Act.device a != 0 && (Act.device a == ownId s || Act.port a == 17)))
    then 3
  else if Act.rxPdu a && Act.fwd a != 0 then 4
  else 0

/-! ### Keys and rules (R280–R282) -/

def Rule.id (r : Bytes) : Nat := leAt r 0 2
def Rule.priority (r : Bytes) : Nat := leAt r 2 2
def Rule.value (r : Bytes) : Nat := leAt r 0x08 40
def Rule.care (r : Bytes) : Nat := leAt r 0x30 40
def Rule.action (r : Bytes) : Nat := leAt r 0x58 8

/-- Whether a rule matches a key (R282). -/
def Rule.hits (r : Bytes) (key : Nat) : Bool := (key ^^^ Rule.value r) &&& Rule.care r == 0

/-- The reason a rule record fails Table 11.6, 0 for none. -/
def ruleReason (s : State) (r : Bytes) : Nat :=
  let care := Rule.care r
  if leAt r 4 4 ≠ 0 ∨ bitsOf care 60 4 ≠ 0 ∨ Rule.value r &&& care ≠ Rule.value r then 1
  else actionReason s (Rule.action r)

/-- The entry that wins for a frame of turn `t` (R282): highest priority, then lowest rule ID. -/
def winner (s : State) (t key : Nat) : Option ClEntry :=
  leastBy (fun e => (65535 - Rule.priority e.rule) * 65536 + Rule.id e.rule)
    ((s.cl.entries.map Prod.snd).filter (fun e => e.live t s.cl.current && !e.broken && Rule.hits e.rule key))

/-- The entry that decides a frame of turn `t`: none where none matches, and none while CL_CTRL.en is 0 (R282). -/
def consulted (s : State) (t key : Nat) : Option ClEntry := if rdB s Reg.CL_CTRL.en then winner s t key else none

/-- The entry that holds rule `id` live in turn C. -/
def liveRule (s : State) (id : Nat) : Option (Nat × ClEntry) :=
  s.cl.entries.find? (fun x => Rule.id x.2.rule == id && x.2.live s.cl.current s.cl.current)

/-- The miss action of turn `t`. -/
def missOf (s : State) (t : Nat) : Nat := Tab.get s.cl.miss t 1

/-- The action a frame of turn `t` takes: that of its entry, or the miss action of its turn (R282). -/
def chosenAction (s : State) (t : Nat) (win : Option ClEntry) : Nat :=
  match win with
  | some e => Rule.action e.rule
  | none => missOf s t

/-! ### Lookups (R229, R241–R243, R253) -/

/-- The memory errors a frame's lookups find, counted and reported. -/
def memErrors (s : State) (errs : List MemErr) : State :=
  errs.foldl (fun s e =>
    if e.corrected then lifeCount s Life.ecc 6
    else ftEvent (bump (lifeCount s Life.ecc 7) Reg.FT_STAT_MEM_UNC.value) 8 e.table (leBytes 4 e.index)) s

/-- Whether an error makes entry `i` of table `t` not valid for this lookup. -/
def lost (errs : List MemErr) (t i : Nat) : Bool := errs.any (fun e => e.table == t && e.index == i && !e.corrected)

/-- A bad entry found at use (Table 9.11). -/
def ftBadEntry (s : State) (t i : Nat) : State := ftEvent (bump s Reg.FT_STAT_BAD_ENTRY.value) 7 t (leBytes 4 i)

/-- The VLAN entry of a frame, or none where its rules discard it (R242). -/
def vlanOf (s : State) (f : CoreFrame) (errs : List MemErr) : State × Option Nat :=
  let e := vlanAt s f.vid
  let drop := fun (s : State) => (bump s Reg.FT_STAT_VLAN_DROP.value, none)
  if f.vid = 4095 ∨ Vlan.valid e = false ∨ lost errs 21 f.vid = true then drop s
  else if vlanReason f.vid e ≠ 0 then drop (ftBadEntry s 21 f.vid)
  else if rdB s Reg.FT_PORT_CFG.ingress_filter f.input && !bitSet (Vlan.member e) f.input then drop s
  else (s, some e)

/-- What lookups and routes make of a frame: its copies, or none where they discard it. -/
abbrev Copies := Option (List Target)

/-- The copies of a frame for a port of another device (R241, R365, R366): two where its class is dual and its route has a
dual link; discarded where it has no route. -/
def fabricTargets (s : State) (f : CoreFrame) (device port : Nat) : State × Copies :=
  match routeLink s device with
  | none => (bump s Reg.TF_STAT_NO_ROUTE.value, none)
  | some l =>
    if !reachable s device then (bump s Reg.TF_STAT_NO_ROUTE.value, none)
    else
      let d := bitsOf (routeOf s device) 6 3
      if bitSet (rd s Reg.TF_DUAL_CLASS.mask) f.cls && linkUp s d && !(s.tf.protected_).contains d then
        let q := s.tf.dualSeq
        ({ s with tf := { s.tf with dualSeq := (q + 1) % 65536 } },
          some [⟨12 + l, device, port, false, some q⟩, ⟨12 + d, device, port, false, some q⟩])
      else (s, some [⟨12 + l, device, port, false, none⟩])

/-- One copy for output `q` of this device. -/
def localTarget (q : Nat) : List Target := [⟨q, 0, 31, false, none⟩]

/-- The copies of a flood: the VLAN's members but the input; a Tyeth member where the flood tree has its link, and only for a
frame that did not come over the fabric, whose flood the fabric forwards itself (R241, R364). -/
def floodTargets (s : State) (f : CoreFrame) (vlan : Nat) : List Target :=
  ((List.range 17).filter (fun q => bitSet (Vlan.member vlan) q && q != f.input &&
    (decide (q < 12) || q == 16 || (bitSet (rd s Reg.TF_FLOOD.mask) (q - 12) && !(12 ≤ f.port0 && f.port0 < 16))))).map
    (fun q => ⟨q, 0, 31, decide (12 ≤ q ∧ q < 16), none⟩)

/-- The destination lookup (R241). -/
def destLookup (s : State) (f : CoreFrame) (vlan : Nat) (errs : List MemErr) : State × Copies :=
  let group := byteAt f.data 0 % 2 == 1
  let hit := if rdB s Reg.FT_CTRL.en && !group then l2Find s (leAt f.data 0 6) (Vlan.fid vlan) (lost errs 20) else none
  let flood := fun (s : State) =>
    (if group then s else bump s Reg.FT_STAT_FLOOD.value, some (floodTargets s f vlan))
  match hit with
  | none => flood s
  | some i =>
    let e := l2At s i
    if l2Reason s e ≠ 0 then flood (ftBadEntry s 20 i)
    else if L2.kind e = 2 then (bump s Reg.FT_STAT_DISCARD_HIT.value, none)
    else if L2.kind e = 1 then fabricTargets s f (L2.device e) (L2.port e)
    else if L2.port e = f.input then (bump s Reg.FT_STAT_SAME_PORT.value, none)
    else if bitSet (Vlan.member vlan) (L2.port e) then (s, some (localTarget (L2.port e)))
    else (bump s Reg.FT_STAT_VLAN_DROP.value, none)

/-- Whether routing applies to a frame, and its family (R243). -/
def routesFrame (s : State) (f : CoreFrame) (vlan : Nat) : Option Bool :=
  let kind := bitsOf (f.result.getD 2 0) 16 8
  if rdB s Reg.FT_CTRL.route_en && Vlan.routeEn vlan && leAt f.data 0 6 == rd s Reg.FT_RTR_MAC.mac then
    if kind = 4 then some false else if kind = 6 then some true else none
  else none

/-- The lookup of a routed frame (R243): its copies, and its next hop. -/
def routeLookup (s : State) (f : CoreFrame) (six : Bool) (errs : List MemErr) : State × Copies × Option Nat :=
  let l3 := bitsOf (f.result.getD 3 0) 0 10
  let addr := if six then beAt f.data (l3 + 24) 16 else beAt f.data (l3 + 16) 4
  let ttl := byteAt f.data (l3 + (if six then 7 else 8))
  let unread := errs.any (fun e => e.table == (if six then 23 else 22) && !e.corrected)
  match (if unread then none else lpmFind s six addr) with
  | none => (bump s Reg.FT_STAT_LPM_MISS.value, none, none)
  | some (_, p) =>
    let i := Pfx.nextHop p
    let e := nextHopAt s i
    if ttl ≤ 1 then (bump s Reg.FT_STAT_TTL.value, none, none)
    else if !Nh.valid e || nextHopReason s e != 0 || lost errs 24 i then (ftBadEntry s 24 i, none, none)
    else
      let s := bump s Reg.FT_STAT_ROUTED.value
      match Nh.kind e with
      | 0 => (s, some (localTarget (Nh.port e)), some e)
      | 1 =>
        let (s, ts) := fabricTargets s f (Nh.device e) (Nh.port e)
        (s, ts, some e)
      | 2 => (s, some (localTarget 16), some e)
      | _ => (s, none, none)

/-- Where a frame's action and lookups send it (R241, R283): its copies and its next hop. -/
def namedTargets (s : State) (f : CoreFrame) (vlan : Nat) (errs : List MemErr) : State × Copies × Option Nat :=
  let a := f.action
  let plain := fun (x : State × Copies) => (x.1, x.2, none)
  if Act.fwd a = 2 then
    if Act.device a = 0 ∨ Act.device a = ownId s then (s, some (localTarget (Act.port a)), none)
    else plain (fabricTargets s f (Act.device a) (Act.port a))
  else if Act.rxPdu a then (s, some (localTarget 17), none)
  else
    match f.given with
    | some g => if g.flood then (s, some (floodTargets s f vlan), none) else (s, some [g], none)
    | none =>
      match routesFrame s f vlan with
      | some six => routeLookup s f six errs
      | none => plain (destLookup s f vlan errs)

/-- The same with no copy to the frame's own input: no switch port 0–15 is ever an output of what it brings (R200,
assumption 101). -/
def forwardTargets (s : State) (f : CoreFrame) (vlan : Nat) (errs : List MemErr) : State × Copies × Option Nat :=
  let (s, ts, nh) := namedTargets s f vlan errs
  (s, ts.map (fun l => l.filter (fun g => decide (16 ≤ f.input) || g.out != f.input)), nh)

/-! ### Cipher profiles (R329, R330) -/

/-- Profile fields (Table 13.7), and the places they name in a frame. -/
def Prof.mode (e : Nat) : Nat := bitsOf e 0 2
def Prof.slot (e : Nat) : Nat := bitsOf e 2 9
def Prof.macSlot (e : Nat) : Nat := bitsOf e 11 9
def Prof.strip (e : Nat) : Bool := bitSet e 22
def Prof.ivOff (e : Nat) : Nat := bitsOf e 32 10
def Prof.aadOff (e : Nat) : Nat := bitsOf e 42 10
def Prof.encOff (e : Nat) : Nat := bitsOf e 52 10
def Prof.tagLen (e : Nat) : Nat := bitsOf e 64 5
def Prof.base (e : Nat) (m : List Nat) : Nat :=
  match bitsOf e 20 2 with
  | 0 => 0
  | k => bitsOf (m.getD 3 0) (10 * (k - 1)) 10

/-- Where the tag of a frame under profile `e` begins. -/
def Prof.tagAt (e : Nat) (f : CoreFrame) : Nat := f.data.length - Prof.tagLen e

/-- Whether a frame fits its profile (R330). -/
def Prof.fits (e : Nat) (f : CoreFrame) : Bool :=
  let b := Prof.base e f.result
  let t := Prof.tagAt e f
  bitSet e 31 && decide (Prof.tagLen e ≤ f.data.length) && decide (b + Prof.ivOff e < t) && decide (b + Prof.aadOff e < t) &&
    decide (b + Prof.encOff e < t) && decide (Prof.aadOff e ≤ Prof.encOff e)

/-- The bytes of a frame from `off` past its profile's base, up to its tag. -/
def Prof.upToTag (e : Nat) (f : CoreFrame) (off : Nat) : Bytes :=
  (f.data.take (Prof.tagAt e f)).drop (Prof.base e f.result + off)

/-- The cipher request of frame `id` under profile entry `e` (R330): GCM or GMAC over everything from aad_off on, or CTR or
CBC under one key and a CMAC over all of it under another. -/
def Prof.request (e : Nat) (f : CoreFrame) (id : Nat) : CxReq :=
  let mode := Prof.mode e
  let m := [2, 3, 0, 1].getD mode 0
  let input := Prof.upToTag e f (Prof.aadOff e)
  let n := if mode = 1 then 0 else (Prof.upToTag e f (Prof.encOff e)).length
  { id := 0
    queue := 4
    mode := m
    op := 1
    slot := Prof.slot e
    gen := 0
    mac := if 2 ≤ mode then some (Prof.macSlot e, 0) else none
    streaming := false
    noPad := false
    tagLen := Prof.tagLen e
    voidId := 0
    aadLen := input.length - n
    dataLen := n
    iv := sliceBytes f.data (Prof.base e f.result + Prof.ivOff e) 16
    tag := f.data.drop (Prof.tagAt e f)
    input := input
    src := 0
    dst := 0
    units := holdUnits true false m n
    verifies := true
    pipe := none
    released := 0
    waiter := .frame id e }

/-- A frame after a successful verification: the plaintext in place of the ciphertext, IV and tag removed where the profile
says so. -/
def Prof.result (e : Nat) (f : CoreFrame) (plain : Bytes) : Bytes :=
  let b := Prof.base e f.result
  let t := Prof.tagAt e f
  let iv := b + Prof.ivOff e
  let head := if Prof.mode e = 1 then f.data.take t else f.data.take (b + Prof.encOff e) ++ plain
  if Prof.strip e then head.take iv ++ head.drop (iv + (if Prof.mode e < 2 then 12 else 16))
  else head ++ f.data.drop t

/-- Frame `id` sent to the cipher engine under profile `p` (R329); discarded where its profile, its keys, the engine or the
packet queue does not take it. -/
def toCipher (s : State) (id : Nat) (f : CoreFrame) (p : Nat) : State :=
  let e := Tab.get s.cx.profiles p 0
  let mode := Prof.mode e
  let bad := keyCheck s (Prof.slot e) 2 ≠ stOk ∨ (2 ≤ mode ∧ keyCheck s (Prof.macSlot e) 2 ≠ stOk)
  if !Prof.fits e f then freeFrame (bump s Reg.CX_STAT_PROFILE_BAD.value) id
  else if bad ∨ rdB s Reg.CX_CTRL.en = false then freeFrame s id
  else if queueFullNow s 4 then freeFrame (queueFull s 4) id
  else enqueueReq s (Prof.request e f id)

/-- The end of a verification under profile entry `e`: the frame goes on with its plaintext, or is discarded (R330). -/
def fromCipher (s : State) (id e : Nat) (ok : Bool) (plain : Bytes) : State :=
  match frameAt s id with
  | none => s
  | some f =>
    if ok then
      continueFrame (modFrame (bump s Reg.CX_STAT_PROFILE_OK.value) id (fun f => f.withData (Prof.result e f plain))) id
    else freeFrame s id

/-! ### The decision (R283, R284) -/

/-- The final decision of frame `id` under action `a`. -/
def finalDecision (s : State) (id : Nat) (f : CoreFrame) (a : Nat) (errs : List MemErr) : State :=
  let s := if Act.mirror a then mirrorCopy s (Act.session a) f.input f.data f.stamp else s
  if Act.fwd a = 1 then freeFrame (bump s Reg.CL_STAT_DROP.value) id
  else
    match vlanOf (memErrors s errs) f errs with
    | (s, none) => freeFrame s id
    | (s, some vlan) =>
      match learnRequest s f vlan (lost errs 20) with
      | (s, true) => freeFrame s id
      | (s, false) =>
        match forwardTargets s f vlan errs with
        | (s, none, _) => freeFrame s id
        | (s, some ts, nh) =>
          let (s, f) := readStream s f
          let f := { f with
            targets := ts ++ (if Act.copyHost a then localTarget 16 else [])
            nextHop := nh
            untag := Vlan.untag vlan }
          let s := modFrame s id (fun _ => f)
          if Act.profile a = 0 then continueFrame s id else toCipher s id f (Act.profile a)

/-- CLASSIFICATION_DECISION (R260): the next frame of input `p`, once its pass and its reception have ended. -/
def decideInput (p : Nat) (errs : List MemErr) (s : State) : State :=
  match Tab.get s.pe.order p [] with
  | [] => s
  | id :: _ =>
    match frameAt s id with
    | none => s
    | some f =>
      if !s.pe.results.contains id || !f.received then s
      else
        let turn := f.turn.getD s.cl.current
        let win := consulted s turn f.key
        let a := chosenAction s turn win
        let s := bump (unorder s id) Reg.CL_STAT_DECIDE.value
        let s := match win with
          | some e =>
            let r := Rule.id e.rule
            modCl (bump s Reg.CL_STAT_HIT.value) (fun g => { g with
              hits := Tab.upd g.hits r 0 (fun n => min (n + 1) 0xFFFFFFFF) })
          | none => bump s Reg.CL_STAT_MISS.value
        let f := { f with
          action := a
          cls := if Act.clsEn a then Act.cls a else f.cls }
        if Act.fwd a = 3 then
          turnSync (sendRound (modFrame (bump s Reg.CL_STAT_ROUND.value) id (fun _ => f)) id (Act.strip a) (carried f.result))
        else
          let f := { f with
            turn := none
            bank := none }
          storeResults (turnSync (finalDecision (modFrame s id (fun _ => f)) id f a errs))

/-! ### Turns by command (R287–R290, R294) -/

/-- The number of the open turn. -/
def openNumber (s : State) : Nat := (s.cl.current + 1) % 65536

/-- CL_TURN_OPEN. -/
def opTurnOpen (p : Bytes) (s : State) : CmdAnswer :=
  if p.length ≠ 0 then fail s stBadLength
  else if s.cl.open_.isSome || s.cl.commit.isSome then fail s stBusy
  else
    okay (modCl s (fun g => { g with open_ := some ⟨[], [], missOf s s.cl.current⟩ }))
      (leBytes 2 (openNumber s) ++ zeros 2)

/-- CL_RULE_ADD (R287, R295). -/
def opRuleAdd (p : Bytes) (s : State) : CmdAnswer :=
  let id := Rule.id p
  let reply := fun (r : Nat) => leBytes 1 r ++ zeros 3
  if p.length ≠ 96 then fail s stBadLength
  else if s.cl.commit.isSome then fail s stBusy
  else
    match s.cl.open_ with
    | none => fail s stNotFound
    | some o =>
      if ruleReason s p ≠ 0 then (s, some (stBadParam, reply (ruleReason s p)))
      else
        let replaces := (liveRule s id).isSome && !o.dels.contains id
        if ((Tab.find o.adds id).isNone ∧ 8192 ≤ o.adds.length) ∨ (replaces ∧ 8192 ≤ o.dels.length) then fail s stNoSpace
        else
          let o := { o with
            adds := Tab.put o.adds id p
            dels := if replaces then o.dels ++ [id] else o.dels }
          okay (modCl s (fun g => { g with open_ := some o })) (reply 0)

/-- CL_RULE_DEL (R287). -/
def opRuleDel (p : Bytes) (s : State) : CmdAnswer :=
  let id := leAt p 0 2
  if p.length ≠ 4 then fail s stBadLength
  else if s.cl.commit.isSome then fail s stBusy
  else
    match s.cl.open_ with
    | none => fail s stNotFound
    | some o =>
      let stages := (liveRule s id).isSome && !o.dels.contains id
      if (liveRule s id).isNone ∧ (Tab.find o.adds id).isNone then fail s stNotFound
      else if stages ∧ 8192 ≤ o.dels.length then fail s stNoSpace
      else
        let o := { o with
          adds := Tab.del o.adds id
          dels := if stages then o.dels ++ [id] else o.dels }
        okay (modCl s (fun g => { g with open_ := some o })) []

/-- Free entries. -/
def freeEntries (s : State) : Nat := 8192 - s.cl.entries.length

/-- The lowest free entry from `k` on. -/
def freeEntryFrom (s : State) (k : Nat) : Nat := (firstFrom (fun i => (Tab.find s.cl.entries i).isNone) k (8192 - k)).getD k

/-- Staged adds placed in free entries, born in turn `n`. -/
def placeAdds (n : Nat) : Tab Bytes → Nat → State → State
  | [], _, s => s
  | (_, r) :: adds, k, s =>
    let i := freeEntryFrom s k
    placeAdds n adds (i + 1) (modCl s (fun g => { g with entries := Tab.put g.entries i ⟨r, n, false, none, false⟩ }))

/-- A staged deletion: the entry of rule `id` in C dies in turn `n`. -/
def placeDel (n : Nat) (s : State) (id : Nat) : State :=
  match liveRule s id with
  | none => s
  | some (i, e) => modCl s (fun g => { g with entries := Tab.put g.entries i { e with death := some n } })

/-- CL_TURN_COMMIT (R288). The reply of a commit that does not stall is sent at its instant. -/
def opTurnCommit (c : Call) (p : Bytes) (s : State) : CmdAnswer :=
  if p.length ≠ 0 then fail s stBadLength
  else if s.cl.commit.isSome then fail s stBusy
  else
    match s.cl.open_ with
    | none => fail s stNotFound
    | some o =>
      if freeEntries s < o.adds.length then
        fail (clEvent s 5 0xFFFF (leBytes 2 o.adds.length ++ leBytes 2 (freeEntries s))) stNoSpace
      else
        let n := openNumber s
        let s := placeAdds n o.adds 0 (o.dels.foldl (placeDel n) s)
        let stalls := decide (4 ≤ liveWindow s)
        let s := modCl s (fun g => { g with
          commit := some ⟨stalls, s.now, if stalls then none else some c, o.adds.length, o.dels.length⟩ })
        if stalls then
          let l := oldestTurn s
          fail (clEvent (bump s Reg.CL_STAT_STALL.value) 2 0xFFFF (leBytes 2 l ++ leBytes 2 (carriers s l))) stTurnStalled
        else (s, none)

/-- COMMIT_INSTANT (R288): nothing without an accepted commit that did not stall. -/
def commitInstantOp (s : State) : State :=
  match s.cl.commit with
  | some ⟨false, _, some c, _, _⟩ =>
    let s := commitNow s
    turnSync (sendReply s 0x1603 c stOk (leBytes 2 s.cl.current ++ zeros 2))
  | _ => s

/-- A frame carrying the oldest turn as the drain timer expires: discarded, or, where an engine holds it detached, released
from its turn (R289). -/
def drainFrame (s : State) (id : Nat) : State :=
  if s.pe.engines.any (fun g => g.2.detached && g.2.frame == some id) then
    modFrame s id (fun f => { f with turn := none })
  else freeFrame (unqueue s id) id

/-- DRAIN_TIMEOUT (R289). -/
def drainTimeoutOp (s : State) : State :=
  match s.cl.commit with
  | some k =>
    if k.stalled && decide (k.accepted + rd s Reg.CL_DRAIN_TO.ms * ms ≤ s.now) then
      let l := oldestTurn s
      let ids := (s.sw.frames.filter (fun f => f.2.turn == some l)).map Prod.fst
      let before := s.sw.frames.length
      let s := ids.foldl drainFrame s
      let n := before - s.sw.frames.length
      let s := bumpBy s Reg.CL_STAT_DRAIN_DROP.value n
      storeResults (turnSync (clEvent s 3 0xFFFF (leBytes 2 l ++ leBytes 4 n)))
    else s
  | none => s

/-- CL_TURN_ABORT (R287, R288). A commit that did not stall and awaits its instant is past aborting. -/
def opTurnAbort (p : Bytes) (s : State) : CmdAnswer :=
  let n := openNumber s
  let accepted := (s.cl.commit.map (fun k => !k.stalled)).getD false
  if p.length ≠ 0 then fail s stBadLength
  else if s.cl.open_.isNone || accepted then fail s stNotFound
  else
    let es := Tab.keep (fun _ (e : ClEntry) => e.settled || e.birth != n) s.cl.entries
    let es := Tab.mapAll (fun _ (e : ClEntry) => if e.death == some n then { e with death := none } else e) es
    okay (modCl s (fun g => { g with
      open_ := none
      commit := none
      entries := es })) []

/-- CL_RULE_READ (R294). -/
def opRuleRead (p : Bytes) (s : State) : CmdAnswer :=
  let id := leAt p 0 2
  let live := (liveRule s id).map (fun x => x.2.rule)
  let found := fun (r : Option Bytes) => match r with
    | some r => okay s r
    | none => fail s stNotFound
  if p.length ≠ 4 then fail s stBadLength
  else if 1 < byteAt p 2 then fail s stNotFound
  else if byteAt p 2 = 0 then found live
  else
    match s.cl.open_ with
    | none => fail s stNotFound
    | some o => found ((Tab.find o.adds id).orElse (fun _ => if o.dels.contains id then none else live))

/-- A write of `len` bits of the open turn's miss action from bit `lo`: a half of it, or the whole at one instant (R287, R296,
R381). -/
def missActStore (lo len data : Nat) (s : State) : State :=
  let ignored := bump s Reg.CL_STAT_RWT_IGN.value
  match s.cl.open_ with
  | none =>
    raiseInLimited ignored Reg.CL_INT_STATUS.event 0 8 4 0xFFFF 0 1
      (fun n => leBytes 2 (0x18 + lo / 8) ++ leBytes 4 n)
  | some o =>
    let a := setBits o.miss lo len data
    if s.cl.commit.isSome || actionReason s a != 0 then ignored
    else modCl s (fun g => { g with open_ := some { o with miss := a } })

/-- CL_MISS_ACT_WRITE (R287): one half of the open turn's miss action. -/
def missActWrite (high : Bool) (data : Nat) (s : State) : State := missActStore (if high then 32 else 0) 32 data s

/-- TERNARY_SCRUB (R292). -/
def scrub (i : Nat) (uncorrectable : Bool) (s : State) : State :=
  if !uncorrectable then lifeCount s Life.ecc 16
  else
    let s := bump (lifeCount s Life.ecc 17) Reg.CL_STAT_MEM_UNC.value
    match Tab.find s.cl.entries i with
    | none => clEvent s 6 i (zeros 2)
    | some e =>
      clEvent (modCl s (fun g => { g with entries := Tab.put g.entries i { e with broken := true } })) 6 i
        (leBytes 2 (Rule.id e.rule))

/-! ### The rows -/

/-- CLASSIFICATION_DECISION (R283). -/
def execClassificationDecision (t : Nat) (input : Fin 19) (errors : List MemErr) (s : State) :
    Host.Outcome State Fault Refusal :=
  running t s <|
  done (decideInput input errors (arrive t s))

/-- CL_TURN_OPEN (R287). -/
def execClTurnOpen (t : Nat) (c : Call) (p : Bytes) (s : State) : Host.Outcome State Fault Refusal :=
  commandRow t 0x1600 c p s (fun s => answer 0x1600 c (opTurnOpen p s))

/-- CL_RULE_ADD (R295). -/
def execClRuleAdd (t : Nat) (c : Call) (p : Bytes) (s : State) : Host.Outcome State Fault Refusal :=
  commandRow t 0x1601 c p s (fun s => answer 0x1601 c (opRuleAdd p s))

/-- CL_RULE_DEL (R287). -/
def execClRuleDel (t : Nat) (c : Call) (p : Bytes) (s : State) : Host.Outcome State Fault Refusal :=
  commandRow t 0x1602 c p s (fun s => answer 0x1602 c (opRuleDel p s))

/-- CL_TURN_COMMIT (R288). -/
def execClTurnCommit (t : Nat) (c : Call) (p : Bytes) (s : State) : Host.Outcome State Fault Refusal :=
  commandRow t 0x1603 c p s (fun s => answer 0x1603 c (opTurnCommit c p s))

/-- COMMIT_INSTANT (R288). -/
def execCommitInstant (t : Nat) (s : State) : Host.Outcome State Fault Refusal :=
  running t s <|
  done (commitInstantOp (arrive t s))

/-- DRAIN_TIMEOUT (R289). -/
def execDrainTimeout (t : Nat) (s : State) : Host.Outcome State Fault Refusal :=
  running t s <|
  done (drainTimeoutOp (arrive t s))

/-- CL_TURN_ABORT (R287). -/
def execClTurnAbort (t : Nat) (c : Call) (p : Bytes) (s : State) : Host.Outcome State Fault Refusal :=
  commandRow t 0x1604 c p s (fun s => answer 0x1604 c (opTurnAbort p s))

/-- CL_RULE_READ (R294). -/
def execClRuleRead (t : Nat) (c : Call) (p : Bytes) (s : State) : Host.Outcome State Fault Refusal :=
  commandRow t 0x1605 c p s (fun s => answer 0x1605 c (opRuleRead p s))

/-- CL_MISS_ACT_WRITE (R287). -/
def execClMissActWrite (t : Nat) (high : Bool) (data : BitVec 32) (s : State) : Host.Outcome State Fault Refusal :=
  running t s <|
  done (missActWrite high data.toNat (arrive t s))

/-- TERNARY_SCRUB (R292). -/
def execTernaryScrub (t : Nat) (entry : Fin 8192) (uncorrectable : Bool) (s : State) : Host.Outcome State Fault Refusal :=
  running t s <|
  done (scrub entry uncorrectable (arrive t s))

end Sys2Proof.Machine
end

