-- ==== Sys2Proof/Machine/Links.lean ====
section
/-! DEFINITION. The Tyeth links and what the devices tell each other over them (R344–R366): Sleeves, link states, link keys,
hellos and device records, the coordinator, IDs, routes and protection, and the frames that arrive. -/

namespace Sys2Proof.Machine

/-- The fabric state changed by `f`. -/
def modTf (s : State) (f : TfState → TfState) : State := { s with tf := f s.tf }

/-- Link `l`. -/
def tlAt (s : State) (l : Nat) : TfLink := Tab.get s.tf.links l TfLink.blank

/-- Link `l` changed. -/
def modTl (s : State) (l : Nat) (f : TfLink → TfLink) : State :=
  modTf s (fun g => { g with links := Tab.put g.links l (f (Tab.get g.links l TfLink.blank)) })

/-- A TF event (Table 14.12). -/
def tfEvent (s : State) (code inst : Nat) (data : Bytes) : State := raiseIn s Reg.TF_INT_STATUS.event 0 12 code inst data

/-- This device's UID. -/
def ownUid (s : State) : Nat := rd s Reg.TF_UID.uid

/-- The state of link `l`: 0 DOWN, 1 LISTEN, 2 TRAINING, 3 UP, 4 HELD. -/
def tlState (s : State) (l : Nat) : Nat := rd s Reg.TF_LINK_STATUS.state l

/-- Whether the Sleeve of pair `p` is open (R353, R354). -/
def pairOpen (s : State) (p : Nat) : Bool := rdB s (if p = 0 then Reg.TF_SLEEVE.open_a else Reg.TF_SLEEVE.open_b)

/-- Whether TF_SLEEVE forces pair `p` closed. -/
def pairForced (s : State) (p : Nat) : Bool := rdB s (if p = 0 then Reg.TF_SLEEVE.force_a else Reg.TF_SLEEVE.force_b)

/-- Counter `k` of link `l` in the life record: 0 down, 1 retrain, 2 protection, 3 Sleeve close. -/
def tyethCount (s : State) (l k : Nat) : State := lifeCount s Life.tyeth (4 * l + k)

/-! ### Hellos and device records (Table 14.6) -/

/-- The incarnation: the low 16 bits of power_ons. -/
def incarnation (s : State) : Nat := Tab.get s.lr.counts Life.powerOns 0 % 65536

/-- This device's hello on link `l`. -/
def ownHello (s : State) (l : Nat) : Hello where
  link := l
  coordCapable := rdB s Reg.TF_CTRL.coord_cap
  encCapable := true
  transitOnly := transitFull s
  compat := rd s Reg.TF_COMPAT.compat
  uid := ownUid s
  id := ownId s
  persisted := s.tf.persisted
  coord := rd s Reg.TF_STATUS.coord_id
  routeGen := rd s Reg.TF_STATUS.route_gen
  incarnation := incarnation s

/-- The 32 bytes of a hello. -/
def helloBytes (h : Hello) : Bytes :=
  leBytes 1 h.link ++ leBytes 1 (b2n h.coordCapable + 2 * b2n h.encCapable + 4 * b2n h.transitOnly) ++ leBytes 2 h.compat ++
    leBytes 12 h.uid ++ leBytes 1 h.id ++ leBytes 1 h.persisted ++ leBytes 1 h.coord ++ zeros 1 ++ leBytes 2 h.routeGen ++
    leBytes 2 h.incarnation ++ zeros 8

/-- This device's record. -/
def ownRecord (s : State) : DevRecord :=
  ⟨ownHello s 0, (List.range 4).map (fun l => if linkUp s l then (tlAt s l).neighbourUid else 0)⟩

/-- A link-local frame (R348). -/
def linkFrame (s : State) (typ : Nat) (payload : Bytes) : FabFrame :=
  { fabHeader s typ 7 0 payload with linkLocal := true }

/-- A flood frame this device originates. -/
def floodFrame (s : State) (typ : Nat) (payload : Bytes) : FabFrame :=
  { fabHeader s typ (rd s Reg.TF_CTRL.rra_class) 0 payload with flood := true }

/-- A frame put on every link of `ls` that is up. -/
def putOnLinks (s : State) (ls : List Nat) (f : FabFrame) : State :=
  ls.foldl (fun s l => if linkUp s l then putOnLink s l f else s) s

/-- This device's record sent over every link that is up, in the flood tree or not, since there is none before the first routes
(R357, assumption 110). -/
def sendRecordAll (s : State) : State :=
  let r := ownRecord s
  let s := modTf s (fun g => { g with told := some r })
  putOnLinks s [0, 1, 2, 3] (floodFrame s 2 (helloBytes r.hello ++ r.neighbours.flatMap (leBytes 12)))

/-- This device's record flooded where it is no longer what it last told (R357). -/
def tellRecord (s : State) : State := if s.tf.told = some (ownRecord s) then s else sendRecordAll s

/-! ### Reachability (R365) -/

/-- Destinations whose unreachability begins or ends as the links and routes change. -/
def syncReach (s : State) : State :=
  (List.range 64).foldl (fun s d =>
    if d = 0 ∨ bitSet (routeOf s d) 31 = false ∨ reachable s d = true then
      modTf s (fun g => { g with unreachableSince := Tab.del g.unreachableSince d })
    else if (Tab.find s.tf.unreachableSince d).isSome then s
    else modTf s (fun g => { g with unreachableSince := Tab.put g.unreachableSince d s.now })) s

/-! ### Link keys (R351) -/

/-- This end's key offer on link `l` for key index `k`, with a free nonce. The payload of a link-control frame is PRESUMED:
the spec names the nonce and the index alone (assumption 38). -/
def sendOffer (s : State) (l k : Nat) : State :=
  let n := freeBytes s 16
  let s := modTl (drawn s) l (fun x => { x with nonce := n })
  putOnLink s l (linkFrame s 1 (n ++ leBytes 1 k))

/-- A refused key (R351): the event; under enc_req the link is held. -/
def keyRefused (s : State) (l why : Nat) : State :=
  let s := tfEvent s 13 l (leBytes 1 why)
  if rdB s Reg.TF_CTRL.enc_req then wr s Reg.TF_LINK_STATUS.state 4 l else s

/-- Whether TF_KEY_SLOT names a usable link master key. -/
def linkKeyUsable (s : State) : Bool :=
  let n := rd s Reg.TF_KEY_SLOT.slot
  let k := keySlot s n
  decide (8 ≤ n) && k.state == 1 && k.cls == 1 && bitSet k.usage 1

/-- The 36 bytes of one direction's link key and salt. -/
def linkKey (s : State) (sender receiver : Nat) (nonceS nonceR : Bytes) (k : Nat) : Bytes :=
  bytesOf 36 (Config.kdf (keyOf s (rd s Reg.TF_KEY_SLOT.slot))
    ([0x54, 0x59, 0x4C, 0x4B] ++ leBytes 12 sender ++ leBytes 12 receiver ++ nonceS ++ nonceR ++ leBytes 1 k))

/-- LINK_KEY_OFFER: the peer's offer answered with this end's own where none is outstanding, and both keys put in force. -/
def keyOffer (l : Nat) (nonce : Bytes) (k : Nat) (refused : Bool) (s : State) : State :=
  if !rdB s Reg.TF_CTRL.enc_en || tlState s l < 2 || (tlAt s l).peerCompat / 256 != rd s Reg.TF_COMPAT.compat / 256 then s
  else if refused then keyRefused s l 2
  else if !linkKeyUsable s then keyRefused s l 0
  else
    let s := if (tlAt s l).nonce.isEmpty then sendOffer s l k else s
    let x := tlAt s l
    let peer := x.neighbourUid
    let s := modTl s l (fun x => { x with
      keyTx := linkKey s (ownUid s) peer x.nonce nonce k
      keyRx := linkKey s peer (ownUid s) nonce x.nonce k
      keyRxOld := x.keyRx
      keyIndex := k
      frames := 0
      nonce := []
      keyedAt := s.now })
    wr s Reg.TF_LINK_STATUS.encrypted 1 l

/-- A rekey of link `l` begun: an offer under the other index. -/
def rekey (s : State) (l : Nat) : State := sendOffer s l (1 - (tlAt s l).keyIndex)

/-- LINK_REKEY_TIMER. -/
def rekeyTimer (l : Nat) (s : State) : State :=
  let p := rd s Reg.TF_REKEY_S.s
  let x := tlAt s l
  if rdB s Reg.TF_LINK_STATUS.encrypted l && ((p != 0 && decide (x.keyedAt + p * sec ≤ s.now)) || decide (2 ^ 48 ≤ x.frames))
  then rekey s l else s

/-- TF_REKEY. -/
def opRekey (p : Bytes) (s : State) : CmdAnswer :=
  let l := byteAt p 0
  if p.length ≠ 4 then fail s stBadLength
  else if 3 < l || !rdB s Reg.TF_LINK_STATUS.encrypted l then fail s stNotFound
  else okay (rekey s l) []

/-! ### Links and Sleeves (R345, R346, R353, R354) -/

/-- TL_LINK_UP: a link in TRAINING, or held for want of keys, goes UP; with enc_req only under keys in force. -/
def tlUp (l : Nat) (s : State) : State :=
  let compatible := (tlAt s l).peerCompat / 256 == rd s Reg.TF_COMPAT.compat / 256
  let keyed := rdB s Reg.TF_LINK_STATUS.encrypted l || !rdB s Reg.TF_CTRL.enc_req
  if !rdB s Reg.TF_LINK_CTRL.en l || !pairOpen s (l / 2) || tlState s l == 3 || !compatible then s
  else if !keyed then wr s Reg.TF_LINK_STATUS.state 4 l
  else
    let s := wr s Reg.TF_LINK_STATUS.state 3 l
    let s := tfEvent s 1 l (leBytes 1 (rd s Reg.TF_LINK_STATUS.neighbour l) ++ leBytes 1 (rd s Reg.TF_LINK_STATUS.encrypted l))
    let s := modTf s (fun g => { g with
      lost := Tab.del g.lost l
      dbChanged := s.now })
    sendRecordAll (syncReach s)

/-- The state a link that is not UP is in. -/
def restState (s : State) (l : Nat) : Nat :=
  if !rdB s Reg.TF_LINK_CTRL.en l then 0 else if pairOpen s (l / 2) then 2 else 1

/-- The loss of link `l` for `cause` (R345, R346): nothing on a link that is not UP but its state. -/
def tlDown (l cause : Nat) (s : State) : State :=
  let s := if cause = 3 then wr s Reg.TF_LINK_CTRL.en 0 l else s
  let was := tlState s l
  let s := wr s Reg.TF_LINK_STATUS.state (restState s l) l
  if was ≠ 3 then s
  else
    let (s, _) := abortOutput s (12 + l)
    let (s, n) := flushOutput s (12 + l)
    let s := bumpBy s Reg.TF_STAT_FLUSH.value n
    let s := tyethCount s l 0
    let s := if rdB s Reg.TF_LINK_CTRL.en l then bump (tyethCount s l 1) Reg.TF_LINK_STATUS.retrains l else s
    let s := wr (wr s Reg.TF_LINK_STATUS.encrypted 0 l) Reg.TF_LINK_STATUS.neighbour 0 l
    let s := modTl s l (fun x => { TfLink.blank with lastHello := x.lastHello })
    let s := modTf s (fun g => { g with
      lost := Tab.put g.lost l s.now
      dbChanged := s.now })
    sendRecordAll (syncReach (tfEvent s 2 l (leBytes 1 cause ++ leBytes 4 n)))

/-- PROTECTION_APPLIED (R365). -/
def protect (l : Nat) (s : State) : State :=
  if (Tab.find s.tf.lost l).isNone then s
  else
    let moved := (s.tf.routes.filter (fun r => bitSet r.2 31 && bitsOf r.2 0 3 == l && bitsOf r.2 3 3 != 7)).length
    let s := modTf s (fun g => { g with
      lost := Tab.del g.lost l
      protected_ := g.protected_.filter (fun x => x != l) ++ [l] })
    let s := tyethCount (bump s Reg.TF_STAT_PROT.value) l 2
    syncReach (tfEvent s 5 l (leBytes 1 moved))

/-- SLEEVE_CLOSE: a pair that is open closes, and its links listen (R353). -/
def sleeveCloseOp (p cause : Nat) (s : State) : State :=
  if !pairOpen s p then s
  else
    let s := wr s (if p = 0 then Reg.TF_SLEEVE.open_a else Reg.TF_SLEEVE.open_b) 0
    let s := tyethCount (tyethCount s (2 * p) 3) (2 * p + 1) 3
    let s := tfEvent s 4 p (leBytes 1 cause)
    tlDown (2 * p + 1) 0 (tlDown (2 * p) 0 s)

/-- SLEEVE_OPEN (R354). -/
def sleeveOpenOp (p : Nat) (s : State) : State :=
  if pairOpen s p || pairForced s p || !rdB s Reg.TF_CTRL.en then s
  else
    let s := wr s (if p = 0 then Reg.TF_SLEEVE.open_a else Reg.TF_SLEEVE.open_b) 1
    let train := fun (s : State) (l : Nat) => wr s Reg.TF_LINK_STATUS.state (restState s l) l
    tfEvent (train (train s (2 * p)) (2 * p + 1)) 3 p []

/-- HELLO_TIMER: a hello on a link that is trained (R357, R362). -/
def helloSend (l : Nat) (s : State) : State :=
  if 2 ≤ tlState s l then putOnLink s l (linkFrame s 0 (helloBytes (ownHello s l))) else s

/-- HELLO_RECEIVED (R357, R362). -/
def helloHeard (l : Nat) (h : Hello) (s : State) : State :=
  if tlState s l < 2 then s
  else
    let fresh := (tlAt s l).neighbourUid != h.uid
    let s := modTl s l (fun x => { x with
      lastHello := s.now
      neighbourUid := h.uid
      peerCompat := h.compat })
    let s := wr s Reg.TF_LINK_STATUS.neighbour h.id l
    if h.compat / 256 ≠ rd s Reg.TF_COMPAT.compat / 256 then
      if tlState s l = 4 then s
      else tfEvent (wr s Reg.TF_LINK_STATUS.state 4 l) 12 l (leBytes 2 h.compat ++ leBytes 12 h.uid)
    else
      let wants := rdB s Reg.TF_CTRL.enc_en && !rdB s Reg.TF_LINK_STATUS.encrypted l && (tlAt s l).nonce.isEmpty
      let s := if wants then (if linkKeyUsable s then sendOffer s l 0 else if fresh then keyRefused s l 0 else s) else s
      if fresh && linkUp s l then sendRecordAll s else s

/-! ### The database and its graph (R357, R363) -/

/-- DEVICE_RECORD_RECEIVED. -/
def recordHeard (r : DevRecord) (s : State) : State :=
  if r.hello.uid = ownUid s then s
  else
    let same := ((Tab.find s.tf.db r.hello.uid).map (fun e => e.record == r)).getD false
    modTf s (fun g => { g with
      db := Tab.put g.db r.hello.uid ⟨r, s.now⟩
      dbChanged := if same then g.dbChanged else s.now })

/-- DEVICE_RECORD_EXPIRED. -/
def recordExpired (uid : Nat) (s : State) : State :=
  match Tab.find s.tf.db uid with
  | none => s
  | some e =>
    if e.refreshed + 300 * ms ≤ s.now then
      modTf s (fun g => { g with
        db := Tab.del g.db uid
        dbChanged := s.now })
    else s

/-- The records of every device present, this one's included, by rising UID. -/
def present (s : State) : List DevRecord :=
  (Tab.put (Tab.mapAll (fun _ (e : DbEntry) => e.record) s.tf.db) (ownUid s) (ownRecord s)).map Prod.snd

/-- The record of a UID. -/
def recordOf (rs : List DevRecord) (uid : Nat) : Option DevRecord := rs.find? (fun r => r.hello.uid == uid)

/-- The links of device `a` and the neighbours they lead to, on the links `ok` names: both ends tell of the edge. -/
def edges (rs : List DevRecord) (ok : Nat → Bool) (a : Nat) : List (Nat × Nat) :=
  match recordOf rs a with
  | none => []
  | some r =>
    (r.neighbours.zipIdx).filterMap (fun x =>
      let back := ((recordOf rs x.1).map (fun q => q.neighbours.contains a)).getD false
      if x.1 ≠ 0 ∧ ok x.2 = true ∧ back = true then some (x.2, x.1) else none)

/-- One round of a breadth-first search: the distances so far with those one step further. -/
def spread (rs : List DevRecord) (ok : Nat → Bool) (avoid d : Nat) (ds : Tab Nat) : Tab Nat :=
  ((ds.filter (fun x => x.2 == d)).flatMap (fun x => (edges rs ok x.1).map Prod.snd)).foldl
    (fun ds u => if u = avoid ∨ (Tab.find ds u).isSome = true then ds else Tab.put ds u (d + 1)) ds

/-- Distances in hops to `dst`, on paths that do not pass through `avoid`. -/
def distances (rs : List DevRecord) (ok : Nat → Bool) (avoid dst : Nat) : Tab Nat :=
  (List.range rs.length).foldl (fun ds d => spread rs ok avoid d ds) [(dst, 0)]

/-- The links of device `a` that lead to `dst`, with the hops each takes. -/
def ways (rs : List DevRecord) (ok : Nat → Bool) (a dst : Nat) : List (Nat × Nat) :=
  let ds := distances rs ok a dst
  (edges rs ok a).filterMap (fun e => (Tab.find ds e.2).map (fun d => (e.1, d + 1)))

/-- The way with fewest hops, the lowest link among equals. -/
def bestWay (ws : List (Nat × Nat)) : Option (Nat × Nat) := leastBy (fun w => 8 * w.2 + w.1) ws

/-- Every link. -/
def anyLink : Nat → Bool := fun _ => true

/-- The links of pair `p`. -/
def pairLink (p : Nat) : Nat → Bool := fun l => l / 2 == p

/-- Whether the links of pair `p` close a ring through every device. -/
def closesRing (rs : List DevRecord) (p : Nat) : Bool :=
  rs.all (fun r => (edges rs (pairLink p) r.hello.uid).length == 2) &&
    (match rs.head? with
     | some r => (distances rs (pairLink p) 0 r.hello.uid).length == rs.length
     | none => false)

/-- The topology the coordinator names: 0 dual ring, 1 ring, 2 line, 3 mesh (R352). -/
def topologyOf (rs : List DevRecord) : Nat :=
  let degree := fun (r : DevRecord) => (edges rs anyLink r.hello.uid).length
  if closesRing rs 0 && closesRing rs 1 then 0
  else if rs.all (fun r => degree r == 2) then 1
  else if rs.all (fun r => decide (degree r ≤ 2)) then 2
  else 3

/-- The route entry of device `a` to `dst` (R363, Table 14.8). -/
def routeEntryFor (rs : List DevRecord) (dualRing : Bool) (a dst : Nat) : Nat :=
  let ws := ways rs anyLink a dst
  match bestWay ws with
  | none => 0
  | some (l, h) =>
    let (al, ah) := (bestWay (ws.filter (fun w => w.1 != l))).getD (7, 0)
    let (dl, dh) := if dualRing then (bestWay (ways rs (pairLink (1 - l / 2)) a dst)).getD (7, 0) else (7, 0)
    l + 8 * al + 64 * dl + 512 * h + 65536 * ah + 2 ^ 31 + 2 ^ 32 * dh

/-- The flood mask of device `a` in the tree rooted at `root` (R364). -/
def floodMaskOf (rs : List DevRecord) (root a : Nat) : Nat :=
  let parent := fun (v : Nat) => if v = root then none
    else (bestWay (ways rs anyLink v root)).bind (fun w => (edges rs anyLink v).find? (fun e => e.1 == w.1))
  let up := match parent a with
    | some e => [e.1]
    | none => []
  let down := (edges rs anyLink a).filterMap (fun e =>
    if ((parent e.2).map (fun q => q.2 == a)).getD false then some e.1 else none)
  (up ++ down.eraseDups).foldl orBit 0

/-! ### IDs and routes (R358–R363) -/

/-- A control message (type 3) to the device of a UID, by the graph's shortest way. -/
def controlTo (s : State) (uid id : Nat) (payload : Bytes) : State :=
  match bestWay (ways (present s) anyLink (ownUid s) uid) with
  | none => s
  | some (l, _) =>
    if linkUp s l then putOnLink s l (fabHeader s 3 (rd s Reg.TF_CTRL.rra_class) id payload) else s

/-- An acknowledgement to the coordinator (Table 14.7). -/
def acknowledgeTo (s : State) (code gen st : Nat) : State :=
  match s.tf.coordUid with
  | some u => if u = ownUid s then s
    else controlTo s u (rd s Reg.TF_STATUS.coord_id) (leBytes 1 4 ++ leBytes 1 code ++ leBytes 2 gen ++ leBytes 2 st)
  | none => s

/-- The device's own ports and engines stopped as it enters TRANSIT_FULL (R361). -/
def enterTransitFull (s : State) : State :=
  let s := tfEvent (wr s Reg.TF_STATUS.state 3) 8 0xFFFF (leBytes 12 (ownUid s))
  let s := (List.range 64).foldl (fun s n => (modeWrite s n 0).1) s
  tellRecord ((List.range 12).foldl (fun s p => wr (ethDown s p 3 (Config.portBusy p s.now)) Reg.ETH_STATUS.en_eff 0 p) s)

/-- An ID assignment applied to this device (R360, R361). -/
def takeId (s : State) (id st : Nat) : State :=
  if transitFull s || !rdB s Reg.TF_CTRL.en then s
  else if id = 0 then (if st = stFabricFull then enterTransitFull s else s)
  else if ownId s = id ∧ rd s Reg.TF_STATUS.state = 2 then s
  else
    let before := s.tf.persisted
    let s := recordWritten (modTf s (fun g => { g with persisted := id })) 2
    let s := wr (wr s Reg.TF_STATUS.device_id id) Reg.TF_STATUS.state 2
    sendRecordAll (tfEvent s 7 0xFFFF (leBytes 1 id ++ leBytes 1 before))

/-- ID_ASSIGN. -/
def idAssigned (uid id st : Nat) (s : State) : State :=
  if uid ≠ ownUid s then s else acknowledgeTo (takeId s id st) 1 (rd s Reg.TF_STATUS.route_gen) 0

/-- The generation staged put in force at one instant (R363). -/
def applyRoutes (s : State) (x : StagedRoutes) : State :=
  let s := modTf s (fun g => { g with
    routes := x.entries
    idTable := if rdB s Reg.TF_CTRL.coord_cap then x.uids else g.idTable
    staged := none
    protected_ := [] })
  let s := wr (wr s Reg.TF_STATUS.route_gen x.generation) Reg.TF_FLOOD.mask x.flood
  let n := ((List.range 64).filter (fun d => d != 0 && d != ownId s && reachable s d)).length
  tellRecord (syncReach (tfEvent s 9 0xFFFF (leBytes 2 x.generation ++ leBytes 1 n)))

/-- ROUTE_UPDATE: staged and acknowledged. -/
def routesHeard (gen flood : Nat) (entries uids : List Nat) (s : State) : State :=
  let tab := fun (l : List Nat) => ((l.zipIdx).filter (fun x => x.1 != 0 && decide (x.2 < 63))).map (fun x => (x.2 + 1, x.1))
  acknowledgeTo (modTf s (fun g => { g with staged := some ⟨gen % 65536, flood, tab entries, tab uids⟩ })) 2 (gen % 65536) 0

/-- ROUTE_ACTIVATE: the staged generation, where it is that one. -/
def routesActivated (gen : Nat) (s : State) : State :=
  match s.tf.staged with
  | some x => if x.generation = gen % 65536 then acknowledgeTo (applyRoutes s x) 3 x.generation 0 else s
  | none => s

/-- The ID a device claims: the one it holds, else the one it has persisted. -/
def claimOf (r : DevRecord) : Nat := if r.hello.id ≠ 0 then r.hello.id else r.hello.persisted

/-- The device that keeps an ID claimed by several: the one the table maps it to, else the lowest UID (R359). -/
def claimHolder (table : Tab Nat) (rs : List DevRecord) (id : Nat) : Option Nat :=
  let us := (rs.filter (fun r => claimOf r == id)).map (fun r => r.hello.uid)
  match Tab.find table id with
  | some u => if us.contains u then some u else us.head?
  | none => us.head?

/-- The IDs the coordinator assigns, by UID, 0 for FABRIC_FULL (R359). -/
def assignIds (table : Tab Nat) (rs : List DevRecord) : Tab Nat :=
  let kept := rs.filter (fun r => claimOf r != 0 && claimHolder table rs (claimOf r) == some r.hello.uid)
  let absent := (table.filter (fun x => (recordOf rs x.2).isNone)).map Prod.fst
  let start : Tab Nat × List Nat :=
    (kept.foldl (fun t r => Tab.put t r.hello.uid (claimOf r)) [], kept.map claimOf ++ absent)
  ((rs.filter (fun r => (kept.find? (fun k => k.hello.uid == r.hello.uid)).isNone)).foldl (fun x r =>
    match firstFrom (fun i => !x.2.contains i) 1 63 with
    | some i => (Tab.put x.1 r.hello.uid i, x.2 ++ [i])
    | none => (Tab.put x.1 r.hello.uid 0, x.2)) start).1

/-- The losing claims of R359 reported. -/
def reportConflicts (table : Tab Nat) (rs : List DevRecord) (s : State) : State :=
  rs.foldl (fun s r =>
    let id := claimOf r
    match claimHolder table rs id with
    | some u => if id = 0 ∨ u = r.hello.uid then s else tfEvent s 14 0xFFFF (leBytes 1 id ++ leBytes 12 u)
    | none => s) s

/-- The route update message for the device of a UID. -/
def routeUpdateBytes (x : StagedRoutes) : Bytes :=
  leBytes 1 2 ++ leBytes 2 x.generation ++ leBytes 1 x.flood ++ zeros 1 ++
    ((List.range 63).flatMap (fun k => leBytes 8 (Tab.get x.entries (k + 1) 0))) ++
    ((List.range 63).flatMap (fun k => leBytes 12 (Tab.get x.uids (k + 1) 0)))

/-- The routes of the device of UID `a` (R363, R364). -/
def routesFor (rs : List DevRecord) (ids : Tab Nat) (uids : Tab Nat) (gen root a : Nat) : StagedRoutes :=
  let dual := topologyOf rs == 0
  let entries := ids.filterMap (fun x =>
    if x.2 = 0 ∨ x.1 = a then none
    else
      let e := routeEntryFor rs dual a x.1
      if e = 0 then none else some (x.2, e))
  ⟨gen, floodMaskOf rs root a, entries.foldl (fun t x => Tab.put t x.1 x.2) [], uids⟩

/-- The coordinator's activation of a generation every member has acknowledged. -/
def activateAll (s : State) (gen : Nat) : State :=
  let s := s.tf.assigned.foldl (fun s x =>
    if x.1 = ownUid s ∨ x.2 = 0 then s else controlTo s x.1 x.2 (leBytes 1 3 ++ leBytes 2 gen)) s
  match s.tf.staged with
  | some x => applyRoutes s x
  | none => s

/-- The graph of the records present: each device and the neighbours it tells of. -/
def graphOf (rs : List DevRecord) : List (Nat × List Nat) := rs.map (fun r => (r.hello.uid, r.neighbours))

/-- What the coordinator does once an election has settled: IDs, then routes (R359, R363). -/
def coordinate (s : State) : State :=
  let rs := present s
  let s := reportConflicts s.tf.idTable rs s
  let ids := assignIds s.tf.idTable rs
  let uids := ids.foldl (fun t x => if x.2 = 0 then t else Tab.put t x.2 x.1)
    (Tab.keep (fun i u => (Tab.get ids u i) == i) s.tf.idTable)
  let gen := (rd s Reg.TF_STATUS.route_gen + 1) % 65536
  let s := modTf s (fun g => { g with
    assigned := ids
    graph := graphOf rs
    idTable := uids
    topology := topologyOf rs })
  let s := ids.foldl (fun s x =>
    let st := if x.2 = 0 then stFabricFull else stOk
    if x.1 = ownUid s then takeId s x.2 st
    else if ((recordOf rs x.1).map (fun r => r.hello.id == x.2 && x.2 != 0)).getD false then s
    else controlTo s x.1 x.2 (leBytes 1 1 ++ leBytes 12 x.1 ++ leBytes 1 x.2 ++ leBytes 2 st)) s
  let s := modTf s (fun g => { g with
    staged := some (routesFor rs ids uids gen (ownUid s) (ownUid s))
    ackWait := (ids.filter (fun x => x.1 != ownUid s && x.2 != 0)).map Prod.snd })
  let s := ids.foldl (fun s x =>
    if x.1 = ownUid s ∨ x.2 = 0 then s
    else controlTo s x.1 x.2 (routeUpdateBytes (routesFor rs ids uids gen (ownUid s) x.1))) s
  if s.tf.ackWait.isEmpty then activateAll s gen else s

/-- ELECTION_SETTLED (R358, R362). A coordinator that finds the devices and the graph as they were computes no new generation
(assumption 110). -/
def electionSettledOp (s : State) : State :=
  if !rdB s Reg.TF_CTRL.en || transitFull s || decide (s.now < s.tf.dbChanged + 10 * ms) then s
  else
    match (present s).find? (fun r => r.hello.coordCapable) with
    | none =>
      let s := modTf s (fun g => { g with coordUid := none })
      let s := wr (wr s Reg.TF_STATUS.coordinator 0) Reg.TF_STATUS.coord_id 0
      if rd s Reg.TF_STATUS.state = 4 then s else tfEvent (wr s Reg.TF_STATUS.state 4) 15 0xFFFF []
    | some r =>
      let u := r.hello.uid
      let id := Tab.get (assignIds s.tf.idTable (present s)) u r.hello.id
      let s := if rd s Reg.TF_STATUS.state = 4 then wr s Reg.TF_STATUS.state (if ownId s = 0 then 1 else 2) else s
      let fresh := s.tf.coordUid != some u
      let s := modTf s (fun g => { g with coordUid := some u })
      let s := wr (wr s Reg.TF_STATUS.coordinator (b2n (u == ownUid s))) Reg.TF_STATUS.coord_id id
      let s := if fresh then tfEvent s 6 0xFFFF (leBytes 1 id ++ leBytes 12 u) else s
      let same := decide (s.tf.graph = graphOf (present s)) && decide (s.tf.assigned = assignIds s.tf.idTable (present s))
      tellRecord (if u ≠ ownUid s then s else if same && !fresh then s else coordinate s)

/-- ACKNOWLEDGE: the coordinator activates once the last member has acknowledged its routes. -/
def acknowledged (device code gen st : Nat) (s : State) : State :=
  match s.tf.staged with
  | none => s
  | some x =>
    if !rdB s Reg.TF_STATUS.coordinator || code != 2 || gen != x.generation || st != 0 || !s.tf.ackWait.contains device then s
    else
      let s := modTf s (fun g => { g with ackWait := g.ackWait.filter (fun d => d != device) })
      if s.tf.ackWait.isEmpty then activateAll s gen else s

/-! ### Frames that arrive (R347, R348, R351, R364, R366) -/

/-- A frame sent on towards its destination (R348, R365, R366): a dual copy keeps to its ring. -/
def transit (s : State) (l : Nat) (f : FabFrame) : State :=
  let e := routeOf s f.dst
  let prim := bitsOf e 0 3
  let dual := bitsOf e 6 3
  let protd := fun (k : Nat) => s.tf.protected_.contains k
  let next := if f.dual && dual < 4 && dual / 2 == l / 2 && prim / 2 != l / 2 then dual
    else if protd prim then bitsOf e 3 3 else prim
  let alive := (linkUp s prim && !protd prim) || linkUp s (bitsOf e 3 3)
  if !bitSet e 31 || !alive then bump s Reg.TF_STAT_NO_ROUTE.value
  else if linkUp s next && !(next == dual && protd dual) then
    putOnLink (bump s Reg.TF_STAT_TRANSIT.value) next { f with hops := f.hops - 1 }
  else bump s Reg.TF_STAT_FLUSH.value

/-- A forwarded frame (type 4) entering the switch core for its delivery here (R241, R364). -/
def enterFromFabric (s : State) (l : Nat) (f : FabFrame) : State :=
  let p := 12 + l
  let s := mirrorRx s p f.payload (dtNow s)
  let x := { CoreFrame.entering f.payload (fcsOf f.payload) p f.cls with
    stamp := dtNow s
    start := s.now
    vid := f.vid
    pcp := f.pcp
    dei := f.dei
    device := f.src
    orgPort := f.orgPort
    given := some ⟨f.dstPort, 0, 31, f.flood, none⟩ }
  match enterFrame s x with
  | (s, some id) => pushArrived s p id
  | (s, none) => s

/-- Whether a dual copy is a second one (R366), and the source's record afterwards. -/
def dualCheck (s : State) (f : FabFrame) : State × Bool :=
  let r := Tab.get s.tf.dualSeen f.src ⟨true, 0, 0, none⟩
  let r := if (r.timer.map (fun t => decide (t + 100 * ms ≤ s.now))).getD false then { r with takeAny := true } else r
  match vectorRecover 32 r f.seq s.now with
  | .pass r' _ _ => (modTf s (fun g => { g with dualSeen := Tab.put g.dualSeen f.src r' }), true)
  | _ => (bump s Reg.TF_STAT_DUAL_ELIM.value, false)

/-- A frame from link `l` that its tag, where it has one, has let in (R348, R364). The content of types 0–3 and 5–10 for this
device is taken by rows of its own. -/
def admitFabric (s : State) (l : Nat) (f : FabFrame) : State :=
  let mine := !f.flood && f.dst == ownId s && ownId s != 0
  if f.hops = 0 then bump s Reg.TF_STAT_HOPS.value
  else if f.flood then
    let s := if f.typ = 4 then enterFromFabric s l f else s
    let ls := (List.range 4).filter (fun k => k != l && bitSet (rd s Reg.TF_FLOOD.mask) k)
    putOnLinks s ls { f with hops := f.hops - 1 }
  else if !mine then transit s l f
  else if f.typ = 4 then
    if f.dual && s.tf.topology == 0 then
      match dualCheck s f with
      | (s, true) => enterFromFabric s l f
      | (s, false) => s
    else enterFromFabric s l f
  else s

/-- The decryption of a frame from link `l` (R325, R333), under the key its header's index names: the header is the additional
data. -/
def linkRequest (s : State) (l : Nat) (f : FabFrame) (counter : Nat) (tag : Bytes) : CxReq :=
  let x := tlAt s l
  let key := if f.keyIx = x.keyIndex then x.keyRx else x.keyRxOld
  { id := 0
    queue := 3
    mode := 2
    op := 1
    slot := 512
    gen := 0
    mac := none
    streaming := false
    noPad := false
    tagLen := 16
    voidId := 0
    aadLen := 16
    dataLen := f.payload.length
    iv := linkIv key counter
    tag := tag
    input := headerBytes f ++ f.payload
    src := 0
    dst := 0
    units := ceilDiv f.payload.length 256
    verifies := true
    pipe := none
    released := 0
    waiter := .link l f key }

/-- The end of a link frame's verification (R333, R351): the first frame that verifies under the new key ends the old one; a
frame that fails is discarded and counted, and the link stays up. -/
def linkVerified (s : State) (l : Nat) (f : FabFrame) (ok : Bool) (plain : Bytes) : State :=
  if !ok then bump s Reg.TF_STAT_ENC_FAIL.value
  else
    let s := if f.keyIx = (tlAt s l).keyIndex then modTl s l (fun x => { x with keyRxOld := [] }) else s
    admitFabric s l { f with payload := plain }

/-- A frame that link `l` encrypts: sent to the cipher engine, and discarded where that does not take it, is full, or holds no
key for it (R315, R333). -/
def decryptFabric (s : State) (l : Nat) (f : FabFrame) (counter : Nat) (tag : Bytes) : State :=
  let x := tlAt s l
  let key := if f.keyIx = x.keyIndex then x.keyRx else x.keyRxOld
  if !cipherOn s then s
  else if key.isEmpty then bump s Reg.TF_STAT_ENC_FAIL.value
  else if queueFullNow s 3 then queueFull s 3
  else enqueueReq s (linkRequest s l f counter tag)

/-- FABRIC_FRAME_RECEIVED: `counter` is the frame counter the sender used, which the header does not carry (assumption 107). -/
def fabricFrame (l : Nat) (f : FabFrame) (crcOk : Bool) (counter : Nat) (tag : Bytes) (s : State) : State :=
  let local_ := f.typ == 0 || f.typ == 1 || f.typ == 6
  let st := rd s Reg.TF_STATUS.state
  if tlState s l < 2 then s
  else
    let s := bump s Reg.TF_STAT_RX.value
    if !crcOk || decide (10 < f.typ) then bump s Reg.TF_STAT_BAD.value
    else if local_ then s
    else if !linkUp s l || st == 0 || st == 4 then s
    else if encrypts s l f.typ then decryptFabric s l f counter tag
    else admitFabric s l f

/-! ### Commands (Table 14.13) -/

/-- TF_TOPO_READ. -/
def opTopoRead (p : Bytes) (s : State) : CmdAnswer :=
  let first := byteAt p 0
  let n := byteAt p 1
  let rs := present s
  let one := fun (id : Nat) =>
    let r := if id = ownId s then recordOf rs (ownUid s) else rs.find? (fun r => r.hello.id == id)
    let tabled := Tab.get s.tf.idTable id 0
    let uid := ((r.map (fun r => r.hello.uid)).getD tabled)
    let e := routeOf s id
    let flags := b2n r.isSome + 2 * b2n ((r.map (fun r => r.hello.coordCapable)).getD false) +
      4 * b2n (r.isNone && tabled != 0)
    leBytes 12 uid ++ leBytes 1 flags ++ leBytes 1 (if bitSet e 31 then bitsOf e 0 3 else 7) ++
      leBytes 1 (if bitSet e 31 then bitsOf e 3 3 else 7) ++ leBytes 1 (bitsOf e 9 7) ++ zeros 4
  if p.length ≠ 4 then fail s stBadLength
  else if first = 0 || n = 0 || 16 < n || 64 < first + n || !zeroAt p 2 2 then fail s stBadParam
  else okay s (leBytes 2 (rd s Reg.TF_STATUS.route_gen) ++ leBytes 1 (rd s Reg.TF_STATUS.coord_id) ++ zeros 1 ++
    (List.range n).flatMap (fun k => one (first + k)))

/-- TF_ID_RELEASE. -/
def opIdRelease (p : Bytes) (s : State) : CmdAnswer :=
  let uid := leAt p 0 12
  if p.length ≠ 16 then fail s stBadLength
  else if !rdB s Reg.TF_STATUS.coordinator then fail s stDenied
  else if (recordOf (present s) uid).isSome then fail s stBusy
  else
    match s.tf.idTable.find? (fun x => x.2 == uid) with
    | none => fail s stNotFound
    | some x => okay (modTf s (fun g => { g with idTable := Tab.del g.idTable x.1 })) []

/-- TF_ROUTE_READ. -/
def opRouteRead (p : Bytes) (s : State) : CmdAnswer :=
  let first := byteAt p 0
  let n := byteAt p 1
  if p.length ≠ 4 then fail s stBadLength
  else if first = 0 || n = 0 || 63 < n || 64 < first + n || !zeroAt p 2 2 then fail s stBadParam
  else okay s ((List.range n).flatMap (fun k => leBytes 8 (routeOf s (first + k))))

/-! ### The rows -/

/-- TL_LINK_UP (R345). -/
def execTlLinkUp (t : Nat) (link : Fin 4) (s : State) : Host.Outcome State Fault Refusal :=
  running t s <|
  done (tlUp link (arrive t s))

/-- TL_LINK_DOWN (R345). -/
def execTlLinkDown (t : Nat) (link : Fin 4) (cause : Fin 4) (s : State) : Host.Outcome State Fault Refusal :=
  running t s <|
  done (tlDown link cause (arrive t s))

/-- PROTECTION_APPLIED (R365). -/
def execProtectionApplied (t : Nat) (link : Fin 4) (s : State) : Host.Outcome State Fault Refusal :=
  running t s <|
  done (protect link (arrive t s))

/-- FABRIC_FRAME_RECEIVED (R348). -/
def execFabricFrameReceived (t : Nat) (link : Fin 4) (f : FabFrame) (crcOk : Bool) (mac : LinkSeal) (s : State) :
    Host.Outcome State Fault Refusal :=
  receiving t s <|
  done (fabricFrame link f crcOk mac.counter mac.tag (arrive t s))

/-- HELLO_TIMER (R357). -/
def execHelloTimer (t : Nat) (link : Fin 4) (s : State) : Host.Outcome State Fault Refusal :=
  running t s <|
  done (helloSend link (arrive t s))

/-- HELLO_RECEIVED (R357). -/
def execHelloReceived (t : Nat) (link : Fin 4) (h : Hello) (s : State) : Host.Outcome State Fault Refusal :=
  running t s <|
  done (helloHeard link h (arrive t s))

/-- DEVICE_RECORD_TIMER (R357). -/
def execDeviceRecordTimer (t : Nat) (s : State) : Host.Outcome State Fault Refusal :=
  running t s <|
  done (sendRecordAll (arrive t s))

/-- DEVICE_RECORD_RECEIVED (R357). -/
def execDeviceRecordReceived (t : Nat) (r : DevRecord) (s : State) : Host.Outcome State Fault Refusal :=
  running t s <|
  done (recordHeard r (arrive t s))

/-- DEVICE_RECORD_EXPIRED (R357). -/
def execDeviceRecordExpired (t : Nat) (uid : Nat) (s : State) : Host.Outcome State Fault Refusal :=
  running t s <|
  done (recordExpired uid (arrive t s))

/-- ELECTION_SETTLED (R358). -/
def execElectionSettled (t : Nat) (s : State) : Host.Outcome State Fault Refusal :=
  running t s <|
  done (electionSettledOp (arrive t s))

/-- ID_ASSIGN (R360). -/
def execIdAssign (t : Nat) (uid : Nat) (id : Fin 64) (status : Nat) (s : State) : Host.Outcome State Fault Refusal :=
  running t s <|
  done (idAssigned uid id status (arrive t s))

/-- ROUTE_UPDATE (R363). -/
def execRouteUpdate (t : Nat) (generation : Nat) (flood : Fin 16) (entries uids : List Nat) (s : State) :
    Host.Outcome State Fault Refusal :=
  running t s <|
  done (routesHeard generation flood entries uids (arrive t s))

/-- ROUTE_ACTIVATE (R363). -/
def execRouteActivate (t : Nat) (generation : Nat) (s : State) : Host.Outcome State Fault Refusal :=
  running t s <|
  done (routesActivated generation (arrive t s))

/-- ACKNOWLEDGE (R363). -/
def execAcknowledge (t : Nat) (device : Fin 64) (code generation status : Nat) (s : State) :
    Host.Outcome State Fault Refusal :=
  running t s <|
  done (acknowledged device code generation status (arrive t s))

/-- SLEEVE_CLOSE (R353). -/
def execSleeveClose (t : Nat) (pair : Fin 2) (cause : Fin 3) (s : State) : Host.Outcome State Fault Refusal :=
  running t s <|
  done (sleeveCloseOp pair cause (arrive t s))

/-- SLEEVE_OPEN (R354). -/
def execSleeveOpen (t : Nat) (pair : Fin 2) (s : State) : Host.Outcome State Fault Refusal :=
  running t s <|
  done (sleeveOpenOp pair (arrive t s))

/-- LINK_KEY_OFFER (R351). -/
def execLinkKeyOffer (t : Nat) (link : Fin 4) (nonce : Bytes) (index : Fin 2) (refused : Bool) (s : State) :
    Host.Outcome State Fault Refusal :=
  running t s <|
  done (keyOffer link nonce index refused (arrive t s))

/-- LINK_REKEY_TIMER (R351). -/
def execLinkRekeyTimer (t : Nat) (link : Fin 4) (s : State) : Host.Outcome State Fault Refusal :=
  running t s <|
  done (rekeyTimer link (arrive t s))

/-- TF_TOPO_READ (R376). -/
def execTfTopoRead (t : Nat) (c : Call) (p : Bytes) (s : State) : Host.Outcome State Fault Refusal :=
  commandRow t 0x5001 c p s (fun s => answer 0x5001 c (opTopoRead p s))

/-- TF_ID_RELEASE (R359). -/
def execTfIdRelease (t : Nat) (c : Call) (p : Bytes) (s : State) : Host.Outcome State Fault Refusal :=
  commandRow t 0x5002 c p s (fun s => answer 0x5002 c (opIdRelease p s))

/-- TF_ROUTE_READ (R363). -/
def execTfRouteRead (t : Nat) (c : Call) (p : Bytes) (s : State) : Host.Outcome State Fault Refusal :=
  commandRow t 0x5003 c p s (fun s => answer 0x5003 c (opRouteRead p s))

/-- TF_REKEY (R351). -/
def execTfRekey (t : Nat) (c : Call) (p : Bytes) (s : State) : Host.Outcome State Fault Refusal :=
  commandRow t 0x5020 c p s (fun s => answer 0x5020 c (opRekey p s))

end Sys2Proof.Machine
end

