-- ==== Sys2Proof/Machine/Security.lean ====
section
/-! DEFINITION. The ends of cipher requests on every path (R318, R322, R325, R327, R330, R340), the writing of secured PDU
entries (R334), and the rows of chapter 13. -/

namespace Sys2Proof.Machine

/-! ### Ends of requests -/

/-- A request on a pipeline, by its number. -/
def runningReq (s : State) (id : Nat) : Option CxReq := s.cx.reqs.find? (fun r => r.id == id && r.pipe.isSome)

/-- The image stream voided (R327, R460): its slot INVALID, every byte it released programmed to 0x00, nothing open, counted
and reported. -/
def voidImage (s : State) : State :=
  match s.bt.upload with
  | none => s
  | some u =>
    let g := Tab.get s.bt.slots u.slot ⟨0, [], [], 0⟩
    let s := { s with bt := { s.bt with
      upload := none
      slots := Tab.put s.bt.slots u.slot { g with state := 3, body := zeros g.body.length } } }
    raiseIn (bump s Reg.CX_STAT_VOID.value) Reg.CX_INT_STATUS.event 0 11 2 0xFFFF
      (leBytes 4 g.body.length ++ leBytes 2 u.tag)

/-- Whether a request has only what its verification holds back left to release (R327). -/
def CxReq.atEnd (r : CxReq) : Bool := !r.streaming || r.released == (r.dataLen - 1) / 4096 * 4096

/-- An error of a request's hold buffer, counted, and reported where it is uncorrectable (R340). -/
def holdErr (r : CxReq) (s : State) (e : HoldErr) : State :=
  if e.corrected then lifeCount s Life.ecc 12
  else raiseIn (lifeCount s Life.ecc 13) Reg.CX_INT_STATUS.event 0 11 11 (r.pipe.getD 0) (leBytes 2 e.unit)

/-- CIPHER_TAG_VERIFIED (R325, R340): the held output released, or zeroised and the failure told. An image stream's tag is
compared as its upload closes; a hold-buffer error ends it here. -/
def tagVerified (id : Nat) (aad data : Bytes) (hold : List HoldErr) (s : State) : State :=
  let holdError := hold.any (fun e => !e.corrected)
  match runningReq s id with
  | none => s
  | some r =>
    if !r.verifies || (!holdError && (decide (r.waiter = .image) || !r.atEnd)) then s
    else
      let (aad, cipher) := r.parts aad data
      let (right, output) := r.verdict s aad cipher
      let ok := right && !holdError
      let s := hold.foldl (holdErr r) s
      let s := if ok then s else tagFailed s r.queue
      let s := retireReq s r
      match r.waiter with
      | .host c => hostVerified s r c ok output
      | .frame f e => fromCipher s f e ok output
      | .image => voidImage s
      | .macsec port f rx early k n => secYVerified s port f rx early k n ok output
      | .link l f _ => linkVerified s l f ok output

/-- STREAMING_CHUNK_RELEASE (R327): a chunk of 4,096 bytes that is not the last one. -/
def chunkReleased (id : Nat) (data : Bytes) (s : State) : State :=
  match runningReq s id with
  | none => s
  | some r =>
    match r.waiter with
    | .host _ =>
      if r.streaming && decide (r.released + 4096 < r.dataLen) then
        let chunk := sliceBytes (r.output s (r.parts [] data).2) r.released 4096
        let s := { s with cx := { s.cx with
          reqs := s.cx.reqs.map (fun x => if x.id = id then { x with released := x.released + 4096 } else x) } }
        hostChunk s r chunk
      else s
    | _ => s

/-- CIPHER_REQUEST_COMPLETED (R318): the end of a request that verifies nothing. -/
def requestDone (id : Nat) (aad data : Bytes) (s : State) : State :=
  match runningReq s id with
  | none => s
  | some r =>
    if r.verifies then s
    else
      match r.waiter with
      | .host c =>
        let (aad, data) := r.parts aad data
        let output := r.output s data
        hostComplete (retireReq s r) r c output (r.tagOver s aad (if r.mode = 2 then output else data))
      | _ => retireReq s r

/-- What becomes of a request in flight as the keys are erased (R322). -/
def erasedReq (s : State) (r : CxReq) : State :=
  match r.waiter with
  | .host c =>
    let s := if r.streaming && r.pipe.isSome then voidStream s r.waiter r.voidId else s
    sendReply s 0x4010 c stDenied []
  | .frame f _ => freeFrame s f
  | .image => voidImage s
  | .macsec _ f _ _ _ _ => discardFrame s f
  | .link .. => s

/-- The erasure an alarm calls for, with the end of every request in flight (R322). -/
def eraseAll (s : State) (cause : Nat) : State := s.cx.reqs.foldl erasedReq (eraseKeys s cause)

/-! ### CX_SECPDU_WRITE (R334) -/

/-- Whether the valid check channel on a transmit template, checks enabled or not, reaches outside the authentic part of entry
`e`. -/
def checkOutside (s : State) (e : SecPdu) : Bool :=
  match s.sg.checks.find? (fun c => Ck.valid c.2 && Ck.dir c.2 == 1 && Ck.target c.2 == e.target) with
  | none => false
  | some (_, x) =>
    let w := ckWidth (Ck.alg x) / 8
    let ctr := (fieldPositions (Ck.ctrOrder x) (Ck.ctrStart x) (Ck.ctrBits x)).map (fun q => q / 8)
    let first := (ctr ++ (if w = 0 then [] else [Ck.crcByte x])).foldl min (Ck.covFirst x)
    decide (first < e.hdrLen) || decide (e.hdrLen + e.authLen < ckReach x)

/-- Whether entry `n` of table 13 is refused. An entry that is not valid is refused for a reserved bit alone. -/
def secPduBad (s : State) (n : Nat) (e : SecPdu) : Bool :=
  let reserved := bitsOf e.words 26 5 != 0 || bitSet e.words 63 || bitsOf e.words 96 32 != 0
  let k := keySlot s e.slot
  let tpl := tplOf s e.target
  let targetOk := if e.dir = 1 then Tpl.valid tpl else decide (e.target < 8192) && Rxp.valid (rxPduOf s e.target)
  let taken := s.cx.secPdus.any (fun x => x.1 != n && x.2.valid && x.2.dir == e.dir && x.2.target == e.target)
  reserved || (e.valid &&
    (!bitSet k.usage 3 || k.len != 16 || e.macBytes < 3 || 16 < e.macBytes || 64 < e.tBits || e.authLen == 0 ||
      2047 < e.authLen || 2 < e.hdrLen || e.reserveLog2 < 8 || 24 < e.reserveLog2 || !targetOk || taken ||
      (e.dir == 1 && (Tpl.length tpl != e.hdrLen + e.authLen + e.trailerLen || checkOutside s e))))

/-- CX_SECPDU_WRITE (R334): the entry's freshness value stands. -/
def opSecpduWrite (p : Bytes) (s : State) : CmdAnswer :=
  let n := leAt p 0 2
  let e := { secPdu s n with words := leAt p 4 16 }
  if p.length ≠ 20 then fail s stBadLength
  else if 1023 < n || !zeroAt p 2 2 || secPduBad s n e then fail s stBadParam
  else okay { s with cx := { s.cx with secPdus := Tab.put s.cx.secPdus n e } } []

/-- The freshness offers of entry `n` forgotten: a CX_FV_SET between offer and leave wins (R336). -/
def forgetFv (s : State) (n : Nat) : State :=
  let clean := fun (g : GwRec) => { g with secOffer := g.secOffer.filter (fun x => x.1 != n) }
  { s with can := Tab.mapAll (fun _ c => { c with pends := c.pends.map (fun p => { p with gw := p.gw.map clean }) }) s.can }

/-- CX_FV_SET with what it does to elements already offered. -/
def opFvSetAll (p : Bytes) (s : State) : CmdAnswer :=
  match opFvSet p s with
  | (s, some (0, r)) => (forgetFv s (leAt p 0 2), some (stOk, r))
  | a => a

/-! ### The rows -/

/-- CIPHER_TAG_VERIFIED (R325). -/
def execCipherTagVerified (t : Nat) (request : Nat) (aad data : Bytes) (hold : List HoldErr) (s : State) :
    Host.Outcome State Fault Refusal :=
  powered t s <|
  done (tagVerified request aad data hold (arrive t s))

/-- STREAMING_CHUNK_RELEASE (R327). -/
def execStreamingChunkRelease (t : Nat) (request : Nat) (data : Bytes) (s : State) :
    Host.Outcome State Fault Refusal :=
  powered t s <|
  done (chunkReleased request data (arrive t s))

/-- CIPHER_REQUEST_COMPLETED (R318). -/
def execCipherRequestCompleted (t : Nat) (request : Nat) (aad data : Bytes) (s : State) :
    Host.Outcome State Fault Refusal :=
  powered t s <|
  done (requestDone request aad data (arrive t s))

/-- CX_KEY_LOAD (R320). -/
def execCxKeyLoad (t : Nat) (c : Call) (p : Bytes) (s : State) : Host.Outcome State Fault Refusal :=
  commandRow t 0x4001 c p s (fun s => answer 0x4001 c (opKeyLoad p s))

/-- CX_KEY_ERASE (R321). -/
def execCxKeyErase (t : Nat) (c : Call) (p : Bytes) (s : State) : Host.Outcome State Fault Refusal :=
  commandRow t 0x4002 c p s (fun s => answer 0x4002 c (opKeyErase p s))

/-- CX_KEY_INFO (R342). -/
def execCxKeyInfo (t : Nat) (c : Call) (p : Bytes) (s : State) : Host.Outcome State Fault Refusal :=
  commandRow t 0x4003 c p s (fun s => answer 0x4003 c (opKeyInfo p s))

/-- CX_REQUEST (R318). -/
def execCxRequest (t : Nat) (c : Call) (p : Bytes) (s : State) : Host.Outcome State Fault Refusal :=
  commandRow t 0x4010 c p s (fun s => answer 0x4010 c (opCxRequest c p s))

/-- CX_VOID_REG (R326). -/
def execCxVoidReg (t : Nat) (c : Call) (p : Bytes) (s : State) : Host.Outcome State Fault Refusal :=
  commandRow t 0x4011 c p s (fun s => answer 0x4011 c (opVoidReg p s))

/-- CX_VOID_UNREG (R342). -/
def execCxVoidUnreg (t : Nat) (c : Call) (p : Bytes) (s : State) : Host.Outcome State Fault Refusal :=
  commandRow t 0x4012 c p s (fun s => answer 0x4012 c (opVoidUnreg p s))

/-- CX_SECPDU_WRITE (R334). -/
def execCxSecpduWrite (t : Nat) (c : Call) (p : Bytes) (s : State) : Host.Outcome State Fault Refusal :=
  commandRow t 0x4020 c p s (fun s => answer 0x4020 c (opSecpduWrite p s))

/-- CX_FV_READ (R342). -/
def execCxFvRead (t : Nat) (c : Call) (p : Bytes) (s : State) : Host.Outcome State Fault Refusal :=
  commandRow t 0x4021 c p s (fun s => answer 0x4021 c (opFvRead p s))

/-- CX_FV_SET (R338). -/
def execCxFvSet (t : Nat) (c : Call) (p : Bytes) (s : State) : Host.Outcome State Fault Refusal :=
  commandRow t 0x4022 c p s (fun s => answer 0x4022 c (opFvSetAll p s))

/-- CX_PROFILE_WRITE (R329). -/
def execCxProfileWrite (t : Nat) (c : Call) (p : Bytes) (s : State) : Host.Outcome State Fault Refusal :=
  commandRow t 0x4030 c p s (fun s => answer 0x4030 c (opProfileWrite p s))

/-- MACSEC_PORT_CFG (R342). -/
def execMacsecPortCfg (t : Nat) (c : Call) (p : Bytes) (s : State) : Host.Outcome State Fault Refusal :=
  commandRow t 0x4040 c p s (fun s => answer 0x4040 c (opMacsecPort p s))

/-- MACSEC_SA_INSTALL (R342). -/
def execMacsecSaInstall (t : Nat) (c : Call) (p : Bytes) (s : State) : Host.Outcome State Fault Refusal :=
  commandRow t 0x4041 c p s (fun s => answer 0x4041 c (opMacsecInstall p s))

/-- MACSEC_SA_CTRL (R332). -/
def execMacsecSaCtrl (t : Nat) (c : Call) (p : Bytes) (s : State) : Host.Outcome State Fault Refusal :=
  commandRow t 0x4042 c p s (fun s => answer 0x4042 c (opMacsecCtrl p s))

end Sys2Proof.Machine
end

