-- ==== Sys2Proof/Machine/Images.lean ====
section
/-! DEFINITION. Firmware and table images in their slots (R457–R462), signatures (R339), and the start record as its bytes
(R455). -/

namespace Sys2Proof.Machine

/-! ### Signatures (R339) -/

/-- The verification key `k` of the SP. -/
def verifKey (s : State) (k : Nat) : VerifKey := Tab.get s.cx.verifKeys k ⟨0, 0, 0, []⟩

/-- Whether key `k` is ACTIVE with the purpose of this bit: 0 image, 1 command authority, 2 debug unlock. -/
def keyServes (s : State) (k purpose : Nat) : Bool :=
  decide (k < 8) && (verifKey s k).state == 1 && bitSet (verifKey s k).purpose purpose

/-- The SHA-2 digest of width `bits` of a message. -/
def digest (bits : Nat) (msg : Bytes) : Bytes := bytesOf (bits / 8) (Config.sha2 bits msg)

/-- Whether a signature of a message verifies under key `k`: P-256 with SHA-256, P-384 with SHA-384. -/
def signatureOk (s : State) (k : Nat) (msg sig : Bytes) : Bool :=
  let v := verifKey s k
  if v.curve = 0 then Config.ecdsa 0 v.key (digest 256 msg) (sig.take 64) else Config.ecdsa 1 v.key (digest 384 msg) (sig.take 96)

/-- CX event 0x000A: a verification under key `k` for this purpose failed. -/
def signatureFailed (s : State) (k purpose : Nat) : State :=
  raiseIn s Reg.CX_INT_STATUS.event 0 11 10 k (leBytes 1 purpose)

/-! ### The header (Table 18.6b) -/

def Header.magic (h : Bytes) : Nat := leAt h 0x00 4
def Header.format (h : Bytes) : Nat := leAt h 0x04 2
def Header.kind (h : Bytes) : Nat := byteAt h 0x06
def Header.key (h : Bytes) : Nat := byteAt h 0x07
def Header.product (h : Bytes) : Nat := leAt h 0x08 4
def Header.hwMask (h : Bytes) : Nat := leAt h 0x0C 4
def Header.length (h : Bytes) : Nat := leAt h 0x10 4
def Header.version (h : Bytes) : Nat := leAt h 0x14 4
def Header.manifestLen (h : Bytes) : Nat := leAt h 0x18 4
def Header.secver (h : Bytes) : Nat := leAt h 0x1C 2
def Header.manifestHash (h : Bytes) : Bytes := sliceBytes h 0x20 48
def Header.signature (h : Bytes) : Bytes := sliceBytes h 0xA0 96

/-- The size of an image slot: 24 MiB for firmware, 8 MiB for tables (R457). -/
def slotSize (slot : Nat) : Nat := if slot < 2 then 24 * 1024 * 1024 else 8 * 1024 * 1024

/-- The first of reasons 1–6 of Table 18.6 that refuses a header for a slot, a kind being asked for; 0 for none. -/
def headerReason (s : State) (slot kind : Nat) (h : Bytes) : Nat :=
  if Header.magic h ≠ 0x474D4943 ∨ Header.format h ≠ 1 then 1
  else if Header.product h ≠ 0x7264 then 2
  else if !bitSet (Header.hwMask h) (rd s Reg.BT_HWREV.rev) then 3
  else if slotSize slot < Header.length h ∨ Header.length h < 256 + Header.manifestLen h ∨ Header.manifestLen h < 16 then 4
  else if Header.kind h ≠ kind then 5
  else if Header.secver h < s.bt.record.secverMin then 6
  else 0

/-- Whether the signature of a header verifies (R458). -/
def headerSigned (s : State) (h : Bytes) : Bool := signatureOk s (Header.key h) (h.take 0xA0) (Header.signature h)

/-! ### Manifest and parts (Table 18.7, R461) -/

/-- The manifest of an image whose bytes from offset 256 on are `body`. -/
def manifestOf (h body : Bytes) : Bytes := padTo (min (Header.manifestLen h) body.length) body

def Manifest.parts (m : Bytes) : Nat := leAt m 0x00 2
def Manifest.compat (m : Bytes) : Nat := leAt m 0x02 2
def Manifest.schema (m : Bytes) : Nat := leAt m 0x04 4
def Manifest.minSchema (m : Bytes) : Nat := leAt m 0x08 4
def Manifest.acceptDefaults (m : Bytes) : Bool := bitSet (byteAt m 0x0C) 0

/-- A part entry: type, offset in the image, length, version and SHA-384. -/
structure Part where
  typ : Nat
  offset : Nat
  length : Nat
  version : Nat
  hash : Bytes
  deriving DecidableEq, Repr

/-- Part `i` of a manifest. -/
def partAt (m : Bytes) (i : Nat) : Part :=
  let e := 0x10 + 64 * i
  ⟨leAt m e 2, leAt m (e + 4) 4, leAt m (e + 8) 4, leAt m (e + 12) 4, sliceBytes m (e + 16) 48⟩

/-- The parts the manifest holds room for. -/
def partsOf (m : Bytes) : List Part := (List.range (min (Manifest.parts m) (m.length / 64))).map (partAt m)

/-- The bytes of a part. -/
def partBytes (h body : Bytes) (p : Part) : Bytes := sliceBytes (h ++ body) p.offset p.length

/-- Whether a part lies in the image and its bytes match its hash. -/
def partOk (h body : Bytes) (p : Part) : Bool :=
  decide (256 ≤ p.offset) && decide (p.offset + p.length ≤ Header.length h) && digest 384 (partBytes h body p) == p.hash

/-- Whether a part has the size its type allows. -/
def partSized (p : Part) : Bool :=
  if p.typ = 3 then decide (136 ≤ p.length) && decide (p.length ≤ 131204)
  else if p.typ = 4 then decide (p.length ≤ 64 * 1024)
  else true

/-- Whether a firmware image holds exactly one part each of types 1–4. -/
def partsComplete (m : Bytes) : Bool :=
  let ts := (partsOf m).map (fun p => p.typ)
  [1, 2, 3, 4].all (fun t => ts.count t == 1) && ts.all (fun t => decide (1 ≤ t) && decide (t ≤ 4))

/-- Whether the manifest hash is right. -/
def manifestOk (h body : Bytes) : Bool := digest 384 (manifestOf h body) == Header.manifestHash h

/-- The first part of an image that fails the checks of R461, none where all pass. -/
def badPart (h body : Bytes) : Option Nat :=
  let m := manifestOf h body
  firstFrom (fun i =>
    let p := partAt m i
    decide (m.length < 0x10 + 64 * (i + 1)) || !partOk h body p || !partSized p) 0 (Manifest.parts m)

/-! ### Slots (R457, R463) -/

/-- Image slot `k`: 0 and 1 firmware A and B, 2 and 3 table A and B. -/
def imageSlot (s : State) (k : Nat) : ImageSlot := Tab.get s.bt.slots k ⟨0, [], [], 0⟩

/-- Image slot `k` changed. -/
def modSlot (s : State) (k : Nat) (f : ImageSlot → ImageSlot) : State :=
  { s with bt := { s.bt with slots := Tab.put s.bt.slots k (f (imageSlot s k)) } }

/-- The active slot of a kind, as an image slot number. -/
def activeSlot (s : State) (kind : Nat) : Nat := if kind = 0 then s.bt.record.fw else 2 + s.bt.record.tbl

/-- The inactive slot of a kind. -/
def inactiveSlot (s : State) (kind : Nat) : Nat := if kind = 0 then 1 - s.bt.record.fw else 3 - s.bt.record.tbl

/-- The header of the active firmware image. -/
def activeHeader (s : State) : Bytes := (imageSlot s (activeSlot s 0)).header

/-- The manifest of the active firmware image. -/
def activeManifest (s : State) : Bytes := manifestOf (activeHeader s) (imageSlot s (activeSlot s 0)).body

/-- The bytes of the first part of this type in the image of slot `k`, none where it holds none. -/
def partOfType (s : State) (k typ : Nat) : Option Bytes :=
  let g := imageSlot s k
  ((partsOf (manifestOf g.header g.body)).find? (fun p => p.typ == typ)).map (partBytes g.header g.body)

/-! ### The start record (R455, Table 18.4) -/

/-- The start record changed and written, which leaves both its copies good (R308, R455). Before step 4 of a start it is not
reached: the wake die holds what is to be written, and the copies stand as they are (R449, R451). -/
def modRecord (s : State) (f : StartRecord → StartRecord) : State :=
  let reached := s.bt.record.recovery || decide (4 ≤ rd s Reg.BT_STATUS.step)
  { s with bt := { s.bt with
    record := { f s.bt.record with seq := (s.bt.record.seq + 1) % 2 ^ 32 }
    before := s.bt.record
    copies := if reached then Tab.del s.bt.copies 1 else s.bt.copies } }

/-- The 128 bytes of a copy of the start record. -/
def recordBytesOf (s : State) : Bytes :=
  let r := s.bt.record
  let flags := r.fw + 2 * b2n r.prevValid + 4 * r.ws + 8 * r.tbl + 16 * b2n r.confirmReq + 32 * b2n r.recovery + 64 * b2n r.fabPrepared
  let x : Bytes := leBytes 4 0x53545252 ++ leBytes 4 r.seq ++ leBytes 2 1 ++ leBytes 1 (rd s Reg.BT_STATUS.step) ++
    leBytes 1 r.failStep ++ leBytes 1 r.failReason ++ leBytes 1 r.state ++ leBytes 1 flags ++ leBytes 1 r.trialStarts ++
    ((List.range 13).map (fun k => leBytes 1 (Tab.get r.fails (k + 1) 0))).flatten ++ leBytes 2 r.alt ++ zeros 1 ++
    ((List.range 4).map (fun k => leBytes 1 (imageSlot s k).state)).flatten ++
    leBytes 4 r.verActive ++ leBytes 4 r.verPrev ++ leBytes 4 r.genActive ++ leBytes 4 r.genPrev ++ leBytes 4 r.startCount ++
    leBytes 4 r.fabId ++ leBytes 1 r.fabDecision ++ zeros 3 ++ leBytes 8 r.commitAt ++ leBytes 8 r.fabMembers ++
    leBytes 2 r.secverMin ++ zeros (0x7C - 0x52)
  x ++ leBytes 4 (crc32c x)

/-- BT event `code` (Table 18.9). -/
def btEvent (s : State) (code inst : Nat) (data : Bytes) : State := raiseIn s Reg.BT_INT_STATUS.event 0 16 code inst data

end Sys2Proof.Machine
end

