-- ==== Sys2Proof/Machine/Margin.lean ====
section
/-! DEFINITION. The speed index, the margin planner, derating and the published bounds, the AVSBus and the Hem (chapter 2). -/

namespace Sys2Proof.Machine

/-- MP event `code` (Table 2.5). -/
def mpEvent (s : State) (code inst : Nat) (data : Bytes) : State := raiseIn s Reg.MP_INT_STATUS.event 0 18 code inst data

/-! ### Published bounds (R44, R45, R55, R59) -/

/-- Rated value and ratio of bound class `n` (Table 2.1). -/
def ratedBound (n : Nat) : Nat × Nat :=
  match n with
  | 0 => (1600, 1020)
  | 1 => (3500, 1040)
  | 2 => (2000, 1046)
  | 3 => (1100, 1046)
  | 4 => (240000, 0)
  | 5 => (314000, 0)
  | _ => (40000, 1100)

/-- Bound class `n` under derate factor `d` (Q4.12; 4,096 is rated): its value and its ratio_milli (R55). -/
def boundAt (n d : Nat) : Nat × Nat :=
  let (v, r) := ratedBound n
  if boundIsThroughput n then (v * 4096 / d, r) else (ceilDiv (v * d) 4096, 1000 + ceilDiv ((r - 1000) * d) 4096)

/-- The bounds under factor `d` published as a new generation (R45). -/
def publish (s : State) (d : Nat) (derated : Bool) : State :=
  let s := (List.range 7).foldl (fun s n =>
    let (v, r) := boundAt n d
    wr (wr (wr s Reg.MP_BOUND_VAL.value v n) Reg.MP_BOUND_INFO.ratio_milli r n) Reg.MP_BOUND_INFO.derated (b2n derated) n) s
  let s := wr s Reg.MP_DERATE.d d
  wr s Reg.MP_BOUND_GEN.gen (rd s Reg.MP_BOUND_GEN.gen + 1)

/-- The latency value of bound `n` in force. -/
def boundValue (s : State) (n : Nat) : Nat := rd s Reg.MP_BOUND_VAL.value n

/-! ### The planner (R49–R56) -/

/-- H in force, in permille (R57). -/
def hemInForce (s : State) : Nat :=
  if rdB s Reg.MP_CTRL.hem_fixed then rd s Reg.MP_CTRL.hem_set else rd s Reg.MP_HEM.hem

/-- The lowest SI in the last 1 s (R55), from samples kept newest first. -/
def siMin (samples : List (Nat × Nat)) (now : Nat) : Nat :=
  ((samples.filter (fun x => decide (now < x.1 + sec))).map Prod.snd).foldl min 0xFFFF

/-- A sample added: older samples that are not lower can never again be the lowest and are dropped. -/
def addSample (samples : List (Nat × Nat)) (now si : Nat) : List (Nat × Nat) :=
  (now, si) :: samples.filter (fun x => decide (x.2 < si) && decide (now < x.1 + sec))

/-- An AVSBus command put out on the rail MP_CTRL selects (R49). -/
def avsOut (s : State) (c : AvsCmd) : State := emit s (.avs (rd s Reg.MP_CTRL.avs_rail) c)

/-- The page's H, brought up to the H in force (Table 2.6). -/
def noteHem (s : State) : State :=
  { s with lr := { s.lr with counts := Tab.put s.lr.counts 0x312 (hemInForce s) } }

/-- VDD_CORE commanded to `mv` over the AVSBus (R49). -/
def commandVdd (s : State) (mv : Nat) : State :=
  let s := lifeSettle s
  let s := wr s Reg.MP_STATUS.vdd_cmd_mv mv
  let s := wr s Reg.MP_STATUS.at_ceiling (b2n (mv == 900))
  let s := wr s Reg.MP_STATUS.at_floor (b2n (mv == 720))
  avsOut { s with mp := { s.mp with avsWrites := s.mp.avsWrites + 1 } } (.writeVoltage mv)

/-- The derate factor in Q4.12 for H permille and a lowest SI, rounded up, never below 0x1000 (R55). -/
def derateFactor (h si : Nat) : Nat := min 0xFFFF (max 0x1000 (ceilDiv ((4096 + ceilDiv (2048 * h) 1000) * 4096) (max 1 si)))

/-- DERATED entered (R55). -/
def derateEnter (s : State) : State :=
  let lo := siMin s.mp.samples s.now
  let d := derateFactor (hemInForce s) lo
  let s := lifeSettle s
  let s := wr s Reg.MP_STATUS.derated 1
  let s := publish { s with mp := { s.mp with deratedAt := s.now } } d true
  mpEvent s 1 0xFFFF (leBytes 2 lo ++ leBytes 2 d ++ leBytes 2 (rd s Reg.MP_STATUS.vdd_cmd_mv) ++ leBytes 2 (rd s Reg.MP_TJ.tj))

/-- DERATED left where its condition holds (R56). -/
def derateLeave (s : State) : State :=
  let lo := siMin s.mp.samples s.now
  if 4096 * (1000 + hemInForce s) ≤ lo * 1000 ∧ rd s Reg.MP_STATUS.vdd_cmd_mv ≤ 900 ∧
      rdB s Reg.MP_STATUS.avs_fault = false ∧ rdB s Reg.MP_CTRL.planner_en = true then
    let s := lifeSettle s
    let s := publish (wr s Reg.MP_STATUS.derated 0) 0x1000 false
    mpEvent s 2 0xFFFF (leBytes 4 ((s.now - s.mp.deratedAt) / sec) ++ leBytes 2 (rd s Reg.MP_STATUS.vdd_cmd_mv))
  else s

/-- A bound exposure begun, continued or ended by a sample (R51). -/
def exposureStep (s : State) (si : Nat) : State :=
  match s.mp.exposure with
  | none =>
    if si < 4096 then lifeCount { s with mp := { s.mp with exposure := some (s.now, si) } } Life.exposures 0 else s
  | some (t0, lo) =>
    if si < 4096 then { s with mp := { s.mp with exposure := some (t0, min lo si) } }
    else
      mpEvent { s with mp := { s.mp with exposure := none } } 3 0xFFFF
        (leBytes 2 lo ++ leBytes 4 (s.now - t0) ++ leBytes 2 (rd s Reg.MP_STATUS.vdd_cmd_mv))

/-- Table 2.3's action on a sample, the lowering row apart, which PLANNER_LOWER carries out. -/
def plannerAct (s : State) (si : Nat) : State :=
  let vdd := rd s Reg.MP_STATUS.vdd_cmd_mv
  let h := hemInForce s
  let active := rdB s Reg.MP_CTRL.planner_en && !rdB s Reg.MP_STATUS.avs_fault
  let ample := decide (4096 * (1030 + h) ≤ si * 1000)
  let s := { s with mp := { s.mp with ampleSince := if ample then (s.mp.ampleSince.orElse (fun _ => some s.now)) else none } }
  let raiseBy := fun (step : Nat) (s : State) =>
    commandVdd { s with mp := { s.mp with lastRaise := some s.now } } (min 900 (vdd + step))
  if si < 4096 && decide (vdd < 900) && active then raiseBy 20 s
  else if decide (si * 2000 < 4096 * (2000 + h)) && (vdd == 900 || !active) then
    if rdB s Reg.MP_STATUS.derated then s else derateEnter s
  else if 4096 ≤ si && decide (si * 1000 < 4096 * (1000 + h)) && decide (vdd < 900) && active then
    if (s.mp.lastRaise.map (fun t => decide (t + 100000 ≤ s.now))).getD true then raiseBy 5 s else s
  else s

/-- SI_SAMPLE (R47, R51, R59). -/
def siSampleOp (sis : List (BitVec 16)) (s : State) : State :=
  let vals := sis.map BitVec.toNat
  let si := vals.foldl min 0xFFFF
  let s := (vals.zipIdx).foldl (fun s x => wr s Reg.MP_DLM.si x.1 x.2) s
  let s := { s with mp := { s.mp with samples := addSample s.mp.samples s.now si } }
  let s := wr s Reg.MP_SPEED.si si
  let s := wr s Reg.MP_SPEED.si_min_1s (siMin s.mp.samples s.now)
  let s := if rd s Reg.MP_STATUS.state = 0 then
      let s := wr s Reg.MP_STATUS.state (if rdB s Reg.MP_CTRL.planner_en then 1 else 2)
      mpEvent (publish s 0x1000 false) 9 0xFFFF (leBytes 2 si ++ leBytes 2 (rd s Reg.MP_STATUS.vdd_cmd_mv))
    else s
  let s := wr s Reg.MP_STATUS.at_ceiling (b2n (rd s Reg.MP_STATUS.vdd_cmd_mv == 900))
  let s := exposureStep s si
  let s := plannerAct s si
  if rdB s Reg.MP_STATUS.derated then derateLeave s else s

/-- DERATE_RECOMPUTE (R55, R56): D may grow; where the device may leave DERATED it does. -/
def derateRecomputeOp (s : State) : State :=
  if rdB s Reg.MP_STATUS.derated then
    let s := derateLeave s
    if rdB s Reg.MP_STATUS.derated then
      let d := derateFactor (hemInForce s) (siMin s.mp.samples s.now)
      if rd s Reg.MP_DERATE.d < d then publish s d true else s
    else s
  else s

/-- PLANNER_LOWER: the lowering row of Table 2.3, from start step 9 on and in Run only (R52, R60). -/
def plannerLowerOp (s : State) : State :=
  let vdd := rd s Reg.MP_STATUS.vdd_cmd_mv
  let ample := (s.mp.ampleSince.map (fun t => decide (t + 100 * ms ≤ s.now))).getD false
  if ample && decide (720 < vdd) && rdB s Reg.MP_CTRL.planner_en && !rdB s Reg.MP_STATUS.avs_fault &&
      decide (s.mp.lowerHold ≤ s.now) && decide (9 ≤ rd s Reg.BT_STATUS.step) && powerState s == 0 &&
      !cpHalted s plannerWork then
    commandVdd { s with mp := { s.mp with lowerHold := s.now + 100 * ms } } (vdd - 5)
  else s

/-! ### The AVSBus (R53, R54) -/

/-- An AVSBus fault declared. -/
def avsFault (s : State) (cause : Nat) : State :=
  let s := lifeCount (wr s Reg.MP_STATUS.avs_fault 1) Life.avsFaults 0
  mpEvent { s with mp := { s.mp with avsFails := 0 } } 4 0xFFFF (leBytes 1 cause ++ leBytes 2 s.mp.lastReadback)

/-- Whether a readback differs from the last commanded value by more than 15 mV. -/
def readbackOff (s : State) (mv : Nat) : Bool :=
  let c := rd s Reg.MP_STATUS.vdd_cmd_mv
  decide (c + 15 < mv) || decide (mv + 15 < c)

/-- MP_VDD_FIX commanded (R54), or owed while a fault lasts (R53) or, where it lowers VDD_CORE, until start step 9 (R52). -/
def commandFix (s : State) : State :=
  let mv := rd s Reg.MP_VDD_FIX.mv
  if rdB s Reg.MP_STATUS.avs_fault || (decide (mv < rd s Reg.MP_STATUS.vdd_cmd_mv) && decide (rd s Reg.BT_STATUS.step < 9)) then
    { s with mp := { s.mp with fixDue := true } }
  else commandVdd { s with mp := { s.mp with fixDue := false } } mv

/-- MP_VDD_FIX commanded where its command is still owed. -/
def commandFixDue (s : State) : State := if s.mp.fixDue then commandFix s else s

/-- A transaction that succeeded or failed: how many have now failed in a row, none once three have. -/
def avsCount (fails : Option Nat) (ok : Bool) : Option Nat :=
  fails.bind (fun n => if ok then some 0 else if 2 ≤ n then none else some (n + 1))

/-- The Voltage read and the Status read put out (R49, R53). -/
def avsReads (s : State) : State := avsOut (avsOut s .readVoltage) .readStatus

/-- AVS_READBACK (R53): the writes since the last one, then the two reads; while a fault lasts the retry stands in its place. -/
def avsReadbackOp (writes : List Bool) (mv : Option Nat) (status : Option Bool) (s : State) : State :=
  if rdB s Reg.MP_STATUS.avs_fault then s
  else
    let s := avsReads s
    let sent := writes.take s.mp.avsWrites ++ [mv.isSome, status.isSome]
    let s := { s with mp := { s.mp with avsWrites := 0, lastReadback := mv.getD s.mp.lastReadback } }
    match sent.foldl avsCount (some s.mp.avsFails) with
    | none => avsFault s 0
    | some n =>
      let s := { s with mp := { s.mp with avsFails := n } }
      if status = some true then avsFault s 1 else if mv.any (readbackOff s) then avsFault s 2 else s

/-- AVS_RETRY: a Voltage write of the voltage last commanded and its reads; the first fully successful write and read clears the
fault (R53). -/
def avsRetryOp (wrote : Bool) (mv : Option Nat) (status : Option Bool) (s : State) : State :=
  if rdB s Reg.MP_STATUS.avs_fault then
    let s := avsReads (avsOut s (.writeVoltage (rd s Reg.MP_STATUS.vdd_cmd_mv)))
    let s := { s with mp := { s.mp with lastReadback := mv.getD s.mp.lastReadback } }
    if wrote && mv.isSome && !(mv.any (readbackOff s)) && status == some false then
      commandFixDue (mpEvent (wr { s with mp := { s.mp with avsFails := 0, avsWrites := 0 } } Reg.MP_STATUS.avs_fault 0) 5 0xFFFF [])
    else s
  else s

/-- The effect of a write that has changed MP_CTRL.planner_en (R54): manual mode commands MP_VDD_FIX once. -/
def plannerEnWritten (s : State) : State :=
  if rdB s Reg.MP_CTRL.planner_en then
    let s := { s with mp := { s.mp with fixDue := false } }
    if rd s Reg.MP_STATUS.state = 2 then wr s Reg.MP_STATUS.state 1 else s
  else commandFix (if rd s Reg.MP_STATUS.state = 1 then wr s Reg.MP_STATUS.state 2 else s)

/-! ### Temperature (R48) -/

/-- TEMPERATURE_READING (R48). -/
def temperatureOp (tenths : List Int) (s : State) : State :=
  let s := lifeSettle s
  let s := (tenths.zipIdx).foldl (fun s x => wr s Reg.MP_TEMP.tj (pattern 16 x.1) x.2) s
  let hottest := (tenths.zipIdx).foldl (fun (b : Int × Nat) x => if b.1 < x.1 then x else b) (tenths.headD 0, 0)
  let s := wr s Reg.MP_TJ.tj (pattern 16 hottest.1)
  let s := wr s Reg.MP_TJ.sensor hottest.2
  if 1250 < hottest.1 then
    raiseInLimited s Reg.MP_INT_STATUS.event 0 18 8 hottest.2 0 1 (fun _ => leBytes 2 (pattern 16 hottest.1))
  else s

/-! ### The Hem and the margin (R57, R58) -/

/-- The slope of the linear fit of V_req125 (µV) against operating hours, in µV per 1,000 hours, rounded down (assumption
12); 0 for fewer than two distinct hours. -/
def fitSlope (pts : List (Nat × Nat)) : Int :=
  let n : Int := (pts.length : Nat)
  let sx : Int := ((pts.map (fun p => p.1)).sum : Nat)
  let sy : Int := ((pts.map (fun p => p.2)).sum : Nat)
  let sxy : Int := ((pts.map (fun p => p.1 * p.2)).sum : Nat)
  let sxx : Int := ((pts.map (fun p => p.1 * p.1)).sum : Nat)
  let d := n * sxx - sx * sx
  if d = 0 then 0 else (n * sxy - sx * sy) * 1000 / d

/-- H_planned in permille: 20 + A + 3σ rounded up, clamped to 30–120; the slope in µV per 1,000 h, the sensitivity and σ in
thousandths (R57). -/
def hemPlanned (slope : Int) (sensitivity sigma : Nat) : Nat :=
  let micro : Int := 20000000 + slope * (sensitivity : Nat) + 3000 * (sigma : Nat)
  let up := -((-micro) / 1000000)
  (max 30 (min 120 up)).toNat

/-- The remaining margin in tenths of operating years (R58). -/
def marginTenths (vreq : Nat) (slope : Int) : Nat :=
  if 900000 ≤ vreq then 0
  else if slope ≤ 0 then 0xFFFF
  else min 0xFFFF ((900000 - vreq) * 10000 / (slope.toNat * 8766))

/-- VREQ125_RECORD: at 1,000 operating hours, once (R57). -/
def vreqRecordOp (uv : Nat) (s : State) : State :=
  if 1000 ≤ opHours s ∧ s.mp.vreq = [] then
    { s with
      mp := { s.mp with vreq := [(1000, uv)] }
      lr := { s.lr with counts := Tab.put s.lr.counts Life.vreq1kh (uv / 1000) } }
  else s

/-- HEM_REPLAN: every 168 operating hours from hour 1,168 on (R57, R58). -/
def hemReplanOp (sigma sensitivity uv : Nat) (s : State) : State :=
  let hours := opHours s
  if 1000 + 168 * (rd s Reg.MP_HEM.replans + 1) ≤ hours ∧ s.mp.vreq ≠ [] then
    let pts := ((hours, uv) :: s.mp.vreq).filter (fun p => decide (hours ≤ p.1 + 8766))
    let slope := fitSlope pts
    let planned := hemPlanned slope sensitivity sigma
    let old := rd s Reg.MP_HEM.hem
    let new := if rdB s Reg.MP_CTRL.hem_fixed then old
      else if old < planned then min planned (old + 5) else max planned (old - 5)
    let margin := marginTenths uv slope
    let s := { s with mp := { s.mp with vreq := pts } }
    let s := wr s Reg.MP_HEM.hem_planned planned
    let s := wr s Reg.MP_HEM.hem new
    let s := bump s Reg.MP_HEM.replans
    let s := wr s Reg.MP_SLOPE.uv_per_kh (pattern 32 slope)
    let s := wr s Reg.MP_MARGIN.margin margin
    let s := wr s Reg.MP_MARGIN.vreq125_mv (uv / 1000)
    let c := s.lr.counts
    let c := Tab.put c 0x310 (uv / 1000)
    let c := Tab.put c 0x312 (hemInForce s)
    let c := Tab.put c 0x314 (pattern 32 slope)
    let c := Tab.put c 0x318 margin
    let s := { s with lr := { s.lr with counts := c } }
    let s := if new ≠ old then mpEvent s 6 0xFFFF (leBytes 1 old ++ leBytes 1 new ++ leBytes 1 planned) else s
    let warn := match s.mp.warnedAt with
      | none => decide (margin < rd s Reg.MP_MARGIN_WARN.tenths)
      | some m => decide (margin < m)
    if warn then
      mpEvent { s with mp := { s.mp with warnedAt := some margin } } 7 0xFFFF (leBytes 2 margin ++ leBytes 2 (uv / 1000))
    else s
  else s

/-! ### The rows -/

/-- SI_SAMPLE (R51). -/
def execSiSample (t : Nat) (si : List (BitVec 16)) (s : State) : Host.Outcome State Fault Refusal :=
  looping t s <|
  done (siSampleOp si (tick t s))

/-- DERATE_RECOMPUTE (R55). -/
def execDerateRecompute (t : Nat) (s : State) : Host.Outcome State Fault Refusal :=
  looping t s <|
  done (derateRecomputeOp (tick t s))

/-- PLANNER_LOWER (R51). -/
def execPlannerLower (t : Nat) (s : State) : Host.Outcome State Fault Refusal :=
  powered t s <|
  done (plannerLowerOp (tick t s))

/-- AVS_READBACK (R53). -/
def execAvsReadback (t : Nat) (writes : List Bool) (mv : Option Nat) (status : Option Bool) (s : State) :
    Host.Outcome State Fault Refusal :=
  looping t s <|
  done (avsReadbackOp writes mv status (tick t s))

/-- AVS_RETRY (R53). -/
def execAvsRetry (t : Nat) (wrote : Bool) (mv : Option Nat) (status : Option Bool) (s : State) :
    Host.Outcome State Fault Refusal :=
  looping t s <|
  done (avsRetryOp wrote mv status (tick t s))

/-- TEMPERATURE_READING (R48). -/
def execTemperatureReading (t : Nat) (tenths : List Int) (s : State) : Host.Outcome State Fault Refusal :=
  looping t s <|
  done (temperatureOp tenths (tick t s))

/-- VREQ125_RECORD (R57). -/
def execVreq125Record (t : Nat) (microvolts : Nat) (s : State) : Host.Outcome State Fault Refusal :=
  powered t s <|
  done (vreqRecordOp microvolts (tick t s))

/-- HEM_REPLAN (R57). -/
def execHemReplan (t : Nat) (sigma sensitivity microvolts : Nat) (s : State) : Host.Outcome State Fault Refusal :=
  powered t s <|
  done (hemReplanOp sigma sensitivity microvolts (tick t s))

end Sys2Proof.Machine
end

