-- ==== Sys2Proof/Machine/HostReads.lean ====
section
/-! DEFINITION. The completions the bridge owes the host: the byte-lane rule (R383), reads that complete, are deferred and are
collected (R386, R387), and AtomicOps (R390). -/

namespace Sys2Proof.Machine

/-- The bridge's state changed by `f`. -/
def modHb (s : State) (f : HbState → HbState) : State := { s with hb := f s.hb }

/-- The bytes of a list reversed within each 8 of it; a shorter rest stays as it is. -/
def reverseWords : Nat → Bytes → Bytes
  | 0, d => d
  | fuel + 1, d => if d.length < 8 then d else (d.take 8).reverse ++ reverseWords fuel (d.drop 8)

/-- The lane rule on the bytes of a TLP at offset `a` (R383): a unit of 1, 2 or 4 bytes within one DW, or each naturally
aligned 8-byte word, is reversed; bytes of no unit stay (DEDUCED, assumption 40). It is its own inverse. -/
def laneSwap (lane : Bool) (a : Nat) (d : Bytes) : Bytes :=
  if !lane then d
  else if (d.length = 1 ∨ d.length = 2 ∨ d.length = 4) ∧ a % 4 + d.length ≤ 4 then d.reverse
  else
    let k := min d.length ((8 - a % 8) % 8)
    d.take k ++ reverseWords d.length (d.drop k)

/-- The completion status a failed access ends with: Unsupported Request (1) for BAD_PARAM and DENIED, Completer Abort (4)
otherwise (R386). -/
def completerStatus (st : Nat) : Nat := if st = 0 then 0 else if st = 4 ∨ st = 7 then 1 else 4

/-- HB_LAST_ERR and HB_LAST_ERR_OFF. -/
def lastError (s : State) (window : Nat) (atomic : Bool) (offset st : Nat) : State :=
  let s := wr s Reg.HB_LAST_ERR.window window
  let s := wr s Reg.HB_LAST_ERR.atomic (b2n atomic)
  let s := wr s Reg.HB_LAST_ERR.status st
  wr s Reg.HB_LAST_ERR_OFF.offset offset

/-- A completion for the host (R386): with data under the lane rule, or with none and HB_LAST_ERR. -/
def completeRead (s : State) (window offset : Nat) (lane : Bool) (st : Nat) (data : Bytes) : State :=
  if st = 0 then emit s (.pcieCompletion window 0 (laneSwap lane offset data))
  else emit (lastError s window false offset st) (.pcieCompletion window (completerStatus st) [])

/-- The held read of this number. -/
def heldRead (s : State) (id : Nat) : Option HeldRead := s.hb.reads.find? (fun h => h.id == id)

/-- The held read of this number changed, or gone. -/
def setHeld (s : State) (id : Nat) (f : HeldRead → Option HeldRead) : State :=
  modHb s (fun b => { b with reads := b.reads.filterMap (fun h => if h.id = id then f h else some h) })

/-- A held result discarded: counted, with event 0x0004 (R387). -/
def discardHeld (s : State) (h : HeldRead) : State :=
  let s := setHeld s h.id (fun _ => none)
  hbEventLimited (bump s Reg.HB_STAT_RD_DISCARD.value) 4 h.window 1 (fun n => leBytes 4 h.offset ++ leBytes 2 h.status ++ leBytes 4 n)

/-- The enabled bytes of `x` laid over `d` from position `at_` on, which may lie before it. -/
def overlay (d : Bytes) (at_ : Int) (be : Nat) (x : Bytes) : Bytes :=
  (List.range x.length).foldl (fun d k =>
    if bitSet be k && decide (0 ≤ at_ + k) then putBytes d (at_ + k).toNat (sliceBytes x k 1) else d) d

/-- A result arrives for part of a held read; with the last one the read completes to a waiting host, is held, or is
discarded (R386, R387). -/
def readResult (s : State) (id : Nat) (at_ : Int) (st be : Nat) (x : Bytes) : State :=
  match heldRead s id with
  | none => s
  | some h =>
    let h := { h with
      waiting := h.waiting - 1
      status := if h.status = 0 then st else h.status
      bytes := overlay h.bytes at_ be x
      arrived := some s.now }
    let s := setHeld s id (fun _ => some h)
    if h.waiting ≠ 0 then s
    else if h.discard then discardHeld s h
    else if h.attached then setHeld (completeRead s h.window h.offset h.lane h.status h.bytes) id (fun _ => none)
    else s

/-- Entries held by R387. -/
def deferredCount (s : State) : Nat := s.hb.reads.countP (fun h => h.deferred)

/-- READ_DEFERRED for a read without a result (R386, R387). -/
def deferRead (s : State) (h : HeldRead) : State :=
  let s := emit s (.pcieCompletion h.window 0 (List.replicate h.width 0xFF#8))
  if h.deferred then setHeld s h.id (fun h => some { h with attached := false })
  else if h.speculative then setHeld s h.id (fun _ => none)
  else if deferredCount s < 16 then
    let s := setHeld s h.id (fun h => some { h with attached := false, deferred := true })
    hbEventLimited (bump s Reg.HB_STAT_RD_DEFER.value) 3 h.window 1 (fun n => leBytes 4 h.offset ++ leBytes 4 n)
  else setHeld s h.id (fun h => some { h with attached := false, discard := true })

/-- The end of an AtomicOp through the bridge (R390, Table 15.5): its old value, or the failure. -/
def atomicResult (s : State) (id st : Nat) (x : Bytes) : State :=
  match s.hb.atomics.find? (fun a => a.id == id) with
  | none => s
  | some a =>
    let s := modHb s (fun b => { b with atomics := b.atomics.filter (fun y => y.id != id) })
    if st = 0 then emit s (.pcieCompletion a.window 0 (laneSwap a.lane a.offset (x.take a.width)))
    else
      let s := lastError s a.window true a.offset st
      let ca := completerStatus st = 4
      let s := if ca then bump s Reg.HB_STAT_ATOMIC_FAIL.value else s
      let s := if st = 9 ∨ st = 11 then
          raiseIn s Reg.HB_INT_STATUS.event 0 13 5 a.window (leBytes 4 a.offset ++ leBytes 2 st)
        else s
      emit s (.pcieCompletion a.window (completerStatus st) [])

/-- READ_DEFERRED (R386, R390): HB_RD_WAIT has passed for the read or the AtomicOp of this number. -/
def readWaitOver (id : Nat) (s : State) : State :=
  let expired := fun (since : Nat) => decide (since + rd s Reg.HB_RD_WAIT.us * us ≤ s.now)
  if s.hb.atomics.any (fun a => a.id == id && expired a.since) then atomicResult s id 11 []
  else
    match heldRead s id with
    | some h => if h.attached && h.waiting != 0 && expired h.since then deferRead s h else s
    | none => s

/-- A held result that no read has collected within 50 ms of its arrival discarded (R387). -/
def heldExpired (id : Nat) (s : State) : State :=
  match heldRead s id with
  | some h => if h.deferred && h.waiting == 0 && decide (h.arrived.getD s.now + 50 * ms ≤ s.now) then discardHeld s h else s
  | none => s

end Sys2Proof.Machine
end

