-- ==== Sys2Proof/Machine/Remote.lean ====
section
/-! DEFINITION. Remote register access at the initiator (R367–R374): requests and their tags, the outcomes of posted writes,
deferred-error records, fences, reads and the locked operations. -/

namespace Sys2Proof.Machine

/-- Whether a request is non-posted. -/
def RraOut.np (r : RraOut) : Bool := r.op != 0

/-- Outstanding posted writes, or non-posted requests, of initiator `i`. -/
def outstandingOf (s : State) (i : Nat) (np : Bool) : Nat := s.tf.outstanding.countP (fun r => r.init == i && r.np == np)

/-- The 18 payload bytes of a request or response (Table 14.9). -/
def rraBytes (r : Rra) : Bytes :=
  leBytes 1 r.op ++ leBytes 1 r.width ++ leBytes 1 r.be ++ zeros 1 ++ leBytes 4 r.offset ++ leBytes 8 r.data ++ leBytes 2 r.status

/-- An RRA frame of type `typ` to device `dst`. -/
def rraFrame (s : State) (typ dst : Nat) (r : Rra) : FabFrame :=
  { fabHeader s typ (rd s Reg.TF_CTRL.rra_class) dst (rraBytes r) with
    seq := r.tag, init := r.init, incarnation := incarnation s }

/-! ### Deferred errors and fences -/

/-- The deferred-error record of a posted write that ended with `st` (Table 14.10). -/
def derrBytes (s : State) (r : RraOut) (st : Nat) : Bytes :=
  leBytes 8 (dtNow s) ++ leBytes 2 r.tag ++ leBytes 1 r.init ++ leBytes 1 r.target ++ leBytes 2 st ++
    leBytes 1 (b2n s.tf.derrLost) ++ zeros 1 ++ leBytes 4 r.offset ++ leBytes 1 r.width ++ leBytes 1 r.be ++ zeros 2 ++
    leBytes 8 r.data

/-- DEFERRED_ERROR_STORE (R370). -/
def derrStore (s : State) (r : RraOut) (st : Nat) : State :=
  let put := rd s Reg.TF_DERR_PUT.put
  if (put + 1) % 256 = rd s Reg.TF_DERR_GET.get then
    let s := modTf (bump s Reg.TF_STAT_DERR_LOST.value) (fun g => { g with derrLost := true })
    raiseInLimited s Reg.TF_INT_STATUS.event 0 12 10 0xFFFF 0 1 (leBytes 4)
  else
    let x := leNat (derrBytes s r st)
    let s := modTf s (fun g => { g with derr := Tab.put g.derr put x, derrLost := false })
    let s := wr s Reg.TF_DERR_PUT.put ((put + 1) % 256)
    wr (bump s Reg.TF_STAT_DERR.value) Reg.TF_INT_STATUS.derr 1

/-- An outcome noted in every fence that waits for it; a fence with none left completes (R372). -/
def fenceOutcome (s : State) (r : RraOut) (failed : Bool) : State :=
  let fs := s.tf.fences.map (fun f =>
    if f.init = r.init ∧ f.target = r.target ∧ f.tags.contains r.tag then
      { f with tags := f.tags.filter (fun k => k != r.tag), failures := f.failures + b2n failed }
    else f)
  let s := modTf s (fun g => { g with fences := fs.filter (fun f => !f.tags.isEmpty) })
  (fs.filter (fun f => f.tags.isEmpty)).foldl (fun s f => sendReply s 0x5010 f.call stOk (leBytes 4 f.failures)) s

/-- The posted write `r` ends with `st`: acknowledged, or failed with its record (R369). -/
def postedOutcome (s : State) (r : RraOut) (st : Nat) : State :=
  let s := if st = 0 then s else derrStore s r st
  fenceOutcome s r (st != 0)

/-- The non-posted request `r` ends with `st` and a value (R373). -/
def npOutcome (s : State) (r : RraOut) (st v : Nat) : State :=
  match r.waiter with
  | .nothing => s
  | .windowRead id at_ => readResult s id at_ st r.be (leBytes r.width v)
  | .atomicOp id => atomicResult s id st (leBytes r.width v)
  | .command c => sendReply s 0x5011 c st (if st = 0 then leBytes 8 v else [])

/-- A request that ends with `st`, no longer outstanding. -/
def requestOutcome (s : State) (r : RraOut) (st v : Nat) : State :=
  if r.np then npOutcome s r st v else postedOutcome s r st

/-! ### Issuing -/

/-- A request issued: it takes its target's next tag, and its frame is sent (R367). A write removed on this device, and any
request without a route, fails FABRIC_UNREACHABLE (R369, R373). A TF_RRA write replies at this instant (R376). -/
def issueNow (s : State) (r : RraOut) : State :=
  let key := r.init * 64 + r.target
  let tag := Tab.get s.tf.nextTag key 0
  let posted := !r.np
  let s := modTf s (fun g => { g with nextTag := Tab.set g.nextTag key 0 ((tag + 1) % 65536) })
  let s := match posted, r.waiter with
    | true, .command c => sendReply s 0x5011 c stOk (zeros 8)
    | _, _ => s
  let r := { r with tag := tag, issued := s.now, waiter := if posted then .nothing else r.waiter }
  let f := rraFrame s 8 r.target ⟨tag, r.init, 0, r.op, r.width, r.be, r.offset, r.data, 0⟩
  let out := fun (s : State) => modTf s (fun g => { g with outstanding := g.outstanding ++ [r] })
  match fabSend s f with
  | (s, .ok) => out s
  | (s, .flushed) => if posted then requestOutcome s r stUnreachable 0 else out s
  | (s, .noRoute) => requestOutcome s r stUnreachable 0

/-- The first held request that may be issued: none passes an earlier write of its initiator, and a request of a class at its
limit waits (R367, R371, R389). -/
def nextHeld (s : State) : List RraOut → List RraOut → Option RraOut
  | _, [] => none
  | before, r :: rest =>
    let behind := before.any (fun b => b.init == r.init && (!b.np || r.np))
    let room := decide (outstandingOf s r.init r.np < if r.np then 64 else 1024)
    if room && !behind then some r else nextHeld s (before ++ [r]) rest

/-- The list without the first element equal to `a`. -/
def eraseFirst {α : Type} [DecidableEq α] (a : α) : List α → List α
  | [] => []
  | b :: l => if a = b then l else b :: eraseFirst a l

/-- Held requests issued while their limits allow. -/
def issueHeld : Nat → State → State
  | 0, s => s
  | fuel + 1, s =>
    match nextHeld s [] s.tf.held with
    | none => s
    | some r => issueHeld fuel (issueNow (modTf s (fun g => { g with held := eraseFirst r g.held })) r)

/-- Every held request that can be issued. -/
def issueAll (s : State) : State := issueHeld s.tf.held.length s

/-- A request handed to its initiator. -/
def issue (s : State) (r : RraOut) : State := issueAll (modTf s (fun g => { g with held := g.held ++ [r] }))

/-- A request of initiator `i`. -/
def request (i target op width be offset data : Nat) (w : RraFor) : RraOut where
  init := i
  target := target
  tag := 0
  op := op
  width := width
  be := be
  offset := offset
  data := data
  issued := 0
  waiter := w
  atomic := 0
  oper := 0
  compare := 0
  old := 0

/-! ### Responses -/

/-- The outstanding request of initiator `i` to `target` with this tag. -/
def outstandingAt (s : State) (i target tag : Nat) : Option RraOut :=
  s.tf.outstanding.find? (fun r => r.init == i && r.target == target && r.tag == tag)

/-- That request no longer outstanding. -/
def dropOutstanding (s : State) (r : RraOut) : State :=
  modTf s (fun g => { g with
    outstanding := g.outstanding.filter (fun x => !(x.init == r.init && x.target == r.target && x.tag == r.tag)) })

/-- The value a locked operation writes, or none where a CAS compares unequal (R374, R390): 2 FetchAdd modulo 2^width, 3 Swap,
4 CAS, whose `oper` is its swap value. -/
def atomicValue (kind width old oper compare : Nat) : Option Nat :=
  let m := 2 ^ (8 * width)
  if kind = 2 then some ((old + oper) % m)
  else if kind = 3 then some (oper % m)
  else if old % m = compare % m then some (oper % m)
  else none

/-- A completion with OK of the non-posted request `r`: a lock read is followed by the write-unlock or the unlock, whose
completion ends the operation with the old value (R374). -/
def npDone (s : State) (r : RraOut) (v : Nat) : State :=
  if r.op = 3 then
    match atomicValue r.atomic r.width v r.oper r.compare with
    | some x => issueNow s { r with op := 4, be := 2 ^ r.width - 1, data := x, old := v }
    | none => issueNow s { r with op := 5, data := 0, old := v }
  else if r.op = 4 ∨ r.op = 5 then npOutcome s r 0 r.old
  else npOutcome s r 0 v

/-- One tag answered with `st` and a value (R369, R373). -/
def tagAnswered (device : Nat) (r : Rra) (s : State) (tag : Nat) : State :=
  match outstandingAt s r.init device tag with
  | some q =>
    if q.op = r.op then
      let s := dropOutstanding s q
      if !q.np then postedOutcome s q r.status
      else if r.status = 0 then npDone s q (r.data % 2 ^ (8 * q.width))
      else npOutcome s q r.status 0
    else s
  | none =>
    if s.tf.fate.contains (r.init, device, tag) then
      bump (modTf s (fun g => { g with fate := g.fate.filter (fun x => x != (r.init, device, tag)) })) Reg.TF_STAT_LATE_RESP.value
    else s

/-- The tags a response answers, oldest first: for posted writes up to 32 consecutive ones that end at its own (Table 14.9). -/
def answeredTags (r : Rra) : List Nat :=
  let n := if r.op = 0 then min (max r.width 1) 32 else 1
  (List.range n).map (fun k => (r.tag + 65536 + k + 1 - n) % 65536)

/-- RRA_RESPONSE. -/
def rraResponseOp (device : Nat) (r : Rra) (s : State) : State :=
  issueAll ((answeredTags r).foldl (tagAnswered device r) s)

def execRraResponse (t : Nat) (device : Fin 64) (r : Rra) (s : State) : Host.Outcome State Fault Refusal :=
  running t s <|
  done (rraResponseOp device.val r (arrive t s))

/-- The response to a request that a deferred read waits for (R387). -/
def deferredArrival (device : Nat) (r : Rra) (s : State) : State :=
  let deferred := match (outstandingAt s r.init device r.tag).map RraOut.waiter with
    | some (.windowRead id _) => ((heldRead s id).map HeldRead.deferred).getD false
    | _ => false
  if deferred then rraResponseOp device r s else s

/-- DEFERRED_RESULT_ARRIVAL (R387). -/
def execDeferredResultArrival (t : Nat) (device : Fin 64) (r : Rra) (s : State) : Host.Outcome State Fault Refusal :=
  running t s <|
  done (deferredArrival device.val r (arrive t s))

/-! ### Timeouts -/

/-- An outstanding request whose fate is not known (R365, R369, R373). -/
def fateUnknown (s : State) (r : RraOut) : State :=
  let s := modTf (dropOutstanding s r) (fun g => { g with fate := g.fate ++ [(r.init, r.target, r.tag)] })
  requestOutcome s r stFateUnknown 0

/-- A posted write without a response for TF_ACK_TO: its fate is unknown (R369). -/
def postedTimeout (init target tag : Nat) (s : State) : State :=
  match outstandingAt s init target tag with
  | some r => if !r.np && decide (r.issued + rd s Reg.TF_ACK_TO.us * us ≤ s.now) then issueAll (fateUnknown s r) else s
  | none => s

/-- POSTED_WRITE_TIMEOUT (R369). -/
def execPostedWriteTimeout (t : Nat) (init : Fin 4) (target : Fin 64) (tag : Fin 65536) (s : State) :
    Host.Outcome State Fault Refusal :=
  running t s <|
  done (postedTimeout init.val target.val tag.val (arrive t s))

/-- A non-posted request without a completion for TF_NP_TO, only while a route exists (R373). -/
def npTimeoutOp (init target tag : Nat) (s : State) : State :=
  match outstandingAt s init target tag with
  | some r =>
    if r.np && reachable s target && decide (r.issued + rd s Reg.TF_NP_TO.us * us ≤ s.now) then
      issueAll (npOutcome (dropOutstanding s r) r stTimeout 0)
    else s
  | none => s

/-- NP_TIMEOUT (R373). -/
def execNpTimeout (t : Nat) (init : Fin 4) (target : Fin 64) (tag : Fin 65536) (s : State) :
    Host.Outcome State Fault Refusal :=
  running t s <|
  done (npTimeoutOp init.val target.val tag.val (arrive t s))

/-- A destination unreachable for TF_LINK_TO: what is outstanding to it has an unknown fate (R365). -/
def unreachableTimeout (device : Nat) (s : State) : State :=
  match Tab.find s.tf.unreachableSince device with
  | some since =>
    if !reachable s device && decide (since + rd s Reg.TF_LINK_TO.ms * ms ≤ s.now) then
      issueAll ((s.tf.outstanding.filter (fun r => r.target == device)).foldl fateUnknown s)
    else s
  | none => s

/-- DESTINATION_UNREACHABLE_TIMEOUT (R365). -/
def execDestinationUnreachableTimeout (t : Nat) (device : Fin 64) (s : State) : Host.Outcome State Fault Refusal :=
  running t s <|
  done (unreachableTimeout device.val (arrive t s))

/-! ### Commands -/

/-- TF_FENCE (R372, R376). -/
def opFence (c : Call) (p : Bytes) (s : State) : CmdAnswer :=
  if p.length ≠ 4 then fail s stBadLength
  else
    let target := byteAt p 0
    let init := byteAt p 1
    if leAt p 2 2 ≠ 0 ∨ target = 0 ∨ 63 < target ∨ target = ownId s ∨ 3 < init then fail s stBadParam
    else
      let tags := (s.tf.outstanding.filter (fun r => !r.np && r.init == init && r.target == target)).map (fun r => r.tag)
      if tags.isEmpty then okay s (leBytes 4 0)
      else (modTf s (fun g => { g with fences := g.fences ++ [⟨init, target, tags, 0, c⟩] }), none)

/-- TF_FENCE. -/
def execTfFence (t : Nat) (c : Call) (p : Bytes) (s : State) : Host.Outcome State Fault Refusal :=
  commandRow t 0x5010 c p s (fun s => answer 0x5010 c (opFence c p s))

/-- TF_RRA (R367, R376): initiator 1. The command is put among those without a reply before its request is issued, so that a
request that ends at its issue replies in the same way. -/
def opRra (c : Call) (p : Bytes) (s : State) : CmdAnswer :=
  if p.length ≠ 24 then fail s stBadLength
  else
    let device := byteAt p 0
    let op := byteAt p 1
    let width := byteAt p 2
    if device = 0 ∨ 63 < device ∨ 4 < op ∨ (width ≠ 4 ∧ width ≠ 8) then fail s stBadParam
    else if device = ownId s then fail s stUnreachable
    else
      let q := request 1 device (if op = 0 then 0 else if op = 1 then 1 else 3) width (byteAt p 3) (leAt p 4 4) (leAt p 8 8)
        (.command c)
      (issue s (if op < 2 then q else { q with data := 0, atomic := op, oper := leAt p 8 8, compare := leAt p 16 8 }), none)

/-- A long command whose own operation may already have replied: it stands among the long commands only while it waits. -/
def longAnswer (op : Nat) (c : Call) (s : State) (run : State → CmdAnswer) : State :=
  let s := { s with cmd := { s.cmd with long := s.cmd.long ++ [⟨op, c, s.now⟩] } }
  match run s with
  | (s, some (st, result)) => sendReply s op c st result
  | (s, none) => s

/-- TF_RRA. -/
def execTfRra (t : Nat) (c : Call) (p : Bytes) (s : State) : Host.Outcome State Fault Refusal :=
  commandRow t 0x5011 c p s (fun s => longAnswer 0x5011 c s (opRra c p))

end Sys2Proof.Machine
end

