-- ==== Sys2Proof/Machine/Power.lean ====
section
/-! DEFINITION. The wake die (chapter 17): transceivers and their supplies, wakes, sleep groups and their network management,
the schedule, and the device's power states. -/

namespace Sys2Proof.Machine

/-! ### Groups, schedule and events -/

/-- The wake die changed by `f`. -/
def modWk (s : State) (f : WkState → WkState) : State := { s with wk := f s.wk }

/-- A group that is disabled. -/
def WkGroup.blank : WkGroup := ⟨0, 0, [], false, none, [], 0, none, 0xFF, 0⟩

/-- Group `g`. -/
def grpAt (s : State) (g : Nat) : WkGroup := Tab.get s.wk.groups g WkGroup.blank

/-- Group `g` changed. -/
def modGrp (s : State) (g : Nat) (f : WkGroup → WkGroup) : State :=
  modWk s (fun w => { w with groups := Tab.put w.groups g (f (Tab.get w.groups g WkGroup.blank)) })

/-- The channels WK_CH_CFG places in group `g` (R430). -/
def configured (s : State) (g : Nat) : List Nat := (List.range 64).filter (fun n => rd s Reg.WK_CH_CFG.group n == g)

/-- The enabled group channel `n` is a member of, as its latest state change found it (R430). -/
def groupOf (s : State) (n : Nat) : Option Nat :=
  (List.range 16).find? (fun g => (grpAt s g).state != 0 && (grpAt s g).members.contains n)

/-- A WK event (Table 17.8): raised, or held for delivery after the return while the core die is off (R445). -/
def wkEvent (s : State) (code inst : Nat) (data : Bytes) : State :=
  if coreOn s then raiseIn s Reg.WK_INT_STATUS.event 0 15 code inst data
  else holdEvent s 15 code inst data

/-- The held events delivered (R445). -/
def deliverHeld (s : State) : State :=
  s.wk.heldEvents.foldl (fun s e =>
    let s := if e.source = 15 then setBitF s Reg.WK_INT_STATUS.event (e.code - 1)
      else if e.source = 16 then setBitF s Reg.BT_INT_STATUS.event (e.code - 1)
      else if e.source = 1 then setBitF s Reg.SYS_INT_STATUS.event (e.code - 1)
      else if e.source = 19 then setBitF s Reg.LR_INT_STATUS.event (e.code - 1)
      else setBitF s Reg.LC_INT_STATUS.event (e.code - 1)
    offerEvent 5 true e s) (modWk s (fun w => { w with heldEvents := [] }))

/-- Whether device NM and wake processing of group `g` runs: the group enabled and WK_CTRL.en set. -/
def grpRuns (s : State) (g : Nat) : Bool := rdB s Reg.WK_CTRL.en && (grpAt s g).state != 0

/-! ### Transceivers, INH and STB (R421–R424) -/

/-- The state of channel `n`'s transceiver or STB output, in the encoding of WK_CH_STATUS.xcvr (R422, R424). -/
def xcvrOf (s : State) (n : Nat) : Nat :=
  let st := powerState s
  let asleep := (groupOf s n).bind (fun g => if (grpAt s g).state = 4 then some g else none)
  if n < 32 then
    if st = 4 then 3
    else
      match asleep with
      | some g => if rdB s Reg.WK_GRP_CFG.xcvr_sleep g then 3 else 2
      | none =>
        if (st = 2 ∨ st = 3) ∧ (groupOf s n).isNone then 2
        else if rd s Reg.CAN_STATUS.mode_eff n = 0 ∨ rd s Reg.CAN_STATUS.mode_eff n = 3 then 1
        else 0
  else if !s.wk.stbFree || asleep.isSome || ((groupOf s n).isNone && decide (2 ≤ st)) || st == 4 then 4
  else 5

/-- Whether wake detection is armed on channel `n`: the pattern from the commit instant, selective wake from the PREPARE
entry, nothing in Hibernate (R422, R434). -/
def armedOf (s : State) (n : Nat) : Bool :=
  match groupOf s n with
  | none => false
  | some g =>
    let st := (grpAt s g).state
    let swk := rdB s Reg.WK_CH_CFG.swk_en n
    decide (n < 32) && powerState s != 4 &&
      ((st == 4 && (swk || rdB s Reg.WK_CH_CFG.wup_en n)) || (st == 3 && swk))

/-- Whether INHk is asserted: released in Standby and Hibernate only, until the recognition of the wake that ends them (R423). -/
def inhAsserted (s : State) (k : Nat) : Bool :=
  let mapped := (List.range 32).filter (bitSet (rd s Reg.WK_INH_CHANS.chans k))
  !s.bt.vbatLow &&
  !(s.wk.ret.isNone && (powerState s == 3 && rdB s Reg.WK_INH_CTRL.rel_stby k && mapped.all (fun n => xcvrOf s n == 3) ||
    powerState s == 4 && rdB s Reg.WK_INH_CTRL.rel_hib k))

/-- DOMINANT_TIMEOUT (R422): of a channel whose transmitter is on. -/
def dominantOp (n : Nat) (recessive : Bool) (s : State) : State :=
  if recessive then wr s Reg.WK_CH_STATUS.dom_to 0 n
  else if xcvrOf s n ≠ 0 ∨ rdB s Reg.WK_CH_STATUS.dom_to n then s
  else
    let s := bump (wr s Reg.WK_CH_STATUS.dom_to 1 n) Reg.WK_STAT_DOM_TO.value
    raiseInLimited s Reg.WK_INT_STATUS.event 0 15 10 n n 1 (leBytes 4)

/-! ### Network management frames (R433) -/

/-- The device's NM element for group `g`. -/
def nmElem (s : State) (g : Nat) : Bytes :=
  let data := putBytes (leBytes 8 (rd s Reg.WK_GRP_NM_DATA.data g)) (rd s Reg.WK_GRP_CFG.nid_byte g)
    (leBytes 1 (rd s Reg.WK_GRP_CFG.node_id g))
  leBytes 4 (rd s Reg.WK_GRP_NM_ID.id g + rd s Reg.WK_GRP_CFG.nm_xtd g * 2 ^ 29) ++ leBytes 4 8 ++ zeros 4 ++ leBytes 4 8 ++
    zeros 8 ++ leBytes 2 0xFFFF ++ zeros 6 ++ data

/-- A device NM frame enqueued on channel `n`, or refused. -/
def nmEnqueue (g : Nat) (s : State) (n : Nat) : State :=
  let refused := fun (st : Nat) =>
    raiseInLimited (bump s Reg.WK_STAT_NM_FAIL.value) Reg.WK_INT_STATUS.event 0 15 11 n n 1
      (fun k => leBytes 2 st ++ leBytes 4 k)
  if canMode s n = 0 ∨ (canCh s n).unchecked then refused stDenied
  else
    match freeHostSlot s n with
    | none => refused stNoSpace
    | some k => bump (requestElem s n k (padTo (32 + dataSize (partOf s n).txSize) (nmElem s g))) Reg.WK_STAT_NM_TX.value

/-- A device NM frame on every member channel; never while the group is in SLEEP. -/
def nmSend (s : State) (g : Nat) : State :=
  if (grpAt s g).state = 4 then s else (grpAt s g).members.foldl (nmEnqueue g) s

/-! ### Watches (R437) -/

/-- The node a watch would be on: the only requesting node of a READY group with no local request and no wake hold. -/
def watchable (x : WkGroup) : Option WkNode :=
  match x.state, x.local_, x.holdEnd, x.nodes with
  | 2, false, none, [n] => some n
  | _, _, _, _ => none

/-- How a watch on `node` ends in group `x`: 0 released, 1 another node, 2 a local request or wake hold. -/
def watchEnd (x : WkGroup) (node : Nat) : Nat :=
  if x.local_ || x.holdEnd.isSome then 2 else if x.nodes.any (fun n => n.node == node) then 1 else 0

/-- The watch of group `g` brought up to its nodes, request and hold; the end of an offender's watch is reported. -/
def syncWatch (s : State) (g : Nat) : State :=
  let x := grpAt s g
  let now := watchable x
  match x.watch with
  | some (n, since, offender) =>
    if now.map WkNode.node = some n.node then
      modGrp s g (fun x => { x with watch := (now.map (fun m => (m, since, offender))) })
    else
      let s := modGrp s g (fun x => { x with watch := now.map (fun m => (m, s.now, false)) })
      if offender then
        let held := (s.now - since) / ms
        let s := wkEvent s 8 g (leBytes 1 n.channel ++ leBytes 1 n.node ++ leBytes 4 held ++ leBytes 1 (watchEnd x n.node))
        logOffender (bump s Reg.WK_STAT_OFFENDER.value) n.channel g n.node held
      else s
  | none => modGrp s g (fun x => { x with watch := now.map (fun m => (m, s.now, false)) })

/-! ### Group states (R430–R436) -/

/-- Group `g` enters state `st`; the change finds its members anew (R430). -/
def grpEnter (s : State) (g st : Nat) : State :=
  let ms_ := configured s g
  modGrp s g (fun x => { x with state := st, since := s.now, members := ms_ })

/-- Cloak lifted from channel `n`, its group having left SLEEP (R95, R436). -/
def uncloak (s : State) (n : Nat) : State :=
  if powerState s < 3 then cloakLeave s n else wr s Reg.CAN_STATUS.cloak 0 n

/-- The sleep commit of group `g` (R434). -/
def commitSleep (s : State) (g : Nat) : State :=
  let s := grpEnter s g 4
  let m := (grpAt s g).members
  let s := m.foldl (fun s n => cloakEnter s n g) s
  let mask := (m.map (fun n => 2 ^ n)).sum
  wkEvent (bump s Reg.WK_STAT_SLEEP.value) 1 g (leBytes 1 (if rdB s Reg.WK_GRP_CFG.xcvr_sleep g then 3 else 2) ++ leBytes 8 mask)

/-- READY left for PREPARE where nothing holds the group; a prepare time of 0 commits at once (R432, R434). -/
def settleGroup (s : State) (g : Nat) : State :=
  let s := syncWatch s g
  let x := grpAt s g
  if grpRuns s g && x.state == 2 && x.nodes.isEmpty && x.holdEnd.isNone then
    let s := syncWatch (grpEnter s g 3) g
    if rd s Reg.WK_GRP_TIMERS2.prepare_ms g = 0 then commitSleep s g else s
  else s

/-- A wake hold of nm_timeout_ms started. -/
def startHold (s : State) (g : Nat) : State :=
  modGrp s g (fun x => { x with holdEnd := some (s.now + rd s Reg.WK_GRP_TIMERS1.nm_timeout_ms g * ms) })

/-- The last wake source of group `g`: a code of Table 17.7; an NM frame (12) and a local request (13) are none. -/
def noteSource (s : State) (g src : Nat) : State :=
  if src < 12 then modGrp s g (fun x => { x with lastSrc := src }) else s

/-- Group `g` leaves SLEEP at a wake of `src` on `ch`: to AWAKE on a local request, to READY with a wake hold otherwise
(R432, R435). -/
def leaveSleep (s : State) (g src ch : Nat) : State :=
  let x := grpAt s g
  let slept := (s.now - x.since) / ms
  let s := x.members.foldl uncloak s
  let s := noteSource s g src
  let s := if x.local_ then modGrp (grpEnter s g 1) g (fun x => { x with nextNm := s.now + rd s Reg.WK_GRP_TIMERS1.nm_period_ms g * ms })
    else startHold (grpEnter s g 2) g
  let s := if x.local_ && rdB s Reg.WK_GRP_CFG.nm_tx g then nmSend s g else s
  syncWatch (wkEvent s 2 g (leBytes 1 src ++ leBytes 1 ch ++ leBytes 4 slept)) g

/-- The sleep of group `g` in PREPARE aborted (R435). For an NM frame (cause 12) the sending node is requesting already; for
any other cause but a local request (13) a wake hold starts. -/
def abortSleep (s : State) (g cause node ch : Nat) : State :=
  let s := noteSource s g cause
  let s := if cause = 13 then modGrp (grpEnter s g 1) g (fun x => { x with nextNm := s.now + rd s Reg.WK_GRP_TIMERS1.nm_period_ms g * ms })
    else if cause = 12 then grpEnter s g 2
    else startHold (grpEnter s g 2) g
  let s := nmSend (bump s Reg.WK_STAT_ABORT.value) g
  syncWatch (wkEvent s 3 g (leBytes 1 cause ++ leBytes 1 node ++ leBytes 1 ch)) g

/-- An NM frame of node `node` heard on member channel `n` of group `g` (R431, R435). -/
def nmHeard (n node : Nat) (s : State) (g : Nat) : State :=
  let until_ := s.now + rd s Reg.WK_GRP_TIMERS1.nm_timeout_ms g * ms
  let was := (grpAt s g).state
  let s := modGrp s g (fun x => { x with
    nodes := x.nodes.filter (fun m => m.node != node) ++ [⟨node, n, until_⟩]
    seen := orBit x.seen node })
  if was = 3 && rdB s Reg.WK_CTRL.en then abortSleep s g 12 node n else syncWatch s g

/-- Whether frame `f` is an NM frame of group `g` (R431). -/
def isNmFrame (s : State) (g : Nat) (f : CanFrame) : Bool :=
  let mask := rd s Reg.WK_GRP_NM_MASK.mask g
  f.xtd == rdB s Reg.WK_GRP_CFG.nm_xtd g && (f.id &&& mask) == (rd s Reg.WK_GRP_NM_ID.id g &&& mask) &&
    decide (rd s Reg.WK_GRP_CFG.nid_byte g < f.data.length)

/-- An accepted frame offered to its channel's group. -/
def nmOffer (n : Nat) (f : CanFrame) (s : State) : State :=
  match groupOf s n with
  | some g => if isNmFrame s g f then nmHeard n (byteAt f.data (rd s Reg.WK_GRP_CFG.nid_byte g)) s g else s
  | none => s

/-- CAN_FRAME_ACCEPTED (R104, R144, R431). -/
def frameAcceptedOp (n : Nat) (rx : CanRx) (s : State) : State :=
  let heard := heardFrame s n rx
  let s := withGatewayErrors rx.gateway (fun s => serveAll (frameAccepted n rx s)) s
  if heard then nmOffer n rx.frame s else s

def execCanFrameAccepted (t : Nat) (ch : Fin 64) (rx : CanRx) (s : State) : Host.Outcome State Fault Refusal :=
  done (frameAcceptedOp ch.val rx (arrive t s))

/-- NM_TIMEOUT (R431). -/
def nmTimeoutOp (g node : Nat) (s : State) : State :=
  if (grpAt s g).nodes.any (fun m => m.node == node && decide (m.until_ ≤ s.now)) then
    settleGroup (modGrp s g (fun x => { x with nodes := x.nodes.filter (fun m => m.node != node) })) g
  else s

/-- NM_PERIOD (R433). -/
def nmPeriodOp (g : Nat) (s : State) : State :=
  let x := grpAt s g
  if grpRuns s g && x.state == 1 && rdB s Reg.WK_GRP_CFG.nm_tx g && decide (x.nextNm ≤ s.now) then
    let s := modGrp s g (fun x => { x with nextNm := x.nextNm + rd s Reg.WK_GRP_TIMERS1.nm_period_ms g * ms })
    nmSend s g
  else s

/-- WAKE_HOLD_EXPIRED (R432). -/
def holdExpiredOp (g : Nat) (s : State) : State :=
  match (grpAt s g).holdEnd with
  | some e => if e ≤ s.now then settleGroup (modGrp s g (fun x => { x with holdEnd := none })) g else s
  | none => s

/-- SLEEP_COMMIT (R434). -/
def sleepCommitOp (g : Nat) (s : State) : State :=
  let x := grpAt s g
  if grpRuns s g && x.state == 3 && decide (x.since + rd s Reg.WK_GRP_TIMERS2.prepare_ms g * ms ≤ s.now) then commitSleep s g
  else s

/-- KEEP_AWAKE_OFFENDER (R437). -/
def offenderOp (g : Nat) (s : State) : State :=
  match (grpAt s g).watch with
  | some (n, since, false) =>
    if since + rd s Reg.WK_GRP_TIMERS2.keep_awake_ms g * ms ≤ s.now then
      let s := modGrp s g (fun x => { x with watch := some (n, since, true) })
      wkEvent s 7 g (leBytes 1 n.channel ++ leBytes 1 n.node ++ leBytes 4 ((s.now - since) / ms))
    else s
  | _ => s

/-- Group `g` brought to its local request (R432): AWAKE where it is set, READY where AWAKE is left. -/
def syncLocal (s : State) (g : Nat) : State :=
  let x := grpAt s g
  if !grpRuns s g then s
  else if !x.local_ then settleGroup (if x.state = 1 then grpEnter s g 2 else s) g
  else
    match x.state with
    | 1 => s
    | 3 => abortSleep (drawn (drawn s)) g 13 (freeIn s 0 255) (freeIn (drawn s) 0 255)
    | 4 => bump (leaveSleep (drawn s) g 13 (freeIn s 0 255)) Reg.WK_STAT_WAKE.value
    | _ =>
      let s := modGrp (grpEnter s g 1) g (fun x => { x with nextNm := s.now + rd s Reg.WK_GRP_TIMERS1.nm_period_ms g * ms })
      syncWatch (if rdB s Reg.WK_GRP_CFG.nm_tx g then nmSend s g else s) g

/-- WK_GRP_CFG.en changed: an enabled group starts READY, a disabled one leaves every state (R430). -/
def grpConfigured (s : State) (g : Nat) : State :=
  let x := grpAt s g
  if rdB s Reg.WK_GRP_CFG.en g then
    if x.state = 0 then
      settleGroup (grpEnter (modGrp s g (fun _ => { WkGroup.blank with lastSrc := x.lastSrc })) g 2) g
    else s
  else if x.state = 0 then s
  else
    let s := if x.state = 4 then x.members.foldl uncloak s else s
    modGrp s g (fun x => { WkGroup.blank with lastSrc := x.lastSrc })

/-! ### The schedule (R440, R441) -/

/-- The earliest occurrence of an entry after DT `now`. -/
def WkSched.next (e : WkSched) (now : Nat) : Option Nat :=
  if !e.valid then none
  else if now < e.first then some e.first
  else if e.period = 0 then none
  else some (e.first + ((now - e.first) / (e.period * ms) + 1) * (e.period * ms))

/-- The latest occurrence of an entry at or before DT `now`. -/
def WkSched.last (e : WkSched) (now : Nat) : Option Nat :=
  if !e.valid || decide (now < e.first) then none
  else if e.period = 0 then some e.first
  else some (e.first + (now - e.first) / (e.period * ms) * (e.period * ms))

/-- Schedule entry `i`. -/
def schedAt (s : State) (i : Nat) : WkSched := Tab.get s.wk.sched i ⟨false, 0, 0, 0⟩

/-- Δ in ns: the earliest next occurrence less the current DT, none for unbounded. -/
def deltaNs (s : State) : Option Nat :=
  let now := wakeDt s
  let occ := (List.range 16).filterMap (fun i => (schedAt s i).next now)
  match occ with
  | [] => none
  | o :: os => some (os.foldl min o - now)

/-- Whether an entry's hold keeps the device from being eligible. -/
def inHold (s : State) : Bool :=
  let now := wakeDt s
  (List.range 16).any (fun i =>
    match (schedAt s i).last now with
    | some o => decide (now < o + (schedAt s i).hold * ms)
    | none => false)

/-- The lead of a return from power state `st` for an occurrence at DT `o`, in ns, a whole number of µs (R441); from an entry in
progress, as if it switched off now. -/
def leadNs (s : State) (st o : Nat) : Nat :=
  let off := if s.wk.entry.isSome then wakeDt s else s.wk.offDt
  let drift := ceilDiv ((o - off) * rd s Reg.DT_AON_DRIFT_BOUND.ppb) sec
  let x := if st = 2 then 410 * us else if st = 3 then 38 * ms + 30518 + drift else 60 * ms + 30518 + drift
  ceilDiv x us * us

/-! ### Wakes (R425, R429, R443–R445) -/

/-- A wake counted once, under its source (R445). -/
def countWake (s : State) (src : Nat) : State :=
  modWk (bump (lifeCount s Life.wakes src) Reg.WK_STAT_WAKE.value) (fun w => { w with counted := some (s.now, src) })

/-- A source recognised at the instant of a wake already counted: the lowest code counts (R445). -/
def countLower (s : State) (src : Nat) : State :=
  match s.wk.counted with
  | some (at_, code) =>
    if at_ = s.now ∧ src < code then
      modWk (lifeCount (lifeUncount s Life.wakes code) Life.wakes src) (fun w => { w with counted := some (at_, src) })
    else s
  | none => s

/-- A source recognised: latched in WK_WAKE_SRC (R425). -/
def latchWake (s : State) (src : Nat) : State := setBitF s Reg.WK_WAKE_SRC.src src

/-- The wake of a group at its recognition: out of SLEEP, or the abort of its sleep; tells whether it left SLEEP. A value of
an event the spec does not state for this source is a free one. -/
def wakeGroup (s : State) (src g ch : Nat) : State × Bool :=
  let x := grpAt s g
  if !grpRuns s g then (s, false)
  else if x.state = 4 then (leaveSleep s g src ch, true)
  else if x.state = 3 then (abortSleep (drawn s) g src (freeIn s 0 255) ch, false)
  else (s, false)

/-- The device's part of a wake: an entry in progress abandoned, or the return from a low-power state started; tells whether
either happened (R443). -/
def wakeDevice (s : State) (src : Nat) (occurrence : Option (Nat × Nat)) : State × Bool :=
  match s.wk.entry with
  | some st =>
    let s := modWk s (fun w => { w with entry := none })
    let s := wr (lifeSettle s) Reg.WK_STATUS.state 0
    let s := bump (wr s Reg.WK_WAKE_SRC.entry_wake 1) Reg.WK_STAT_ENTRY_ABORT.value
    (wkEvent s 4 0xFFFF (leBytes 1 st ++ leBytes 1 src ++ leBytes 1 0), true)
  | none =>
    if powerState s < 2 || s.wk.ret.isSome then (s, false)
    else
      let st := powerState s
      let s := modWk s (fun w => { w with ret := some ⟨src, s.now, occurrence⟩ })
      let s := wr s Reg.WK_WAKE_SRC.entry_wake 1
      (wkEvent s 4 0xFFFF (leBytes 1 st ++ leBytes 1 src ++ leBytes 1 1), true)

/-- A wake recognised: `group` is the group it wakes with the channel, `device` whether it wakes the device in its present
state (Table 17.7). -/
def recognise (s : State) (src : Nat) (group : Option (Nat × Nat)) (device : Bool) (occurrence : Option (Nat × Nat)) : State :=
  let s := wr (latchWake s src) Reg.WK_STATUS.last_src src
  let (s, left) := match group with
    | some (g, ch) => wakeGroup s src g ch
    | none => (s, false)
  let (s, dev) := if device then wakeDevice s src occurrence else (s, false)
  if left || dev then countWake s src else if device || group.isSome then countLower s src else s

/-- The states of Table 17.7 in which a source wakes the device: an entry in progress, or a state from Doze to `deepest`. -/
def wakesDevice (s : State) (deepest : Nat) : Bool :=
  s.wk.entry.isSome || (decide (2 ≤ powerState s) && decide (powerState s ≤ deepest))

/-- BUS_WAKE_PATTERN (R426). -/
def wupOp (n : Nat) (s : State) : State :=
  match groupOf s n with
  | some g =>
    if armedOf s n && !rdB s Reg.WK_CH_CFG.swk_en n && (grpAt s g).state == 4 then
      recognise s 0 (some (g, n)) (wakesDevice s 3) none
    else s
  | none => s

/-- Whether a frame is a wake-up frame of channel `n` (R427). -/
def isWuf (s : State) (n : Nat) (f : SwkFrame) : Bool :=
  let mask := rd s Reg.WK_SWK_MASK.mask n
  let care := leBytes 8 (rd s Reg.WK_SWK_DATA.mask n)
  let data := f.data.take (min f.dlc 8)
  !f.rtr && f.xtd == rdB s Reg.WK_CH_CFG.xtd n && (f.id &&& mask) == (rd s Reg.WK_SWK_ID.id n &&& mask) &&
    (!rdB s Reg.WK_CH_CFG.dlc_en n || f.dlc == rd s Reg.WK_CH_CFG.dlc n) &&
    (leNat care == 0 || (List.range data.length).any (fun k => (byteAt care k &&& byteAt data k) != 0))

/-- The capture of a wake-up frame (R427). -/
def captureWuf (s : State) (n : Nat) (f : SwkFrame) : State :=
  let s := wr (wr s Reg.WK_WAKE_REC.channel n) Reg.WK_WAKE_REC.xtd (b2n f.xtd)
  let s := wr (wr s Reg.WK_WAKE_REC.valid 1) Reg.WK_WAKE_REC.dlc f.dlc
  wr (wr s Reg.WK_WAKE_ID.id f.id) Reg.WK_WAKE_DATA.data (leAt f.data 0 8)

/-- SWK_DECODED_FRAME (R427, R428). -/
def swkOp (n : Nat) (f : SwkFrame) (s : State) : State :=
  match groupOf s n with
  | none => s
  | some g =>
    let fec := rd s Reg.WK_CH_STATUS.fec n
    if !armedOf s n || !rdB s Reg.WK_CH_CFG.swk_en n then s
    else if f.fd && rdB s Reg.WK_CH_CFG.fd_tol n then s
    else if f.fd || f.error then
      if rd s Reg.WK_CH_CFG.fec_thresh n ≤ fec then
        let s := wr (wr s Reg.WK_CH_STATUS.fec 0 n) Reg.WK_WAKE_REC.valid 0
        let s := wkEvent (bump s Reg.WK_STAT_FEC_WAKE.value) 9 n (leBytes 1 (rd s Reg.WK_CH_CFG.fec_thresh n))
        recognise s 1 (some (g, n)) (wakesDevice s 3) none
      else wr s Reg.WK_CH_STATUS.fec (fec + 1) n
    else
      let s := wr s Reg.WK_CH_STATUS.fec (fec - 1) n
      if isWuf s n f then recognise (captureWuf s n f) 1 (some (g, n)) (wakesDevice s 3) none else s

/-- WAKE_PIN (R429): the new level, and the wake at the selected edge. Which channel a pin names in an event is free. -/
def wakePinOp (k : Nat) (level : Bool) (s : State) : State :=
  let was := rdB s Reg.WK_PIN_CFG.level k
  let s := wr s Reg.WK_PIN_CFG.level (b2n level) k
  if was == level || !rdB s Reg.WK_PIN_CFG.en k || level != rdB s Reg.WK_PIN_CFG.edge k then s
  else
    let group := if rdB s Reg.WK_PIN_CFG.grp_en k then some (rd s Reg.WK_PIN_CFG.group k, freeIn s 0 255) else none
    recognise (drawn s) (2 + k) group (wakesDevice s 4) none

/-- PCIE_WAKE (R429): link activity or a PERST_N edge in Doze, the rising edge of PERST_N in Standby. -/
def pcieWakeOp (kind : Nat) (s : State) : State :=
  if s.wk.entry.isSome || powerState s == 2 || (powerState s == 3 && kind == 2) then recognise s 7 none true none else s

/-- ETHERNET_SIGNAL_WAKE (R429). -/
def ethWakeOp (port : Nat) (s : State) : State :=
  if s.wk.entry.isSome || (powerState s == 2 && bitSet s.wk.upPorts port) then recognise s 9 none true none else s

/-- TYETH_SIGNAL_WAKE (R429). -/
def tlWakeOp (s : State) : State :=
  if s.wk.entry.isSome || powerState s == 2 then recognise s 10 none true none else s

/-- DEBUG_TCK_WAKE (R429): in Doze, outside FIELD. -/
def tckWakeOp (s : State) : State :=
  if (s.wk.entry.isSome || powerState s == 2) && rd s Reg.LC_STATUS.state != 2 then recognise s 11 none true none else s

/-- The DT to the ns, of which the wake die counts whole ticks: what a return's start is timed by (R441's worked example; DEDUCED,
assumption 55). -/
def elapsedDt (s : State) : Nat :=
  match s.dt.captured with
  | none => dtNow s
  | some c => c.dt + (s.now - c.at_)

/-- SCHEDULE_WAKE (R441). -/
def scheduleWakeOp (i : Nat) (s : State) : State :=
  let st := s.wk.entry.getD (powerState s)
  match (schedAt s i).next (wakeDt s) with
  | some o => if 2 ≤ st ∧ o ≤ elapsedDt s + leadNs s st o then recognise s 6 none true (some (i, o)) else s
  | none => s

/-- SCHEDULE_HOLD_END (R441): a one-shot entry becomes not valid. -/
def holdEndOp (i : Nat) (s : State) : State :=
  let e := schedAt s i
  match e.last (wakeDt s) with
  | some o =>
    if e.period = 0 ∧ o + e.hold * ms ≤ wakeDt s then
      modWk s (fun w => { w with sched := Tab.put w.sched i { e with valid := false } })
    else s
  | none => s

/-! ### Device power states (R438–R443) -/

/-- Whether the device is eligible for Doze and deeper states (R439). -/
def lowPowerEligible (s : State) : Bool :=
  let asleep := fun (n : Nat) => match groupOf s n with
    | some g => (grpAt s g).state == 4
    | none => false
  rdB s Reg.WK_CTRL.lp_en && coreOn s &&
    (List.range 64).all (fun n => canMode s n == 0 || asleep n) &&
    ((List.range 12).all (fun p => !rdB s Reg.ETH_STATUS.en_eff p) || rdB s Reg.WK_PWR_CFG.eth_ok) &&
    ((List.range 4).all (fun l => tlState s l != 3) || rdB s Reg.WK_PWR_CFG.tl_ok) &&
    (!rdB s Reg.HB_STATUS.link || rdB s Reg.WK_PWR_CFG.pcie_ok) &&
    s.cmd.long.isEmpty && s.cmd.held.isEmpty &&
    s.pe.engines.all (fun e => !e.2.halted) && s.lc.cps.all (fun c => !c.2.halted) &&
    rd s Reg.LC_STATUS.level == 0 && !inHold s

/-- The state Table 17.4 chooses for Δ: 1 Idle, 2 Doze, 3 Standby, 4 Hibernate. -/
def tableChoice (s : State) : Nat :=
  let under := fun (ns : Nat) => match deltaNs s with
    | some d => decide (d < ns)
    | none => false
  let armedMember := (List.range 16).any (fun g => (grpAt s g).state == 4 &&
    (grpAt s g).members.any (fun n => decide (n < 32) && (rdB s Reg.WK_CH_CFG.wup_en n || rdB s Reg.WK_CH_CFG.swk_en n)))
  if under (rd s Reg.WK_THRESH_DOZE.us * us) then 1
  else if under (rd s Reg.WK_THRESH_STBY.ms * ms) then 2
  else if under (rd s Reg.WK_THRESH_HIB.s * sec) || !rdB s Reg.WK_PWR_CFG.hib_en || armedMember then 3
  else 4

/-- The state chosen, a disabled one replaced by the next shallower (R440). -/
def chosenState (s : State) : Nat :=
  let c := tableChoice s
  let c := if c = 3 && !rdB s Reg.WK_PWR_CFG.stby_en then 2 else c
  if c = 2 && !rdB s Reg.WK_PWR_CFG.doze_en then 1 else c

/-- Whether the device holds work: a frame, a waiting build, a command, a DMA descriptor or a cipher request (R438). -/
def holdsWork (s : State) : Bool :=
  !s.sw.frames.isEmpty || !s.cmd.long.isEmpty || !s.cmd.held.isEmpty || !s.cx.reqs.isEmpty ||
    s.sg.waiters.any (fun w => !w.2.isEmpty) ||
    rd s Reg.FT_DMA_HEAD.head != rd s Reg.FT_DMA_TAIL.tail

/-- IDLE_ENTRY (R438). -/
def idleOp (s : State) : State :=
  if powerState s = 0 ∧ coreOn s ∧ !holdsWork s then wr (lifeSettle s) Reg.WK_STATUS.state 1 else s

/-- The frames left in the ingress buffer discarded, each counted under its class (R442). -/
def discardAll (s : State) : State :=
  s.sw.frames.foldl (fun s f => bump (dropFrame s f.1) Reg.SW_STAT_DROP.value f.2.cls) s

/-- The receive entries' freshness values recorded (R338). -/
def journalReceive (s : State) : State :=
  s.cx.secPdus.foldl (fun s e =>
    if SecPdu.dir e.2 = 0 ∧ SecPdu.valid e.2 then
      journalRecord { s with cx := { s.cx with secPdus := Tab.put s.cx.secPdus e.1 { e.2 with recorded := e.2.fv } } }
    else s) s

/-- The two halves of a value of the byte-array area that template extensions take (R157). -/
def extCells (s : State) : List Host.Cell :=
  let held := fun (a : Nat) => (s.sg.templates.any (fun t =>
    let b := Tpl.ext t.2
    Tpl.valid t.2 && decide (b < 16384) && decide (64 * b ≤ a) && decide (a < 64 * (b + Tab.get s.sg.runs b 0))))
  s.ba.filter (fun c => held c.1)

/-- The bytes a snapshot takes: its entries at their sizes, slot configurations at 16 bytes, extensions as they stand. -/
def snapshotBytes (s : State) : Nat :=
  let g := s.sg
  16 * (g.routes.length + g.streams.length + g.slots.length) + 8 * (g.canRoutes.length + g.rxPdus.length + g.unpacks.length) +
    32 * g.destLists.length + 16 * g.convs.length + 2 * g.fanOut.length + 16 * g.templates.length + 8 * g.staleParams.length +
    16 * g.checks.length + 40 * s.sw.streams.length + 24 * (s.sw.gens.length + s.sw.recs.length) + 24 * s.ft.vlans.length +
    16 * (s.ft.nextHops.length + s.ft.l2.length) + 24 * (s.ft.pfx4.length + s.ft.pfx6.length) + (extCells s).length +
    96 * s.cl.entries.length + 32 * s.cx.secPdus.length + 16 * s.cx.profiles.length

/-- The snapshot of the tables (R470): none where it is off or too large. -/
def takeSnapshot (s : State) : Option Snapshot :=
  if !rdB s Reg.BT_CTRL.snapshot_en || decide (1408 * 1024 < snapshotBytes s) then none
  else some {
    fw := s.bt.record.fw
    tbl := s.bt.record.tbl
    gen := s.bt.record.genActive
    sg := s.sg
    ext := extCells s
    sw := s.sw
    vlans := s.ft.vlans
    nextHops := s.ft.nextHops
    statics := s.ft.l2.filter (fun e => L2.static e.2)
    pfx4 := s.ft.pfx4
    pfx6 := s.ft.pfx6
    words := Tab.mapAll (fun _ e => e.words) s.cx.secPdus
    profiles := s.cx.profiles
    rules := (s.cl.entries.filter (fun e => e.2.live s.cl.current s.cl.current)).map (fun e => e.2.rule)
    miss := missOf s s.cl.current }

/-- The entry into power state `st` begins: frames discarded; for Standby and Hibernate, the checkpoint (Standby's only after
its least gap, R64), the journal and the snapshot written (R442). -/
def beginEntry (s : State) (st : Nat) : State :=
  let s := modWk s (fun w => { w with entry := some st })
  let s := discardAll s
  if st = 2 then s
  else
    let due := st == 4 || decide (s.lr.lastCheckpoint + standbyGap s * sec ≤ s.now)
    let s := if due then checkpoint s (if st = 4 then 2 else 1) else s
    let s := journalReceive s
    { s with bt := { s.bt with snapshot := (takeSnapshot s).orElse (fun _ => s.bt.snapshot) } }

/-- LOW_POWER_CHOICE (R440). -/
def lowPowerOp (s : State) : State :=
  if lowPowerEligible s && s.wk.entry.isNone && decide (2 ≤ chosenState s) then beginEntry s (chosenState s) else s

/-- The Sleeve of pair `p` shut by the loss of power, counted for both links (R353). -/
def sleeveUnpowered (s : State) (p : Nat) : State :=
  if pairOpen s p then
    let s := wr s (if p = 0 then Reg.TF_SLEEVE.open_a else Reg.TF_SLEEVE.open_b) 0
    tyethCount (tyethCount s (2 * p) 3) (2 * p + 1) 3
  else s

/-- Both Sleeves shut by the loss of power or by reset. -/
def sleevesUnpowered (s : State) : State := sleeveUnpowered (sleeveUnpowered s 0) 1

/-- SWITCH_OFF (R442): DT captured; in Doze both pairs forced closed and the deferred builds discarded (R165), below it the core die unpowered. -/
def switchOffOp (s : State) : State :=
  match s.wk.entry with
  | none => s
  | some st =>
    let delta := deltaNs s
    let up := (List.range 12).filter (fun p => rdB s Reg.ETH_STATUS.link p)
    let s := modWk s (fun w => { w with entry := none, offAt := s.now, offDt := dtNow s, upPorts := (up.map (2 ^ ·)).sum })
    let s := if st = 2 then
        let s := modSg s (fun g => { g with tplRun := Tab.mapAll (fun _ (r : TplRun) => { r with deferred := none }) g.tplRun })
        if rdB s Reg.TF_CTRL.en then sleeveCloseOp 1 2 (sleeveCloseOp 0 2 s) else s
      else
        let s := captureTime (sleevesUnpowered s)
        { s with lr := { s.lr with cleanSwitchOff := true } }
    let s := wr (lifeSettle s) Reg.WK_STATUS.state st
    wkEvent s 5 0xFFFF (leBytes 1 st ++ leBytes 4 (match delta with
      | some d => min (d / ms) 0xFFFFFFFE
      | none => 0xFFFFFFFF))

/-- Run reached after a return from state `st`: event 0x0006, lateness against the scheduled occurrence, held events
delivered (R441, R443, R445). -/
def reachRun (s : State) (st : Nat) (r : WkReturn) : State :=
  let s := wr (lifeSettle s) Reg.WK_STATUS.state 0
  let s := modWk s (fun w => { w with ret := none })
  let s := deliverHeld s
  let s := wkEvent s 6 0xFFFF (leBytes 1 st ++ leBytes 1 r.src ++ leBytes 4 ((s.now - r.at_) / us))
  match r.occurrence with
  | some (i, o) =>
    if o < dtNow s then wkEvent (bump s Reg.WK_STAT_SCHED_LATE.value) 12 i (leBytes 4 ((dtNow s - o) / us)) else s
  | none => s

/-! ### Commands (R447) -/

/-- Whether a command names an enabled group. -/
def grpNamed (s : State) (g : Nat) : Bool := decide (g < 16) && (grpAt s g).state != 0

/-- PWR_GRP_REQUEST (R432). -/
def opGrpRequest (p : Bytes) (s : State) : CmdAnswer :=
  let g := byteAt p 0
  if p.length ≠ 4 then fail s stBadLength
  else if !grpNamed s g || 1 < byteAt p 1 || !zeroAt p 2 2 then fail s stBadParam
  else
    let want := byteAt p 1 == 1
    if want == (grpAt s g).local_ then okay s []
    else okay (syncLocal (modGrp s g (fun x => { x with local_ := want })) g) []

/-- PWR_GRP_STATE. -/
def opGrpState (p : Bytes) (s : State) : CmdAnswer :=
  let g := byteAt p 0
  if p.length ≠ 4 then fail s stBadLength
  else if !grpNamed s g || !zeroAt p 1 3 then fail s stBadParam
  else
    let x := grpAt s g
    okay s (leBytes 1 x.state ++ leBytes 1 (b2n x.local_) ++ leBytes 1 (b2n x.holdEnd.isSome) ++ leBytes 1 x.lastSrc ++
      leBytes 4 ((s.now - x.since) / ms) ++ leBytes 2 x.nodes.length ++
      leBytes 2 (match x.watch with
        | some (n, _, _) => n.node
        | none => 0xFFFF) ++ zeros 4)

/-- PWR_NODES_READ. -/
def opNodesRead (p : Bytes) (s : State) : CmdAnswer :=
  let g := byteAt p 0
  if p.length ≠ 4 then fail s stBadLength
  else if !grpNamed s g || !zeroAt p 1 3 then fail s stBadParam
  else okay s (leBytes 32 (((grpAt s g).nodes.map (fun n => 2 ^ n.node)).sum) ++ leBytes 32 (grpAt s g).seen)

/-- PWR_SCHED_WRITE (R440). -/
def opSchedWrite (p : Bytes) (s : State) : CmdAnswer :=
  let i := byteAt p 0
  if p.length ≠ 24 then fail s stBadLength
  else if 15 < i || 1 < byteAt p 1 || !zeroAt p 16 8 then fail s stBadParam
  else
    let e : WkSched := ⟨byteAt p 1 == 1, leAt p 2 2, leAt p 4 4, leAt p 8 8⟩
    if e.valid && e.period == 0 && decide (e.first ≤ dtNow s) then fail s stBadParam
    else okay (modWk s (fun w => { w with sched := Tab.put w.sched i e })) []

/-- PWR_SCHED_READ. -/
def opSchedRead (p : Bytes) (s : State) : CmdAnswer :=
  let i := byteAt p 0
  if p.length ≠ 4 then fail s stBadLength
  else if 15 < i || !zeroAt p 1 3 then fail s stBadParam
  else
    let e := schedAt s i
    okay s (leBytes 1 i ++ leBytes 1 (b2n e.valid) ++ leBytes 2 e.hold ++ leBytes 4 e.period ++
      leBytes 8 ((e.next (dtNow s)).getD e.first) ++ zeros 8)

/-! ### The rows -/

/-- DOMINANT_TIMEOUT (R422). -/
def execDominantTimeout (t : Nat) (ch : Fin 32) (recessive : Bool) (s : State) : Host.Outcome State Fault Refusal :=
  done (serveAll (dominantOp ch.val recessive (arrive t s)))

/-- BUS_WAKE_PATTERN (R426). -/
def execBusWakePattern (t : Nat) (ch : Fin 32) (s : State) : Host.Outcome State Fault Refusal := done (serveAll (wupOp ch.val (arrive t s)))

/-- SWK_DECODED_FRAME (R427). -/
def execSwkDecodedFrame (t : Nat) (ch : Fin 32) (f : SwkFrame) (s : State) : Host.Outcome State Fault Refusal :=
  done (serveAll (swkOp ch.val f (arrive t s)))

/-- WAKE_PIN (R429). -/
def execWakePin (t : Nat) (pin : Fin 4) (level : Bool) (s : State) : Host.Outcome State Fault Refusal :=
  done (serveAll (wakePinOp pin.val level (arrive t s)))

/-- PCIE_WAKE (R429). -/
def execPcieWake (t : Nat) (kind : Fin 3) (s : State) : Host.Outcome State Fault Refusal := done (pcieWakeOp kind.val (arrive t s))

/-- ETHERNET_SIGNAL_WAKE (R429). -/
def execEthernetSignalWake (t : Nat) (port : Fin 12) (s : State) : Host.Outcome State Fault Refusal :=
  done (ethWakeOp port.val (arrive t s))

/-- TYETH_SIGNAL_WAKE (R429): of any link. -/
def execTyethSignalWake (t : Nat) (_link : Fin 4) (s : State) : Host.Outcome State Fault Refusal := done (tlWakeOp (arrive t s))

/-- DEBUG_TCK_WAKE (R429). -/
def execDebugTckWake (t : Nat) (s : State) : Host.Outcome State Fault Refusal := done (tckWakeOp (arrive t s))

/-- NM_TIMEOUT (R431). -/
def execNmTimeout (t : Nat) (group : Fin 16) (node : Fin 256) (s : State) : Host.Outcome State Fault Refusal :=
  done (serveAll (nmTimeoutOp group.val node.val (arrive t s)))

/-- NM_PERIOD (R433). -/
def execNmPeriod (t : Nat) (group : Fin 16) (s : State) : Host.Outcome State Fault Refusal := done (serveAll (nmPeriodOp group.val (arrive t s)))

/-- WAKE_HOLD_EXPIRED (R432). -/
def execWakeHoldExpired (t : Nat) (group : Fin 16) (s : State) : Host.Outcome State Fault Refusal :=
  done (serveAll (holdExpiredOp group.val (arrive t s)))

/-- SLEEP_COMMIT (R434). -/
def execSleepCommit (t : Nat) (group : Fin 16) (s : State) : Host.Outcome State Fault Refusal :=
  done (serveAll (sleepCommitOp group.val (arrive t s)))

/-- KEEP_AWAKE_OFFENDER (R437). -/
def execKeepAwakeOffender (t : Nat) (group : Fin 16) (s : State) : Host.Outcome State Fault Refusal :=
  done (offenderOp group.val (arrive t s))

/-- PWR_GRP_REQUEST (R432). -/
def execPwrGrpRequest (t : Nat) (c : Call) (p : Bytes) (s : State) : Host.Outcome State Fault Refusal :=
  gatewayRow t 0x6001 c p s (fun s => serveAll (answer 0x6001 c (opGrpRequest p s)))

/-- PWR_GRP_STATE (R447). -/
def execPwrGrpState (t : Nat) (c : Call) (p : Bytes) (s : State) : Host.Outcome State Fault Refusal :=
  commandRow t 0x6002 c p s (fun s => answer 0x6002 c (opGrpState p s))

/-- PWR_NODES_READ (R447). -/
def execPwrNodesRead (t : Nat) (c : Call) (p : Bytes) (s : State) : Host.Outcome State Fault Refusal :=
  commandRow t 0x6003 c p s (fun s => answer 0x6003 c (opNodesRead p s))

/-- PWR_SCHED_WRITE (R440). -/
def execPwrSchedWrite (t : Nat) (c : Call) (p : Bytes) (s : State) : Host.Outcome State Fault Refusal :=
  commandRow t 0x6010 c p s (fun s => answer 0x6010 c (opSchedWrite p s))

/-- PWR_SCHED_READ (R447). -/
def execPwrSchedRead (t : Nat) (c : Call) (p : Bytes) (s : State) : Host.Outcome State Fault Refusal :=
  commandRow t 0x6011 c p s (fun s => answer 0x6011 c (opSchedRead p s))

/-- IDLE_ENTRY (R438). -/
def execIdleEntry (t : Nat) (s : State) : Host.Outcome State Fault Refusal :=
  powered t s <|
  done (idleOp (arrive t s))

/-- LOW_POWER_CHOICE (R440). -/
def execLowPowerChoice (t : Nat) (s : State) : Host.Outcome State Fault Refusal :=
  powered t s <|
  done (lowPowerOp (arrive t s))

/-- SWITCH_OFF (R442). -/
def execSwitchOff (t : Nat) (s : State) : Host.Outcome State Fault Refusal := done (switchOffOp (arrive t s))

/-- SCHEDULE_WAKE (R441). -/
def execScheduleWake (t : Nat) (index : Fin 16) (s : State) : Host.Outcome State Fault Refusal :=
  done (scheduleWakeOp index.val (arrive t s))

/-- SCHEDULE_HOLD_END (R441). -/
def execScheduleHoldEnd (t : Nat) (index : Fin 16) (s : State) : Host.Outcome State Fault Refusal :=
  done (holdEndOp index.val (arrive t s))

end Sys2Proof.Machine
end

