-- ==== Sys2Proof/Machine/RegMap.lean ====
section
/-! DEFINITION. The register map: which fields stand at which address of the local address map (Table 15.2 and the
register tables of each chapter). Reserved offsets and reserved bits are the addresses and bits it does not name (R5). -/

namespace Sys2Proof.Machine

/-- One piece of a register: `len` bits of the field `fld` from the field's bit `shift` up, shown at bit `lo`. -/
structure RegPart where
  lo : Nat
  len : Nat
  fld : Fld
  shift : Nat
  deriving DecidableEq, Repr

/-- One register: the address of its first copy, the stride and count of its two instance numbers, and its pieces. -/
structure RegDef where
  addr : Nat
  s1 : Nat
  n1 : Nat
  s2 : Nat
  n2 : Nat
  parts : List RegPart
  deriving DecidableEq, Repr

/-- Registers of the DT block, part 0. -/
def regsDT0 : List RegDef := [
  -- DT_NOW_LO
  ⟨0x10000, 0, 1, 0, 1, [⟨0, 32, Reg.DT_NOW_LO.dt_lo, 0⟩]⟩,
  -- DT_NOW_HI
  ⟨0x10004, 0, 1, 0, 1, [⟨0, 32, Reg.DT_NOW_HI.dt_hi, 0⟩]⟩,
  -- DT_CTRL
  ⟨0x10010, 0, 1, 0, 1, [⟨0, 1, Reg.DT_CTRL.sync_en, 0⟩, ⟨1, 2, Reg.DT_CTRL.role, 0⟩, ⟨3, 1, Reg.DT_CTRL.step_en, 0⟩, ⟨4, 1, Reg.DT_CTRL.ref_type, 0⟩, ⟨8, 4, Reg.DT_CTRL.log_sync_interval, 0⟩, ⟨16, 8, Reg.DT_CTRL.priority1, 0⟩, ⟨24, 8, Reg.DT_CTRL.priority2, 0⟩]⟩,
  -- DT_STATUS
  ⟨0x10014, 0, 1, 0, 1, [⟨0, 3, Reg.DT_STATUS.state, 0⟩, ⟨3, 1, Reg.DT_STATUS.synced, 0⟩, ⟨4, 4, Reg.DT_STATUS.epoch, 0⟩, ⟨8, 1, Reg.DT_STATUS.sweep_pending, 0⟩, ⟨9, 1, Reg.DT_STATUS.gm_local, 0⟩, ⟨10, 6, Reg.DT_STATUS.gm_device, 0⟩, ⟨16, 8, Reg.DT_STATUS.sync_port, 0⟩, ⟨24, 8, Reg.DT_STATUS.steps_removed, 0⟩]⟩,
  -- DT_UNCERT
  ⟨0x10018, 0, 1, 0, 1, [⟨0, 32, Reg.DT_UNCERT.u_ns, 0⟩]⟩,
  -- DT_DRIFT_BOUND
  ⟨0x1001C, 0, 1, 0, 1, [⟨0, 32, Reg.DT_DRIFT_BOUND.ppb, 0⟩]⟩,
  -- DT_AON_DRIFT_BOUND
  ⟨0x10020, 0, 1, 0, 1, [⟨0, 32, Reg.DT_AON_DRIFT_BOUND.ppb, 0⟩]⟩,
  -- DT_STEP_THRESH
  ⟨0x10024, 0, 1, 0, 1, [⟨0, 32, Reg.DT_STEP_THRESH.ns, 0⟩]⟩,
  -- DT_SLEW_MAX
  ⟨0x10028, 0, 1, 0, 1, [⟨0, 32, Reg.DT_SLEW_MAX.ppb, 0⟩]⟩,
  -- DT_HOLDOVER_LIMIT
  ⟨0x1002C, 0, 1, 0, 1, [⟨0, 32, Reg.DT_HOLDOVER_LIMIT.ms, 0⟩]⟩,
  -- DT_OFFSET
  ⟨0x10030, 0, 1, 0, 1, [⟨0, 32, Reg.DT_OFFSET.offset_ns, 0⟩]⟩,
  -- DT_RATE_ADJ
  ⟨0x10034, 0, 1, 0, 1, [⟨0, 32, Reg.DT_RATE_ADJ.ppb, 0⟩]⟩,
  -- DT_LAST_SYNC_LO
  ⟨0x10038, 0, 1, 0, 1, [⟨0, 32, Reg.DT_LAST_SYNC.dt, 0⟩]⟩,
  -- DT_LAST_SYNC_HI
  ⟨0x1003C, 0, 1, 0, 1, [⟨0, 32, Reg.DT_LAST_SYNC.dt, 32⟩]⟩,
  -- DT_INT_STATUS
  ⟨0x10040, 0, 1, 0, 1, [⟨0, 1, Reg.DT_INT_STATUS.acquired, 0⟩, ⟨1, 1, Reg.DT_INT_STATUS.lost, 0⟩, ⟨2, 1, Reg.DT_INT_STATUS.holdover_expired, 0⟩, ⟨3, 1, Reg.DT_INT_STATUS.step, 0⟩, ⟨4, 1, Reg.DT_INT_STATUS.gm_change, 0⟩, ⟨5, 1, Reg.DT_INT_STATUS.uncert_sat, 0⟩, ⟨6, 1, Reg.DT_INT_STATUS.drift_violation, 0⟩]⟩,
  -- DT_INT_EN
  ⟨0x10044, 0, 1, 0, 1, [⟨0, 7, Reg.DT_INT_EN.enable, 0⟩]⟩]

/-- Registers of the DT block, part 1. -/
def regsDT1 : List RegDef := [
  -- DT_STEP_HIST_LO
  ⟨0x10080, 0x8, 16, 0, 1, [⟨0, 32, Reg.DT_STEP_HIST.step, 0⟩]⟩,
  -- DT_STEP_HIST_HI
  ⟨0x10084, 0x8, 16, 0, 1, [⟨0, 32, Reg.DT_STEP_HIST.step, 32⟩]⟩,
  -- DT_ETH_LAT
  ⟨0x10100, 0x4, 12, 0, 1, [⟨0, 16, Reg.DT_ETH_LAT.ingress_ns, 0⟩, ⟨16, 16, Reg.DT_ETH_LAT.egress_ns, 0⟩]⟩,
  -- DT_CANX_RXDLY
  ⟨0x10140, 0x4, 32, 0, 1, [⟨0, 10, Reg.DT_CANX_RXDLY.rx_delay_ns, 0⟩]⟩]

/-- Every register of the DT block. -/
def regsDT : List RegDef := regsDT0 ++ regsDT1

/-- Registers of the MP block, part 0. -/
def regsMP0 : List RegDef := [
  -- MP_CTRL
  ⟨0x20000, 0, 1, 0, 1, [⟨0, 1, Reg.MP_CTRL.planner_en, 0⟩, ⟨1, 1, Reg.MP_CTRL.hem_fixed, 0⟩, ⟨4, 8, Reg.MP_CTRL.hem_set, 0⟩, ⟨12, 4, Reg.MP_CTRL.avs_rail, 0⟩]⟩,
  -- MP_STATUS
  ⟨0x20004, 0, 1, 0, 1, [⟨0, 2, Reg.MP_STATUS.state, 0⟩, ⟨2, 1, Reg.MP_STATUS.derated, 0⟩, ⟨3, 1, Reg.MP_STATUS.at_ceiling, 0⟩, ⟨4, 1, Reg.MP_STATUS.at_floor, 0⟩, ⟨5, 1, Reg.MP_STATUS.avs_fault, 0⟩, ⟨16, 16, Reg.MP_STATUS.vdd_cmd_mv, 0⟩]⟩,
  -- MP_SPEED
  ⟨0x20008, 0, 1, 0, 1, [⟨0, 16, Reg.MP_SPEED.si, 0⟩, ⟨16, 16, Reg.MP_SPEED.si_min_1s, 0⟩]⟩,
  -- MP_DERATE
  ⟨0x2000C, 0, 1, 0, 1, [⟨0, 16, Reg.MP_DERATE.d, 0⟩]⟩,
  -- MP_HEM
  ⟨0x20010, 0, 1, 0, 1, [⟨0, 8, Reg.MP_HEM.hem, 0⟩, ⟨8, 8, Reg.MP_HEM.hem_planned, 0⟩, ⟨16, 16, Reg.MP_HEM.replans, 0⟩]⟩,
  -- MP_MARGIN
  ⟨0x20014, 0, 1, 0, 1, [⟨0, 16, Reg.MP_MARGIN.margin, 0⟩, ⟨16, 16, Reg.MP_MARGIN.vreq125_mv, 0⟩]⟩,
  -- MP_SLOPE
  ⟨0x20018, 0, 1, 0, 1, [⟨0, 32, Reg.MP_SLOPE.uv_per_kh, 0⟩]⟩,
  -- MP_BOUND_GEN
  ⟨0x2001C, 0, 1, 0, 1, [⟨0, 32, Reg.MP_BOUND_GEN.gen, 0⟩]⟩,
  -- MP_VDD_FIX
  ⟨0x20020, 0, 1, 0, 1, [⟨0, 10, Reg.MP_VDD_FIX.mv, 0⟩]⟩,
  -- MP_VDD_MEAS
  ⟨0x20024, 0, 1, 0, 1, [⟨0, 16, Reg.MP_VDD_MEAS.vdd_core_mv, 0⟩, ⟨16, 16, Reg.MP_VDD_MEAS.vdd_sram_mv, 0⟩]⟩,
  -- MP_TJ
  ⟨0x20028, 0, 1, 0, 1, [⟨0, 16, Reg.MP_TJ.tj, 0⟩, ⟨16, 4, Reg.MP_TJ.sensor, 0⟩]⟩,
  -- MP_MARGIN_WARN
  ⟨0x2002C, 0, 1, 0, 1, [⟨0, 16, Reg.MP_MARGIN_WARN.tenths, 0⟩]⟩,
  -- MP_INT_STATUS
  ⟨0x20030, 0, 1, 0, 1, [⟨0, 9, Reg.MP_INT_STATUS.event, 0⟩]⟩,
  -- MP_INT_EN
  ⟨0x20034, 0, 1, 0, 1, [⟨0, 9, Reg.MP_INT_EN.enable, 0⟩]⟩,
  -- MP_BOUND_VAL
  ⟨0x20040, 0x8, 7, 0, 1, [⟨0, 32, Reg.MP_BOUND_VAL.value, 0⟩]⟩,
  -- MP_BOUND_INFO
  ⟨0x20044, 0x8, 7, 0, 1, [⟨0, 16, Reg.MP_BOUND_INFO.ratio_milli, 0⟩, ⟨16, 1, Reg.MP_BOUND_INFO.derated, 0⟩, ⟨17, 1, Reg.MP_BOUND_INFO.kind, 0⟩]⟩]

/-- Registers of the MP block, part 1. -/
def regsMP1 : List RegDef := [
  -- MP_TEMP
  ⟨0x20100, 0x4, 16, 0, 1, [⟨0, 16, Reg.MP_TEMP.tj, 0⟩]⟩,
  -- MP_DLM
  ⟨0x20200, 0x4, 48, 0, 1, [⟨0, 16, Reg.MP_DLM.si, 0⟩]⟩]

/-- Every register of the MP block. -/
def regsMP : List RegDef := regsMP0 ++ regsMP1

/-- Registers of the LR block, part 0. -/
def regsLR0 : List RegDef := [
  -- LR_CTRL
  ⟨0x30000, 0, 1, 0, 1, [⟨0, 8, Reg.LR_CTRL.life_years, 0⟩, ⟨8, 8, Reg.LR_CTRL.period_min, 0⟩, ⟨16, 1, Reg.LR_CTRL.checkpoint, 0⟩]⟩,
  -- LR_STATUS
  ⟨0x30004, 0, 1, 0, 1, [⟨0, 16, Reg.LR_STATUS.rotation, 0⟩, ⟨16, 8, Reg.LR_STATUS.spares, 0⟩, ⟨24, 1, Reg.LR_STATUS.pace_exceeded, 0⟩, ⟨25, 1, Reg.LR_STATUS.restored_older, 0⟩]⟩,
  -- LR_SEQ
  ⟨0x30008, 0, 1, 0, 1, [⟨0, 32, Reg.LR_SEQ.seq, 0⟩]⟩,
  -- LR_WEAR
  ⟨0x3000C, 0, 1, 0, 1, [⟨0, 16, Reg.LR_WEAR.wear, 0⟩, ⟨16, 16, Reg.LR_WEAR.life, 0⟩]⟩,
  -- LR_SNAP
  ⟨0x30010, 0, 1, 0, 1, [⟨0, 1, Reg.LR_SNAP.take, 0⟩, ⟨1, 1, Reg.LR_SNAP.done, 0⟩]⟩,
  -- LR_INT_STATUS
  ⟨0x30014, 0, 1, 0, 1, [⟨0, 5, Reg.LR_INT_STATUS.event, 0⟩]⟩,
  -- LR_INT_EN
  ⟨0x30018, 0, 1, 0, 1, [⟨0, 5, Reg.LR_INT_EN.enable, 0⟩]⟩]

/-- Every register of the LR block. -/
def regsLR : List RegDef := regsLR0

/-- Registers of the CAN block, part 0. -/
def regsCAN0 : List RegDef := [
  -- CAN_ID
  ⟨0x40000, 0x1000, 64, 0, 1, [⟨0, 6, Reg.CAN_ID.channel, 0⟩, ⟨8, 1, Reg.CAN_ID.int_xcvr, 0⟩, ⟨9, 1, Reg.CAN_ID.xl_cap, 0⟩, ⟨10, 1, Reg.CAN_ID.sic_cap, 0⟩, ⟨16, 8, Reg.CAN_ID.version, 0⟩]⟩,
  -- CAN_CTRL
  ⟨0x40004, 0x1000, 64, 0, 1, [⟨0, 3, Reg.CAN_CTRL.mode, 0⟩, ⟨4, 1, Reg.CAN_CTRL.fd_en, 0⟩, ⟨5, 1, Reg.CAN_CTRL.brs_en, 0⟩, ⟨6, 1, Reg.CAN_CTRL.xl_en, 0⟩, ⟨7, 1, Reg.CAN_CTRL.sic_en, 0⟩, ⟨8, 1, Reg.CAN_CTRL.pwm_en, 0⟩, ⟨9, 1, Reg.CAN_CTRL.pxhd, 0⟩]⟩,
  -- CAN_STATUS
  ⟨0x40008, 0x1000, 64, 0, 1, [⟨0, 3, Reg.CAN_STATUS.mode_eff, 0⟩, ⟨3, 2, Reg.CAN_STATUS.conf, 0⟩, ⟨5, 1, Reg.CAN_STATUS.ew, 0⟩, ⟨6, 1, Reg.CAN_STATUS.cloak, 0⟩, ⟨7, 1, Reg.CAN_STATUS.integrating, 0⟩, ⟨8, 2, Reg.CAN_STATUS.activity, 0⟩, ⟨10, 3, Reg.CAN_STATUS.lec, 0⟩, ⟨13, 3, Reg.CAN_STATUS.dlec, 0⟩, ⟨16, 8, Reg.CAN_STATUS.cfg_err, 0⟩]⟩,
  -- CAN_ERRC
  ⟨0x4000C, 0x1000, 64, 0, 1, [⟨0, 9, Reg.CAN_ERRC.tec, 0⟩, ⟨16, 8, Reg.CAN_ERRC.rec, 0⟩, ⟨24, 1, Reg.CAN_ERRC.rp, 0⟩]⟩,
  -- CAN_BOFF
  ⟨0x40010, 0x1000, 64, 0, 1, [⟨0, 10, Reg.CAN_BOFF.holdoff_ms, 0⟩, ⟨16, 8, Reg.CAN_BOFF.recov_count, 0⟩, ⟨24, 1, Reg.CAN_BOFF.holdoff_active, 0⟩]⟩,
  -- CAN_INT_STATUS
  ⟨0x40030, 0x1000, 64, 0, 1, [⟨0, 1, Reg.CAN_INT_STATUS.txdone, 0⟩, ⟨1, 1, Reg.CAN_INT_STATUS.txcdone, 0⟩, ⟨2, 1, Reg.CAN_INT_STATUS.txq_cres, 0⟩, ⟨3, 1, Reg.CAN_INT_STATUS.ew, 0⟩, ⟨4, 1, Reg.CAN_INT_STATUS.err_passive, 0⟩, ⟨5, 1, Reg.CAN_INT_STATUS.busoff, 0⟩, ⟨6, 1, Reg.CAN_INT_STATUS.busoff_rec, 0⟩, ⟨7, 1, Reg.CAN_INT_STATUS.cloak, 0⟩, ⟨8, 1, Reg.CAN_INT_STATUS.host_stale, 0⟩, ⟨9, 1, Reg.CAN_INT_STATUS.cfg_err, 0⟩, ⟨10, 1, Reg.CAN_INT_STATUS.pxe, 0⟩, ⟨11, 1, Reg.CAN_INT_STATUS.txq_pres, 0⟩, ⟨16, 1, Reg.CAN_INT_STATUS.rxf0_new, 0⟩, ⟨17, 1, Reg.CAN_INT_STATUS.rxf0_wm, 0⟩, ⟨18, 1, Reg.CAN_INT_STATUS.rxf0_full, 0⟩, ⟨19, 1, Reg.CAN_INT_STATUS.rxf0_lost, 0⟩, ⟨20, 1, Reg.CAN_INT_STATUS.rxf1_new, 0⟩, ⟨21, 1, Reg.CAN_INT_STATUS.rxf1_wm, 0⟩, ⟨22, 1, Reg.CAN_INT_STATUS.rxf1_full, 0⟩, ⟨23, 1, Reg.CAN_INT_STATUS.rxf1_lost, 0⟩, ⟨24, 1, Reg.CAN_INT_STATUS.mb_new, 0⟩, ⟨25, 1, Reg.CAN_INT_STATUS.mb_ovw, 0⟩, ⟨26, 1, Reg.CAN_INT_STATUS.hp, 0⟩, ⟨27, 1, Reg.CAN_INT_STATUS.txef_new, 0⟩, ⟨28, 1, Reg.CAN_INT_STATUS.txef_wm, 0⟩, ⟨29, 1, Reg.CAN_INT_STATUS.txef_lost, 0⟩, ⟨30, 1, Reg.CAN_INT_STATUS.refused, 0⟩, ⟨31, 1, Reg.CAN_INT_STATUS.ecc, 0⟩]⟩,
  -- CAN_INT_EN
  ⟨0x40034, 0x1000, 64, 0, 1, [⟨0, 12, Reg.CAN_INT_EN.enable, 0⟩, ⟨16, 16, Reg.CAN_INT_EN.enable, 16⟩]⟩,
  -- CAN_BTIM
  ⟨0x40040, 0x1000, 64, 0, 1, [⟨0, 5, Reg.CAN_BTIM.brp, 0⟩, ⟨8, 8, Reg.CAN_BTIM.tseg1, 0⟩, ⟨16, 7, Reg.CAN_BTIM.tseg2, 0⟩, ⟨24, 7, Reg.CAN_BTIM.sjw, 0⟩]⟩,
  -- CAN_DBTIM
  ⟨0x40044, 0x1000, 64, 0, 1, [⟨0, 5, Reg.CAN_DBTIM.brp, 0⟩, ⟨8, 6, Reg.CAN_DBTIM.tseg1, 0⟩, ⟨16, 5, Reg.CAN_DBTIM.tseg2, 0⟩, ⟨24, 5, Reg.CAN_DBTIM.sjw, 0⟩]⟩,
  -- CAN_XBTIM
  ⟨0x40048, 0x1000, 64, 0, 1, [⟨0, 5, Reg.CAN_XBTIM.brp, 0⟩, ⟨8, 6, Reg.CAN_XBTIM.tseg1, 0⟩, ⟨16, 5, Reg.CAN_XBTIM.tseg2, 0⟩, ⟨24, 5, Reg.CAN_XBTIM.sjw, 0⟩]⟩,
  -- CAN_XPWM
  ⟨0x4004C, 0x1000, 64, 0, 1, [⟨0, 6, Reg.CAN_XPWM.pwms, 0⟩, ⟨8, 6, Reg.CAN_XPWM.pwml, 0⟩, ⟨16, 6, Reg.CAN_XPWM.pwmo, 0⟩]⟩,
  -- CAN_TDC
  ⟨0x40050, 0x1000, 64, 0, 1, [⟨0, 8, Reg.CAN_TDC.tdco, 0⟩, ⟨8, 8, Reg.CAN_TDC.tdcf, 0⟩, ⟨16, 8, Reg.CAN_TDC.tdcv, 0⟩, ⟨24, 1, Reg.CAN_TDC.tdc_en, 0⟩]⟩,
  -- CAN_TXCFG
  ⟨0x40080, 0x1000, 64, 0, 1, [⟨0, 7, Reg.CAN_TXCFG.tx_buffers, 0⟩, ⟨8, 9, Reg.CAN_TXCFG.txq_depth, 0⟩, ⟨17, 9, Reg.CAN_TXCFG.gw_share, 0⟩]⟩,
  -- CAN_TXBUF_PEND_LO
  ⟨0x40084, 0x1000, 64, 0, 1, [⟨0, 32, Reg.CAN_TXBUF_PEND.pend, 0⟩]⟩,
  -- CAN_TXBUF_PEND_HI
  ⟨0x40088, 0x1000, 64, 0, 1, [⟨0, 32, Reg.CAN_TXBUF_PEND.pend, 32⟩]⟩,
  -- CAN_TXBUF_REQ_LO
  ⟨0x4008C, 0x1000, 64, 0, 1, [⟨0, 32, Reg.CAN_TXBUF_REQ.req, 0⟩]⟩]

/-- Registers of the CAN block, part 1. -/
def regsCAN1 : List RegDef := [
  -- CAN_TXBUF_REQ_HI
  ⟨0x40090, 0x1000, 64, 0, 1, [⟨0, 32, Reg.CAN_TXBUF_REQ.req, 32⟩]⟩,
  -- CAN_TXBUF_CANCEL_LO
  ⟨0x40094, 0x1000, 64, 0, 1, [⟨0, 32, Reg.CAN_TXBUF_CANCEL.cancel, 0⟩]⟩,
  -- CAN_TXBUF_CANCEL_HI
  ⟨0x40098, 0x1000, 64, 0, 1, [⟨0, 32, Reg.CAN_TXBUF_CANCEL.cancel, 32⟩]⟩,
  -- CAN_TXBUF_DONE_LO
  ⟨0x4009C, 0x1000, 64, 0, 1, [⟨0, 32, Reg.CAN_TXBUF_DONE.done, 0⟩]⟩,
  -- CAN_TXBUF_DONE_HI
  ⟨0x400A0, 0x1000, 64, 0, 1, [⟨0, 32, Reg.CAN_TXBUF_DONE.done, 32⟩]⟩,
  -- CAN_TXBUF_CDONE_LO
  ⟨0x400A4, 0x1000, 64, 0, 1, [⟨0, 32, Reg.CAN_TXBUF_CDONE.cdone, 0⟩]⟩,
  -- CAN_TXBUF_CDONE_HI
  ⟨0x400A8, 0x1000, 64, 0, 1, [⟨0, 32, Reg.CAN_TXBUF_CDONE.cdone, 32⟩]⟩,
  -- CAN_TXQ_PUT
  ⟨0x400B0, 0x1000, 64, 0, 1, [⟨0, 8, Reg.CAN_TXQ_PUT.slot, 0⟩]⟩,
  -- CAN_TXQ_STATUS
  ⟨0x400B4, 0x1000, 64, 0, 1, [⟨0, 9, Reg.CAN_TXQ_STATUS.host_pending, 0⟩, ⟨16, 9, Reg.CAN_TXQ_STATUS.gw_pending, 0⟩]⟩,
  -- CAN_TXQ_CANCEL
  ⟨0x400B8, 0x1000, 64, 0, 1, [⟨0, 8, Reg.CAN_TXQ_CANCEL.slot, 0⟩]⟩,
  -- CAN_TXQ_CRES
  ⟨0x400BC, 0x1000, 64, 0, 1, [⟨0, 16, Reg.CAN_TXQ_CRES.status, 0⟩, ⟨16, 8, Reg.CAN_TXQ_CRES.slot, 0⟩, ⟨24, 1, Reg.CAN_TXQ_CRES.transmitted, 0⟩, ⟨25, 1, Reg.CAN_TXQ_CRES.resolved, 0⟩]⟩,
  -- CAN_TXQ_PRES
  ⟨0x400C0, 0x1000, 64, 0, 1, [⟨0, 16, Reg.CAN_TXQ_PRES.status, 0⟩, ⟨16, 8, Reg.CAN_TXQ_PRES.slot, 0⟩]⟩,
  -- CAN_STAT_TXOK
  ⟨0x40100, 0x1000, 64, 0, 1, [⟨0, 32, Reg.CAN_STAT_TXOK.value, 0⟩]⟩,
  -- CAN_STAT_RXOK
  ⟨0x40104, 0x1000, 64, 0, 1, [⟨0, 32, Reg.CAN_STAT_RXOK.value, 0⟩]⟩,
  -- CAN_STAT_ERRFRM
  ⟨0x40108, 0x1000, 64, 0, 1, [⟨0, 32, Reg.CAN_STAT_ERRFRM.value, 0⟩]⟩,
  -- CAN_STAT_ARBLOST
  ⟨0x4010C, 0x1000, 64, 0, 1, [⟨0, 32, Reg.CAN_STAT_ARBLOST.value, 0⟩]⟩]

/-- Registers of the CAN block, part 2. -/
def regsCAN2 : List RegDef := [
  -- CAN_STAT_STALE_REBUILT
  ⟨0x40110, 0x1000, 64, 0, 1, [⟨0, 32, Reg.CAN_STAT_STALE_REBUILT.value, 0⟩]⟩,
  -- CAN_STAT_STALE_SUPPR
  ⟨0x40114, 0x1000, 64, 0, 1, [⟨0, 32, Reg.CAN_STAT_STALE_SUPPR.value, 0⟩]⟩,
  -- CAN_STAT_REBUILD_LATE
  ⟨0x40118, 0x1000, 64, 0, 1, [⟨0, 32, Reg.CAN_STAT_REBUILD_LATE.value, 0⟩]⟩,
  -- CAN_STAT_CLOAK_IGN
  ⟨0x4011C, 0x1000, 64, 0, 1, [⟨0, 32, Reg.CAN_STAT_CLOAK_IGN.value, 0⟩]⟩,
  -- CAN_STAT_CORE_OVR
  ⟨0x40120, 0x1000, 64, 0, 1, [⟨0, 32, Reg.CAN_STAT_CORE_OVR.value, 0⟩]⟩,
  -- CAN_STAT_TX_UNDR
  ⟨0x40124, 0x1000, 64, 0, 1, [⟨0, 32, Reg.CAN_STAT_TX_UNDR.value, 0⟩]⟩,
  -- CAN_STAT_PXE
  ⟨0x40128, 0x1000, 64, 0, 1, [⟨0, 32, Reg.CAN_STAT_PXE.value, 0⟩]⟩,
  -- CAN_STAT_BUSOFF
  ⟨0x4012C, 0x1000, 64, 0, 1, [⟨0, 32, Reg.CAN_STAT_BUSOFF.value, 0⟩]⟩,
  -- CAN_STAT_TDC_FAIL
  ⟨0x40130, 0x1000, 64, 0, 1, [⟨0, 32, Reg.CAN_STAT_TDC_FAIL.value, 0⟩]⟩,
  -- CAN_MM_TX
  ⟨0x40200, 0x1000, 64, 0, 1, [⟨0, 14, Reg.CAN_MM_TX.start_w, 0⟩, ⟨16, 4, Reg.CAN_MM_TX.dsize, 0⟩]⟩,
  -- CAN_FLT_CFG
  ⟨0x40204, 0x1000, 64, 0, 1, [⟨0, 14, Reg.CAN_FLT_CFG.start_w, 0⟩, ⟨16, 11, Reg.CAN_FLT_CFG.cap, 0⟩]⟩,
  -- CAN_FLT_COUNT
  ⟨0x40208, 0x1000, 64, 0, 1, [⟨0, 11, Reg.CAN_FLT_COUNT.count, 0⟩]⟩,
  -- CAN_RXCFG
  ⟨0x4020C, 0x1000, 64, 0, 1, [⟨0, 2, Reg.CAN_RXCFG.nm_base, 0⟩, ⟨2, 2, Reg.CAN_RXCFG.nm_ext, 0⟩, ⟨4, 1, Reg.CAN_RXCFG.rrf_base, 0⟩, ⟨5, 1, Reg.CAN_RXCFG.rrf_ext, 0⟩]⟩,
  -- CAN_RXF_CFG
  ⟨0x40210, 0x1000, 64, 0x10, 2, [⟨0, 14, Reg.CAN_RXF_CFG.start_w, 0⟩, ⟨14, 1, Reg.CAN_RXF_CFG.overwrite, 0⟩, ⟨16, 8, Reg.CAN_RXF_CFG.count, 0⟩, ⟨24, 4, Reg.CAN_RXF_CFG.dsize, 0⟩]⟩,
  -- CAN_RXF_WM
  ⟨0x40214, 0x1000, 64, 0x10, 2, [⟨0, 8, Reg.CAN_RXF_WM.wm, 0⟩]⟩,
  -- CAN_RXF_STATUS
  ⟨0x40218, 0x1000, 64, 0x10, 2, [⟨0, 8, Reg.CAN_RXF_STATUS.fill, 0⟩, ⟨8, 8, Reg.CAN_RXF_STATUS.get, 0⟩, ⟨16, 8, Reg.CAN_RXF_STATUS.put, 0⟩, ⟨24, 1, Reg.CAN_RXF_STATUS.full, 0⟩]⟩]

/-- Registers of the CAN block, part 3. -/
def regsCAN3 : List RegDef := [
  -- CAN_RXF_ACK
  ⟨0x4021C, 0x1000, 64, 0x10, 2, [⟨0, 8, Reg.CAN_RXF_ACK.index, 0⟩, ⟨8, 8, Reg.CAN_RXF_ACK.uc, 0⟩]⟩,
  -- CAN_MB_CFG
  ⟨0x40230, 0x1000, 64, 0, 1, [⟨0, 14, Reg.CAN_MB_CFG.start_w, 0⟩, ⟨16, 7, Reg.CAN_MB_CFG.count, 0⟩, ⟨24, 4, Reg.CAN_MB_CFG.dsize, 0⟩]⟩,
  -- CAN_MB_ND_LO
  ⟨0x40234, 0x1000, 64, 0, 1, [⟨0, 32, Reg.CAN_MB_ND.nd, 0⟩]⟩,
  -- CAN_MB_ND_HI
  ⟨0x40238, 0x1000, 64, 0, 1, [⟨0, 32, Reg.CAN_MB_ND.nd, 32⟩]⟩,
  -- CAN_MB_OVW_LO
  ⟨0x4023C, 0x1000, 64, 0, 1, [⟨0, 32, Reg.CAN_MB_OVW.ovw, 0⟩]⟩,
  -- CAN_MB_OVW_HI
  ⟨0x40240, 0x1000, 64, 0, 1, [⟨0, 32, Reg.CAN_MB_OVW.ovw, 32⟩]⟩,
  -- CAN_TXEF_CFG
  ⟨0x40250, 0x1000, 64, 0, 1, [⟨0, 14, Reg.CAN_TXEF_CFG.start_w, 0⟩, ⟨16, 8, Reg.CAN_TXEF_CFG.count, 0⟩, ⟨24, 1, Reg.CAN_TXEF_CFG.gw_events, 0⟩]⟩,
  -- CAN_MM_ERR
  ⟨0x40260, 0x1000, 64, 0, 1, [⟨0, 4, Reg.CAN_MM_ERR.reason, 0⟩, ⟨16, 9, Reg.CAN_MM_ERR.element, 0⟩]⟩,
  -- CAN_STAT_RXF0_LOST
  ⟨0x402C0, 0x1000, 64, 0, 1, [⟨0, 32, Reg.CAN_STAT_RXF0_LOST.value, 0⟩]⟩,
  -- CAN_STAT_RXF1_LOST
  ⟨0x402C4, 0x1000, 64, 0, 1, [⟨0, 32, Reg.CAN_STAT_RXF1_LOST.value, 0⟩]⟩,
  -- CAN_STAT_MB_OVW
  ⟨0x402C8, 0x1000, 64, 0, 1, [⟨0, 32, Reg.CAN_STAT_MB_OVW.value, 0⟩]⟩,
  -- CAN_STAT_RX_REJ
  ⟨0x402CC, 0x1000, 64, 0, 1, [⟨0, 32, Reg.CAN_STAT_RX_REJ.value, 0⟩]⟩,
  -- CAN_STAT_RX_MISROUTE
  ⟨0x402D0, 0x1000, 64, 0, 1, [⟨0, 32, Reg.CAN_STAT_RX_MISROUTE.value, 0⟩]⟩,
  -- CAN_STAT_RX_TRUNC
  ⟨0x402D4, 0x1000, 64, 0, 1, [⟨0, 32, Reg.CAN_STAT_RX_TRUNC.value, 0⟩]⟩,
  -- CAN_STAT_TXEF_LOST
  ⟨0x402D8, 0x1000, 64, 0, 1, [⟨0, 32, Reg.CAN_STAT_TXEF_LOST.value, 0⟩]⟩,
  -- CAN_STAT_MM_UNC
  ⟨0x402DC, 0x1000, 64, 0, 1, [⟨0, 32, Reg.CAN_STAT_MM_UNC.value, 0⟩]⟩]

/-- Registers of the CAN block, part 4. -/
def regsCAN4 : List RegDef := [
  -- CAN_TXEF_WM
  ⟨0x40254, 0x1000, 64, 0, 1, [⟨0, 8, Reg.CAN_TXEF_WM.wm, 0⟩]⟩,
  -- CAN_TXEF_STATUS
  ⟨0x40258, 0x1000, 64, 0, 1, [⟨0, 8, Reg.CAN_TXEF_STATUS.fill, 0⟩, ⟨8, 8, Reg.CAN_TXEF_STATUS.get, 0⟩, ⟨16, 8, Reg.CAN_TXEF_STATUS.put, 0⟩, ⟨24, 1, Reg.CAN_TXEF_STATUS.full, 0⟩]⟩,
  -- CAN_TXEF_ACK
  ⟨0x4025C, 0x1000, 64, 0, 1, [⟨0, 8, Reg.CAN_TXEF_ACK.index, 0⟩, ⟨8, 8, Reg.CAN_TXEF_ACK.uc, 0⟩]⟩]

/-- Every register of the CAN block. -/
def regsCAN : List RegDef := regsCAN0 ++ regsCAN1 ++ regsCAN2 ++ regsCAN3 ++ regsCAN4

/-- Registers of the SG block, part 0. -/
def regsSG0 : List RegDef := [
  -- SG_CTRL
  ⟨0xD0000, 0, 1, 0, 1, [⟨0, 1, Reg.SG_CTRL.en, 0⟩, ⟨1, 1, Reg.SG_CTRL.unpack_en, 0⟩, ⟨2, 1, Reg.SG_CTRL.remote_en, 0⟩]⟩,
  -- SG_STATUS
  ⟨0xD0004, 0, 1, 0, 1, [⟨0, 1, Reg.SG_STATUS.ready, 0⟩, ⟨1, 1, Reg.SG_STATUS.writing, 0⟩]⟩,
  -- SG_CANRT_USED
  ⟨0xD0008, 0, 1, 0, 1, [⟨0, 16, Reg.SG_CANRT_USED.used, 0⟩, ⟨16, 4, Reg.SG_CANRT_USED.max_bucket, 0⟩]⟩,
  -- SG_BA_FREE
  ⟨0xD000C, 0, 1, 0, 1, [⟨0, 15, Reg.SG_BA_FREE.free, 0⟩, ⟨16, 15, Reg.SG_BA_FREE.run, 0⟩]⟩,
  -- SG_ND_CLR
  ⟨0xD0010, 0, 1, 0, 1, [⟨0, 16, Reg.SG_ND_CLR.slot, 0⟩]⟩,
  -- SG_INT_STATUS
  ⟨0xD0020, 0, 1, 0, 1, [⟨0, 13, Reg.SG_INT_STATUS.event, 0⟩]⟩,
  -- SG_INT_EN
  ⟨0xD0024, 0, 1, 0, 1, [⟨0, 13, Reg.SG_INT_EN.enable, 0⟩]⟩,
  -- SG_STAT_CAN_HIT
  ⟨0xD0100, 0, 1, 0, 1, [⟨0, 32, Reg.SG_STAT_CAN_HIT.value, 0⟩]⟩,
  -- SG_STAT_CAN_MISS
  ⟨0xD0104, 0, 1, 0, 1, [⟨0, 32, Reg.SG_STAT_CAN_MISS.value, 0⟩]⟩,
  -- SG_STAT_UNPACK
  ⟨0xD0108, 0, 1, 0, 1, [⟨0, 32, Reg.SG_STAT_UNPACK.value, 0⟩]⟩,
  -- SG_STAT_SHORT
  ⟨0xD010C, 0, 1, 0, 1, [⟨0, 32, Reg.SG_STAT_SHORT.value, 0⟩]⟩,
  -- SG_STAT_OLDER
  ⟨0xD0110, 0, 1, 0, 1, [⟨0, 32, Reg.SG_STAT_OLDER.value, 0⟩]⟩,
  -- SG_STAT_CLAMP
  ⟨0xD0114, 0, 1, 0, 1, [⟨0, 32, Reg.SG_STAT_CLAMP.value, 0⟩]⟩,
  -- SG_STAT_FWD
  ⟨0xD0118, 0, 1, 0, 1, [⟨0, 32, Reg.SG_STAT_FWD.value, 0⟩]⟩,
  -- SG_STAT_FWD_FMT
  ⟨0xD011C, 0, 1, 0, 1, [⟨0, 32, Reg.SG_STAT_FWD_FMT.value, 0⟩]⟩,
  -- SG_STAT_FWD_FULL
  ⟨0xD0120, 0, 1, 0, 1, [⟨0, 32, Reg.SG_STAT_FWD_FULL.value, 0⟩]⟩]

/-- Registers of the SG block, part 1. -/
def regsSG1 : List RegDef := [
  -- SG_STAT_RMT_TX
  ⟨0xD0124, 0, 1, 0, 1, [⟨0, 32, Reg.SG_STAT_RMT_TX.value, 0⟩]⟩,
  -- SG_STAT_RMT_RX
  ⟨0xD0128, 0, 1, 0, 1, [⟨0, 32, Reg.SG_STAT_RMT_RX.value, 0⟩]⟩,
  -- SG_STAT_RMT_DROP
  ⟨0xD012C, 0, 1, 0, 1, [⟨0, 32, Reg.SG_STAT_RMT_DROP.value, 0⟩]⟩,
  -- SG_STAT_BAD_ENTRY
  ⟨0xD0130, 0, 1, 0, 1, [⟨0, 32, Reg.SG_STAT_BAD_ENTRY.value, 0⟩]⟩,
  -- SG_STAT_MEM_UNC
  ⟨0xD0134, 0, 1, 0, 1, [⟨0, 32, Reg.SG_STAT_MEM_UNC.value, 0⟩]⟩,
  -- SG_CAN_MISS
  ⟨0xD0200, 0x4, 64, 0, 1, [⟨0, 32, Reg.SG_CAN_MISS.miss, 0⟩]⟩,
  -- SG_LAST_SUPPR
  ⟨0xD0040, 0, 1, 0, 1, [⟨0, 14, Reg.SG_LAST_SUPPR.template, 0⟩, ⟨14, 2, Reg.SG_LAST_SUPPR.where_, 0⟩, ⟨16, 16, Reg.SG_LAST_SUPPR.route, 0⟩]⟩,
  -- SG_LAST_SUPPR_AGE
  ⟨0xD0044, 0, 1, 0, 1, [⟨0, 16, Reg.SG_LAST_SUPPR_AGE.age, 0⟩, ⟨16, 16, Reg.SG_LAST_SUPPR_AGE.budget, 0⟩]⟩,
  -- SG_STAT_BUILD
  ⟨0xD0138, 0, 1, 0, 1, [⟨0, 32, Reg.SG_STAT_BUILD.value, 0⟩]⟩,
  -- SG_STAT_REBUILD
  ⟨0xD013C, 0, 1, 0, 1, [⟨0, 32, Reg.SG_STAT_REBUILD.value, 0⟩]⟩,
  -- SG_STAT_STALE_APPLY
  ⟨0xD0140, 0, 1, 0, 1, [⟨0, 32, Reg.SG_STAT_STALE_APPLY.value, 0⟩]⟩,
  -- SG_STAT_SUPPR
  ⟨0xD0144, 0, 1, 0, 1, [⟨0, 32, Reg.SG_STAT_SUPPR.value, 0⟩]⟩,
  -- SG_STAT_CYC_OVR
  ⟨0xD0148, 0, 1, 0, 1, [⟨0, 32, Reg.SG_STAT_CYC_OVR.value, 0⟩]⟩,
  -- SG_STAT_TPL_WAIT
  ⟨0xD014C, 0, 1, 0, 1, [⟨0, 32, Reg.SG_STAT_TPL_WAIT.value, 0⟩]⟩,
  -- SG_STAT_RATE_WAIT
  ⟨0xD0150, 0, 1, 0, 1, [⟨0, 32, Reg.SG_STAT_RATE_WAIT.value, 0⟩]⟩,
  -- SG_STAT_RATE_DROP
  ⟨0xD0154, 0, 1, 0, 1, [⟨0, 32, Reg.SG_STAT_RATE_DROP.value, 0⟩]⟩]

/-- Registers of the SG block, part 2. -/
def regsSG2 : List RegDef := [
  -- SG_STAT_AGE_SAT
  ⟨0xD0158, 0, 1, 0, 1, [⟨0, 32, Reg.SG_STAT_AGE_SAT.value, 0⟩]⟩,
  -- SG_STAT_RX_AGE
  ⟨0xD015C, 0, 1, 0, 1, [⟨0, 32, Reg.SG_STAT_RX_AGE.value, 0⟩]⟩,
  -- SG_STAT_TPL_GONE
  ⟨0xD0160, 0, 1, 0, 1, [⟨0, 32, Reg.SG_STAT_TPL_GONE.value, 0⟩]⟩,
  -- SG_STAT_CYC_MISS
  ⟨0xD0164, 0, 1, 0, 1, [⟨0, 32, Reg.SG_STAT_CYC_MISS.value, 0⟩]⟩,
  -- SG_CHRATE
  ⟨0xD0300, 0x4, 64, 0, 1, [⟨0, 16, Reg.SG_CHRATE.rate, 0⟩, ⟨16, 8, Reg.SG_CHRATE.burst, 0⟩, ⟨31, 1, Reg.SG_CHRATE.en, 0⟩]⟩,
  -- SG_CHRATE_STAT
  ⟨0xD0400, 0x4, 64, 0, 1, [⟨0, 8, Reg.SG_CHRATE_STAT.tokens, 0⟩, ⟨8, 16, Reg.SG_CHRATE_STAT.waiters, 0⟩]⟩,
  -- SG_STALE_MAP
  ⟨0xD1000, 0x4, 512, 0, 1, [⟨0, 32, Reg.SG_STALE_MAP.stale, 0⟩]⟩,
  -- SG_STAT_STRM_TX
  ⟨0xD0168, 0, 1, 0, 1, [⟨0, 32, Reg.SG_STAT_STRM_TX.value, 0⟩]⟩,
  -- SG_STAT_STRM_MSG
  ⟨0xD016C, 0, 1, 0, 1, [⟨0, 32, Reg.SG_STAT_STRM_MSG.value, 0⟩]⟩,
  -- SG_STAT_STRM_STALE
  ⟨0xD0170, 0, 1, 0, 1, [⟨0, 32, Reg.SG_STAT_STRM_STALE.value, 0⟩]⟩,
  -- SG_STAT_STRM_RX
  ⟨0xD0174, 0, 1, 0, 1, [⟨0, 32, Reg.SG_STAT_STRM_RX.value, 0⟩]⟩,
  -- SG_STAT_STRM_MISS
  ⟨0xD0178, 0, 1, 0, 1, [⟨0, 32, Reg.SG_STAT_STRM_MISS.value, 0⟩]⟩,
  -- SG_STAT_STRM_BAD
  ⟨0xD017C, 0, 1, 0, 1, [⟨0, 32, Reg.SG_STAT_STRM_BAD.value, 0⟩]⟩,
  -- SG_STAT_STRM_GAP
  ⟨0xD0180, 0, 1, 0, 1, [⟨0, 32, Reg.SG_STAT_STRM_GAP.value, 0⟩]⟩,
  -- SG_STAT_STRM_OOO
  ⟨0xD0184, 0, 1, 0, 1, [⟨0, 32, Reg.SG_STAT_STRM_OOO.value, 0⟩]⟩,
  -- SG_STAT_MIRROR_DROP
  ⟨0xD0188, 0, 1, 0, 1, [⟨0, 32, Reg.SG_STAT_MIRROR_DROP.value, 0⟩]⟩]

/-- Registers of the SG block, part 3. -/
def regsSG3 : List RegDef := [
  -- SG_MIRROR_CFG
  ⟨0xD0500, 0x8, 64, 0, 1, [⟨0, 6, Reg.SG_MIRROR_CFG.stream, 0⟩, ⟨6, 1, Reg.SG_MIRROR_CFG.rx, 0⟩, ⟨7, 1, Reg.SG_MIRROR_CFG.tx, 0⟩]⟩,
  -- SG_MIRROR_N
  ⟨0xD0504, 0x8, 64, 0, 1, [⟨0, 25, Reg.SG_MIRROR_N.n, 0⟩]⟩,
  -- SG_RXSTRM_SEQ
  ⟨0xD0700, 0x4, 64, 0, 1, [⟨0, 32, Reg.SG_RXSTRM_SEQ.seq, 0⟩]⟩,
  -- SG_RXSTRM_GAP
  ⟨0xD0800, 0x4, 64, 0, 1, [⟨0, 32, Reg.SG_RXSTRM_GAP.lost, 0⟩]⟩]

/-- Every register of the SG block. -/
def regsSG : List RegDef := regsSG0 ++ regsSG1 ++ regsSG2 ++ regsSG3

/-- Registers of the ETH block, part 0. -/
def regsETH0 : List RegDef := [
  -- ETH_ID
  ⟨0x80000, 0x1000, 12, 0, 1, [⟨0, 4, Reg.ETH_ID.port, 0⟩, ⟨4, 1, Reg.ETH_ID.fast, 0⟩, ⟨16, 8, Reg.ETH_ID.version, 0⟩]⟩,
  -- ETH_CFG
  ⟨0x80004, 0x1000, 12, 0, 1, [⟨0, 1, Reg.ETH_CFG.en, 0⟩, ⟨1, 3, Reg.ETH_CFG.iface, 0⟩, ⟨4, 2, Reg.ETH_CFG.fec, 0⟩, ⟨6, 2, Reg.ETH_CFG.loopback, 0⟩, ⟨8, 14, Reg.ETH_CFG.max_len, 0⟩, ⟨22, 3, Reg.ETH_CFG.class_untagged, 0⟩]⟩,
  -- ETH_STATUS
  ⟨0x80008, 0x1000, 12, 0, 1, [⟨0, 1, Reg.ETH_STATUS.en_eff, 0⟩, ⟨1, 1, Reg.ETH_STATUS.link, 0⟩, ⟨2, 3, Reg.ETH_STATUS.speed, 0⟩, ⟨5, 2, Reg.ETH_STATUS.fec_eff, 0⟩, ⟨7, 1, Reg.ETH_STATUS.local_fault, 0⟩, ⟨8, 1, Reg.ETH_STATUS.remote_fault, 0⟩, ⟨9, 1, Reg.ETH_STATUS.hd_refused, 0⟩, ⟨12, 4, Reg.ETH_STATUS.cfg_err, 0⟩]⟩,
  -- ETH_PCP_MAP
  ⟨0x8000C, 0x1000, 12, 0, 1, [⟨0, 24, Reg.ETH_PCP_MAP.map, 0⟩]⟩,
  -- ETH_INT_STATUS
  ⟨0x80030, 0x1000, 12, 0, 1, [⟨0, 6, Reg.ETH_INT_STATUS.event, 0⟩]⟩,
  -- ETH_INT_EN
  ⟨0x80034, 0x1000, 12, 0, 1, [⟨0, 6, Reg.ETH_INT_EN.enable, 0⟩]⟩,
  -- ETH_TAS_CTRL
  ⟨0x80040, 0x1000, 12, 0, 1, [⟨0, 1, Reg.ETH_TAS_CTRL.gate_en, 0⟩]⟩,
  -- ETH_TAS_STATUS
  ⟨0x80044, 0x1000, 12, 0, 1, [⟨0, 8, Reg.ETH_TAS_STATUS.gates, 0⟩, ⟨8, 8, Reg.ETH_TAS_STATUS.entry, 0⟩, ⟨16, 1, Reg.ETH_TAS_STATUS.pending, 0⟩, ⟨17, 1, Reg.ETH_TAS_STATUS.has_oper, 0⟩]⟩,
  -- ETH_TAS_CHANGE_LO
  ⟨0x80048, 0x1000, 12, 0, 1, [⟨0, 32, Reg.ETH_TAS_CHANGE.ct, 0⟩]⟩,
  -- ETH_TAS_CHANGE_HI
  ⟨0x8004C, 0x1000, 12, 0, 1, [⟨0, 32, Reg.ETH_TAS_CHANGE.ct, 32⟩]⟩,
  -- ETH_CBS
  ⟨0x80080, 0x1000, 12, 0x4, 8, [⟨0, 25, Reg.ETH_CBS.idle_slope, 0⟩, ⟨31, 1, Reg.ETH_CBS.en, 0⟩]⟩,
  -- ETH_CBS_CREDIT
  ⟨0x800A0, 0x1000, 12, 0x4, 8, [⟨0, 32, Reg.ETH_CBS_CREDIT.credit, 0⟩]⟩,
  -- ETH_RX_OCTETS_LO
  ⟨0x80100, 0x1000, 12, 0, 1, [⟨0, 32, Reg.ETH_RX_OCTETS.value, 0⟩]⟩,
  -- ETH_RX_OCTETS_HI
  ⟨0x80104, 0x1000, 12, 0, 1, [⟨0, 32, Reg.ETH_RX_OCTETS.value, 32⟩]⟩,
  -- ETH_TX_OCTETS_LO
  ⟨0x80108, 0x1000, 12, 0, 1, [⟨0, 32, Reg.ETH_TX_OCTETS.value, 0⟩]⟩,
  -- ETH_TX_OCTETS_HI
  ⟨0x8010C, 0x1000, 12, 0, 1, [⟨0, 32, Reg.ETH_TX_OCTETS.value, 32⟩]⟩]

/-- Registers of the ETH block, part 1. -/
def regsETH1 : List RegDef := [
  -- ETH_RX_OK
  ⟨0x80110, 0x1000, 12, 0, 1, [⟨0, 32, Reg.ETH_RX_OK.value, 0⟩]⟩,
  -- ETH_RX_MCAST
  ⟨0x80114, 0x1000, 12, 0, 1, [⟨0, 32, Reg.ETH_RX_MCAST.value, 0⟩]⟩,
  -- ETH_RX_BCAST
  ⟨0x80118, 0x1000, 12, 0, 1, [⟨0, 32, Reg.ETH_RX_BCAST.value, 0⟩]⟩,
  -- ETH_RX_RUNT
  ⟨0x8011C, 0x1000, 12, 0, 1, [⟨0, 32, Reg.ETH_RX_RUNT.value, 0⟩]⟩,
  -- ETH_RX_FRAG
  ⟨0x80120, 0x1000, 12, 0, 1, [⟨0, 32, Reg.ETH_RX_FRAG.value, 0⟩]⟩,
  -- ETH_RX_FCS
  ⟨0x80124, 0x1000, 12, 0, 1, [⟨0, 32, Reg.ETH_RX_FCS.value, 0⟩]⟩,
  -- ETH_RX_CODE
  ⟨0x80128, 0x1000, 12, 0, 1, [⟨0, 32, Reg.ETH_RX_CODE.value, 0⟩]⟩,
  -- ETH_RX_OVERSIZE
  ⟨0x8012C, 0x1000, 12, 0, 1, [⟨0, 32, Reg.ETH_RX_OVERSIZE.value, 0⟩]⟩,
  -- ETH_RX_CTRL
  ⟨0x80130, 0x1000, 12, 0, 1, [⟨0, 32, Reg.ETH_RX_CTRL.value, 0⟩]⟩,
  -- ETH_RX_BAD_SA
  ⟨0x80134, 0x1000, 12, 0, 1, [⟨0, 32, Reg.ETH_RX_BAD_SA.value, 0⟩]⟩,
  -- ETH_RX_ABORT
  ⟨0x80138, 0x1000, 12, 0, 1, [⟨0, 32, Reg.ETH_RX_ABORT.value, 0⟩]⟩,
  -- ETH_RX_ADMIT_DROP
  ⟨0x8013C, 0x1000, 12, 0, 1, [⟨0, 32, Reg.ETH_RX_ADMIT_DROP.value, 0⟩]⟩,
  -- ETH_RX_CORE_OVR
  ⟨0x80140, 0x1000, 12, 0, 1, [⟨0, 32, Reg.ETH_RX_CORE_OVR.value, 0⟩]⟩,
  -- ETH_TX_OK
  ⟨0x80144, 0x1000, 12, 0, 1, [⟨0, 32, Reg.ETH_TX_OK.value, 0⟩]⟩,
  -- ETH_TX_MCAST
  ⟨0x80148, 0x1000, 12, 0, 1, [⟨0, 32, Reg.ETH_TX_MCAST.value, 0⟩]⟩,
  -- ETH_TX_BCAST
  ⟨0x8014C, 0x1000, 12, 0, 1, [⟨0, 32, Reg.ETH_TX_BCAST.value, 0⟩]⟩]

/-- Registers of the ETH block, part 2. -/
def regsETH2 : List RegDef := [
  -- ETH_TX_ABORT
  ⟨0x80150, 0x1000, 12, 0, 1, [⟨0, 32, Reg.ETH_TX_ABORT.value, 0⟩]⟩,
  -- ETH_TX_UNDR
  ⟨0x80154, 0x1000, 12, 0, 1, [⟨0, 32, Reg.ETH_TX_UNDR.value, 0⟩]⟩,
  -- ETH_TX_FLUSH
  ⟨0x80158, 0x1000, 12, 0, 1, [⟨0, 32, Reg.ETH_TX_FLUSH.value, 0⟩]⟩,
  -- ETH_TX_OVERSIZE
  ⟨0x8015C, 0x1000, 12, 0, 1, [⟨0, 32, Reg.ETH_TX_OVERSIZE.value, 0⟩]⟩,
  -- ETH_TX_TAS_OVERRUN
  ⟨0x80160, 0x1000, 12, 0, 1, [⟨0, 32, Reg.ETH_TX_TAS_OVERRUN.value, 0⟩]⟩,
  -- ETH_TX_TAS_SDU
  ⟨0x80164, 0x1000, 12, 0, 1, [⟨0, 32, Reg.ETH_TX_TAS_SDU.value, 0⟩]⟩]

/-- Every register of the ETH block. -/
def regsETH : List RegDef := regsETH0 ++ regsETH1 ++ regsETH2

/-- Registers of the SW block, part 0. -/
def regsSW0 : List RegDef := [
  -- SW_CTRL
  ⟨0x90000, 0, 1, 0, 1, [⟨0, 1, Reg.SW_CTRL.en, 0⟩, ⟨1, 1, Reg.SW_CTRL.pushout_en, 0⟩]⟩,
  -- SW_BUF
  ⟨0x90004, 0, 1, 0, 1, [⟨0, 16, Reg.SW_BUF.used, 0⟩, ⟨16, 16, Reg.SW_BUF.shared_free, 0⟩]⟩,
  -- SW_INT_STATUS
  ⟨0x90010, 0, 1, 0, 1, [⟨0, 6, Reg.SW_INT_STATUS.event, 0⟩]⟩,
  -- SW_INT_EN
  ⟨0x90014, 0, 1, 0, 1, [⟨0, 6, Reg.SW_INT_EN.enable, 0⟩]⟩,
  -- SW_CLASS_RSV
  ⟨0x90040, 0x4, 8, 0, 1, [⟨0, 16, Reg.SW_CLASS_RSV.rsv, 0⟩]⟩,
  -- SW_CLASS_MAX
  ⟨0x90060, 0x4, 8, 0, 1, [⟨0, 16, Reg.SW_CLASS_MAX.max, 0⟩]⟩,
  -- SW_CLASS_USED
  ⟨0x90080, 0x4, 8, 0, 1, [⟨0, 16, Reg.SW_CLASS_USED.used, 0⟩]⟩,
  -- SW_IN_MAX
  ⟨0x90100, 0x4, 19, 0, 1, [⟨0, 16, Reg.SW_IN_MAX.max, 0⟩]⟩,
  -- SW_IN_USED
  ⟨0x90180, 0x4, 19, 0, 1, [⟨0, 16, Reg.SW_IN_USED.used, 0⟩]⟩,
  -- SW_VOQ_SEL
  ⟨0x90200, 0, 1, 0, 1, [⟨0, 12, Reg.SW_VOQ_SEL.voq, 0⟩]⟩,
  -- SW_VOQ_STAT
  ⟨0x90204, 0, 1, 0, 1, [⟨0, 16, Reg.SW_VOQ_STAT.cells, 0⟩, ⟨16, 16, Reg.SW_VOQ_STAT.frames, 0⟩]⟩,
  -- SW_MIRROR_CFG
  ⟨0x90300, 0x10, 8, 0, 1, [⟨0, 5, Reg.SW_MIRROR_CFG.dest, 0⟩, ⟨5, 3, Reg.SW_MIRROR_CFG.class_, 0⟩, ⟨8, 14, Reg.SW_MIRROR_CFG.trunc, 0⟩, ⟨31, 1, Reg.SW_MIRROR_CFG.en, 0⟩]⟩,
  -- SW_MIRROR_N
  ⟨0x90304, 0x10, 8, 0, 1, [⟨0, 25, Reg.SW_MIRROR_N.n, 0⟩]⟩,
  -- SW_MIRROR_CNT
  ⟨0x90308, 0x10, 8, 0, 1, [⟨0, 32, Reg.SW_MIRROR_CNT.copies, 0⟩]⟩,
  -- SW_MIRROR_DROP
  ⟨0x9030C, 0x10, 8, 0, 1, [⟨0, 32, Reg.SW_MIRROR_DROP.drops, 0⟩]⟩,
  -- SW_PORT_MIRROR
  ⟨0x90400, 0x4, 19, 0, 1, [⟨0, 3, Reg.SW_PORT_MIRROR.rx_session, 0⟩, ⟨3, 1, Reg.SW_PORT_MIRROR.rx_en, 0⟩, ⟨4, 3, Reg.SW_PORT_MIRROR.tx_session, 0⟩, ⟨7, 1, Reg.SW_PORT_MIRROR.tx_en, 0⟩]⟩]

/-- Registers of the SW block, part 1. -/
def regsSW1 : List RegDef := [
  -- SW_STAT_DROP
  ⟨0x90500, 0x8, 8, 0, 1, [⟨0, 32, Reg.SW_STAT_DROP.value, 0⟩]⟩,
  -- SW_STAT_PUSHED
  ⟨0x90504, 0x8, 8, 0, 1, [⟨0, 32, Reg.SW_STAT_PUSHED.value, 0⟩]⟩,
  -- SW_STAT_STREAM_INV
  ⟨0x90540, 0, 1, 0, 1, [⟨0, 32, Reg.SW_STAT_STREAM_INV.value, 0⟩]⟩,
  -- SW_POL_policer
  ⟨0x90600, 0, 1, 0, 1, [⟨0, 11, Reg.SW_POL_policer.value, 0⟩]⟩,
  -- SW_POL_matched
  ⟨0x90604, 0, 1, 0, 1, [⟨0, 32, Reg.SW_POL_matched.value, 0⟩]⟩,
  -- SW_POL_green
  ⟨0x90608, 0, 1, 0, 1, [⟨0, 32, Reg.SW_POL_green.value, 0⟩]⟩,
  -- SW_POL_yellow
  ⟨0x9060C, 0, 1, 0, 1, [⟨0, 32, Reg.SW_POL_yellow.value, 0⟩]⟩,
  -- SW_POL_red
  ⟨0x90610, 0, 1, 0, 1, [⟨0, 32, Reg.SW_POL_red.value, 0⟩]⟩,
  -- SW_POL_sdu
  ⟨0x90614, 0, 1, 0, 1, [⟨0, 32, Reg.SW_POL_sdu.value, 0⟩]⟩,
  -- SW_CB_function
  ⟨0x90620, 0, 1, 0, 1, [⟨0, 9, Reg.SW_CB_function.value, 0⟩]⟩,
  -- SW_CB_passed
  ⟨0x90624, 0, 1, 0, 1, [⟨0, 32, Reg.SW_CB_passed.value, 0⟩]⟩,
  -- SW_CB_discarded
  ⟨0x90628, 0, 1, 0, 1, [⟨0, 32, Reg.SW_CB_discarded.value, 0⟩]⟩,
  -- SW_CB_rogue
  ⟨0x9062C, 0, 1, 0, 1, [⟨0, 32, Reg.SW_CB_rogue.value, 0⟩]⟩,
  -- SW_CB_ooo
  ⟨0x90630, 0, 1, 0, 1, [⟨0, 32, Reg.SW_CB_ooo.value, 0⟩]⟩,
  -- SW_CB_lost
  ⟨0x90634, 0, 1, 0, 1, [⟨0, 32, Reg.SW_CB_lost.value, 0⟩]⟩,
  -- SW_CB_tagless
  ⟨0x90638, 0, 1, 0, 1, [⟨0, 32, Reg.SW_CB_tagless.value, 0⟩]⟩]

/-- Registers of the SW block, part 2. -/
def regsSW2 : List RegDef := [
  -- SW_CB_resets
  ⟨0x9063C, 0, 1, 0, 1, [⟨0, 32, Reg.SW_CB_resets.value, 0⟩]⟩]

/-- Every register of the SW block. -/
def regsSW : List RegDef := regsSW0 ++ regsSW1 ++ regsSW2

/-- Registers of the FT block, part 0. -/
def regsFT0 : List RegDef := [
  -- FT_CTRL
  ⟨0xA0000, 0, 1, 0, 1, [⟨0, 1, Reg.FT_CTRL.en, 0⟩, ⟨1, 1, Reg.FT_CTRL.learn_en, 0⟩, ⟨2, 1, Reg.FT_CTRL.evict_en, 0⟩, ⟨3, 1, Reg.FT_CTRL.route_en, 0⟩]⟩,
  -- FT_STATUS
  ⟨0xA0004, 0, 1, 0, 1, [⟨0, 1, Reg.FT_STATUS.ready, 0⟩, ⟨1, 1, Reg.FT_STATUS.busy, 0⟩]⟩,
  -- FT_AGE_CFG
  ⟨0xA0008, 0, 1, 0, 1, [⟨0, 16, Reg.FT_AGE_CFG.age_s, 0⟩]⟩,
  -- FT_L2_USED
  ⟨0xA000C, 0, 1, 0, 1, [⟨0, 17, Reg.FT_L2_USED.used, 0⟩]⟩,
  -- FT_L2_STATIC
  ⟨0xA0010, 0, 1, 0, 1, [⟨0, 17, Reg.FT_L2_STATIC.static, 0⟩]⟩,
  -- FT_LEARN_Q
  ⟨0xA0014, 0, 1, 0, 1, [⟨0, 9, Reg.FT_LEARN_Q.pending, 0⟩]⟩,
  -- FT_LPM_USED
  ⟨0xA0018, 0, 1, 0, 1, [⟨0, 16, Reg.FT_LPM_USED.nodes, 0⟩]⟩,
  -- FT_LPM_PFX
  ⟨0xA001C, 0, 1, 0, 1, [⟨0, 16, Reg.FT_LPM_PFX.ipv4, 0⟩, ⟨16, 16, Reg.FT_LPM_PFX.ipv6, 0⟩]⟩,
  -- FT_LOCK
  ⟨0xA0020, 0, 1, 0, 1, [⟨0, 32, Reg.FT_LOCK.req, 0⟩]⟩,
  -- FT_LOCK_HELD
  ⟨0xA0024, 0, 1, 0, 1, [⟨0, 32, Reg.FT_LOCK_HELD.held, 0⟩]⟩,
  -- FT_LOCK_MAX
  ⟨0xA0028, 0, 1, 0, 1, [⟨0, 16, Reg.FT_LOCK_MAX.ms, 0⟩]⟩,
  -- FT_RTR_MAC_LO
  ⟨0xA0030, 0, 1, 0, 1, [⟨0, 32, Reg.FT_RTR_MAC.mac, 0⟩]⟩,
  -- FT_RTR_MAC_HI
  ⟨0xA0034, 0, 1, 0, 1, [⟨0, 16, Reg.FT_RTR_MAC.mac, 32⟩]⟩,
  -- FT_INT_STATUS
  ⟨0xA0040, 0, 1, 0, 1, [⟨0, 8, Reg.FT_INT_STATUS.event, 0⟩, ⟨16, 1, Reg.FT_INT_STATUS.dma_done, 0⟩]⟩,
  -- FT_INT_EN
  ⟨0xA0044, 0, 1, 0, 1, [⟨0, 8, Reg.FT_INT_EN.enable, 0⟩, ⟨16, 1, Reg.FT_INT_EN.enable, 16⟩]⟩,
  -- FT_DMA_BASE_LO
  ⟨0xA0080, 0, 1, 0, 1, [⟨0, 32, Reg.FT_DMA_BASE.base, 0⟩]⟩]

/-- Registers of the FT block, part 1. -/
def regsFT1 : List RegDef := [
  -- FT_DMA_BASE_HI
  ⟨0xA0084, 0, 1, 0, 1, [⟨0, 32, Reg.FT_DMA_BASE.base, 32⟩]⟩,
  -- FT_DMA_SIZE
  ⟨0xA0088, 0, 1, 0, 1, [⟨0, 4, Reg.FT_DMA_SIZE.log2, 0⟩]⟩,
  -- FT_DMA_CTRL
  ⟨0xA008C, 0, 1, 0, 1, [⟨0, 1, Reg.FT_DMA_CTRL.en, 0⟩]⟩,
  -- FT_DMA_TAIL
  ⟨0xA0090, 0, 1, 0, 1, [⟨0, 12, Reg.FT_DMA_TAIL.tail, 0⟩]⟩,
  -- FT_DMA_HEAD
  ⟨0xA0094, 0, 1, 0, 1, [⟨0, 12, Reg.FT_DMA_HEAD.head, 0⟩]⟩,
  -- FT_PORT_CFG
  ⟨0xA0100, 0x4, 19, 0, 1, [⟨0, 12, Reg.FT_PORT_CFG.pvid, 0⟩, ⟨12, 1, Reg.FT_PORT_CFG.learn_en, 0⟩, ⟨13, 1, Reg.FT_PORT_CFG.ingress_filter, 0⟩, ⟨14, 1, Reg.FT_PORT_CFG.quar_en, 0⟩, ⟨16, 8, Reg.FT_PORT_CFG.move_limit, 0⟩]⟩,
  -- FT_PORT_QUAR
  ⟨0xA0180, 0x4, 19, 0, 1, [⟨0, 12, Reg.FT_PORT_QUAR.quar_s, 0⟩, ⟨16, 1, Reg.FT_PORT_QUAR.quarantined, 0⟩, ⟨17, 1, Reg.FT_PORT_QUAR.release, 0⟩]⟩,
  -- FT_STAT_LEARN
  ⟨0xA0200, 0, 1, 0, 1, [⟨0, 32, Reg.FT_STAT_LEARN.value, 0⟩]⟩,
  -- FT_STAT_LEARN_MISS
  ⟨0xA0204, 0, 1, 0, 1, [⟨0, 32, Reg.FT_STAT_LEARN_MISS.value, 0⟩]⟩,
  -- FT_STAT_L2_FULL
  ⟨0xA0208, 0, 1, 0, 1, [⟨0, 32, Reg.FT_STAT_L2_FULL.value, 0⟩]⟩,
  -- FT_STAT_EVICT
  ⟨0xA020C, 0, 1, 0, 1, [⟨0, 32, Reg.FT_STAT_EVICT.value, 0⟩]⟩,
  -- FT_STAT_MOVE
  ⟨0xA0210, 0, 1, 0, 1, [⟨0, 32, Reg.FT_STAT_MOVE.value, 0⟩]⟩,
  -- FT_STAT_CONFLICT
  ⟨0xA0214, 0, 1, 0, 1, [⟨0, 32, Reg.FT_STAT_CONFLICT.value, 0⟩]⟩,
  -- FT_STAT_STATIC_VIOL
  ⟨0xA0218, 0, 1, 0, 1, [⟨0, 32, Reg.FT_STAT_STATIC_VIOL.value, 0⟩]⟩,
  -- FT_STAT_AGED
  ⟨0xA021C, 0, 1, 0, 1, [⟨0, 32, Reg.FT_STAT_AGED.value, 0⟩]⟩,
  -- FT_STAT_QUAR_SKIP
  ⟨0xA0220, 0, 1, 0, 1, [⟨0, 32, Reg.FT_STAT_QUAR_SKIP.value, 0⟩]⟩]

/-- Registers of the FT block, part 2. -/
def regsFT2 : List RegDef := [
  -- FT_STAT_FLOOD
  ⟨0xA0224, 0, 1, 0, 1, [⟨0, 32, Reg.FT_STAT_FLOOD.value, 0⟩]⟩,
  -- FT_STAT_SAME_PORT
  ⟨0xA0228, 0, 1, 0, 1, [⟨0, 32, Reg.FT_STAT_SAME_PORT.value, 0⟩]⟩,
  -- FT_STAT_VLAN_DROP
  ⟨0xA022C, 0, 1, 0, 1, [⟨0, 32, Reg.FT_STAT_VLAN_DROP.value, 0⟩]⟩,
  -- FT_STAT_DISCARD_HIT
  ⟨0xA0230, 0, 1, 0, 1, [⟨0, 32, Reg.FT_STAT_DISCARD_HIT.value, 0⟩]⟩,
  -- FT_STAT_LPM_MISS
  ⟨0xA0234, 0, 1, 0, 1, [⟨0, 32, Reg.FT_STAT_LPM_MISS.value, 0⟩]⟩,
  -- FT_STAT_TTL
  ⟨0xA0238, 0, 1, 0, 1, [⟨0, 32, Reg.FT_STAT_TTL.value, 0⟩]⟩,
  -- FT_STAT_BAD_ENTRY
  ⟨0xA023C, 0, 1, 0, 1, [⟨0, 32, Reg.FT_STAT_BAD_ENTRY.value, 0⟩]⟩,
  -- FT_STAT_MEM_UNC
  ⟨0xA0240, 0, 1, 0, 1, [⟨0, 32, Reg.FT_STAT_MEM_UNC.value, 0⟩]⟩,
  -- FT_STAT_ROUTED
  ⟨0xA0244, 0, 1, 0, 1, [⟨0, 32, Reg.FT_STAT_ROUTED.value, 0⟩]⟩]

/-- Every register of the FT block. -/
def regsFT : List RegDef := regsFT0 ++ regsFT1 ++ regsFT2

/-- Registers of the PE block, part 0. -/
def regsPE0 : List RegDef := [
  -- PE_CTRL
  ⟨0xB0000, 0, 1, 0, 1, [⟨0, 1, Reg.PE_CTRL.en, 0⟩, ⟨1, 1, Reg.PE_CTRL.ovr_action, 0⟩, ⟨8, 10, Reg.PE_CTRL.max_slots, 0⟩]⟩,
  -- PE_STATUS
  ⟨0xB0004, 0, 1, 0, 1, [⟨0, 1, Reg.PE_STATUS.active, 0⟩, ⟨1, 1, Reg.PE_STATUS.ready0, 0⟩, ⟨2, 1, Reg.PE_STATUS.ready1, 0⟩, ⟨3, 1, Reg.PE_STATUS.drain0, 0⟩, ⟨4, 1, Reg.PE_STATUS.drain1, 0⟩, ⟨5, 1, Reg.PE_STATUS.loading, 0⟩, ⟨8, 5, Reg.PE_STATUS.halted, 0⟩]⟩,
  -- PE_BANK_INFO
  ⟨0xB0008, 0x4, 2, 0, 1, [⟨0, 16, Reg.PE_BANK_INFO.n_words, 0⟩, ⟨16, 10, Reg.PE_BANK_INFO.worst_slots, 0⟩]⟩,
  -- PE_RESULT_USED
  ⟨0xB0010, 0, 1, 0, 1, [⟨0, 9, Reg.PE_RESULT_USED.used, 0⟩]⟩,
  -- PE_INT_STATUS
  ⟨0xB0020, 0, 1, 0, 1, [⟨0, 6, Reg.PE_INT_STATUS.event, 0⟩]⟩,
  -- PE_INT_EN
  ⟨0xB0024, 0, 1, 0, 1, [⟨0, 6, Reg.PE_INT_EN.enable, 0⟩]⟩,
  -- PE_LAST_DROP
  ⟨0xB0028, 0, 1, 0, 1, [⟨0, 8, Reg.PE_LAST_DROP.code, 0⟩, ⟨8, 5, Reg.PE_LAST_DROP.input, 0⟩, ⟨13, 2, Reg.PE_LAST_DROP.pass, 0⟩, ⟨16, 14, Reg.PE_LAST_DROP.pc, 0⟩]⟩,
  -- PE_ENG_STATUS
  ⟨0xB0100, 0x4, 24, 0, 1, [⟨0, 1, Reg.PE_ENG_STATUS.busy, 0⟩, ⟨1, 1, Reg.PE_ENG_STATUS.halted, 0⟩, ⟨2, 1, Reg.PE_ENG_STATUS.detached, 0⟩, ⟨4, 14, Reg.PE_ENG_STATUS.pc, 0⟩, ⟨18, 5, Reg.PE_ENG_STATUS.input, 0⟩, ⟨23, 2, Reg.PE_ENG_STATUS.pass, 0⟩, ⟨25, 1, Reg.PE_ENG_STATUS.bank, 0⟩]⟩,
  -- PE_STAT_PASS
  ⟨0xB0200, 0, 1, 0, 1, [⟨0, 32, Reg.PE_STAT_PASS.value, 0⟩]⟩,
  -- PE_STAT_DROP
  ⟨0xB0204, 0, 1, 0, 1, [⟨0, 32, Reg.PE_STAT_DROP.value, 0⟩]⟩,
  -- PE_STAT_RCIRC
  ⟨0xB0208, 0, 1, 0, 1, [⟨0, 32, Reg.PE_STAT_RCIRC.value, 0⟩]⟩,
  -- PE_STAT_RCIRC_LIMIT
  ⟨0xB020C, 0, 1, 0, 1, [⟨0, 32, Reg.PE_STAT_RCIRC_LIMIT.value, 0⟩]⟩,
  -- PE_STAT_RCIRC_BAD
  ⟨0xB0210, 0, 1, 0, 1, [⟨0, 32, Reg.PE_STAT_RCIRC_BAD.value, 0⟩]⟩,
  -- PE_STAT_OVERRUN
  ⟨0xB0214, 0, 1, 0, 1, [⟨0, 32, Reg.PE_STAT_OVERRUN.value, 0⟩]⟩,
  -- PE_STAT_WIN_OVER
  ⟨0xB0218, 0, 1, 0, 1, [⟨0, 32, Reg.PE_STAT_WIN_OVER.value, 0⟩]⟩,
  -- PE_STAT_LKT_OVER
  ⟨0xB021C, 0, 1, 0, 1, [⟨0, 32, Reg.PE_STAT_LKT_OVER.value, 0⟩]⟩]

/-- Registers of the PE block, part 1. -/
def regsPE1 : List RegDef := [
  -- PE_STAT_DISABLED
  ⟨0xB0220, 0, 1, 0, 1, [⟨0, 32, Reg.PE_STAT_DISABLED.value, 0⟩]⟩,
  -- PE_STAT_DBG_DISCARD
  ⟨0xB0224, 0, 1, 0, 1, [⟨0, 32, Reg.PE_STAT_DBG_DISCARD.value, 0⟩]⟩,
  -- PE_STAT_EXC
  ⟨0xB0228, 0, 1, 0, 1, [⟨0, 32, Reg.PE_STAT_EXC.value, 0⟩]⟩,
  -- PE_STAT_MAX_SLOTS
  ⟨0xB022C, 0, 1, 0, 1, [⟨0, 32, Reg.PE_STAT_MAX_SLOTS.value, 0⟩]⟩,
  -- PE_STAT_SLOTS_LO
  ⟨0xB0230, 0, 1, 0, 1, [⟨0, 32, Reg.PE_STAT_SLOTS.value, 0⟩]⟩,
  -- PE_STAT_SLOTS_HI
  ⟨0xB0234, 0, 1, 0, 1, [⟨0, 32, Reg.PE_STAT_SLOTS.value, 32⟩]⟩,
  -- PE_DBG_SEL
  ⟨0xB0300, 0, 1, 0, 1, [⟨0, 5, Reg.PE_DBG_SEL.engine, 0⟩]⟩,
  -- PE_DBG_CTRL
  ⟨0xB0304, 0, 1, 0, 1, [⟨0, 1, Reg.PE_DBG_CTRL.halt, 0⟩, ⟨1, 1, Reg.PE_DBG_CTRL.resume, 0⟩, ⟨2, 1, Reg.PE_DBG_CTRL.step, 0⟩]⟩,
  -- PE_DBG_STATE
  ⟨0xB0308, 0, 1, 0, 1, [⟨0, 1, Reg.PE_DBG_STATE.halted, 0⟩, ⟨1, 1, Reg.PE_DBG_STATE.detached, 0⟩, ⟨2, 2, Reg.PE_DBG_STATE.cause, 0⟩, ⟨4, 2, Reg.PE_DBG_STATE.bp, 0⟩, ⟨6, 14, Reg.PE_DBG_STATE.pc, 0⟩, ⟨20, 10, Reg.PE_DBG_STATE.slots, 0⟩]⟩,
  -- PE_DBG_C
  ⟨0xB030C, 0, 1, 0, 1, [⟨0, 10, Reg.PE_DBG_C.c, 0⟩]⟩,
  -- PE_BP
  ⟨0xB0310, 0x4, 4, 0, 1, [⟨0, 14, Reg.PE_BP.addr, 0⟩, ⟨14, 5, Reg.PE_BP.input, 0⟩, ⟨19, 1, Reg.PE_BP.input_en, 0⟩, ⟨20, 2, Reg.PE_BP.pass, 0⟩, ⟨22, 1, Reg.PE_BP.pass_en, 0⟩, ⟨23, 1, Reg.PE_BP.bank, 0⟩, ⟨31, 1, Reg.PE_BP.en, 0⟩]⟩,
  -- PE_DBG_G
  ⟨0xB0340, 0x4, 16, 0, 1, [⟨0, 32, Reg.PE_DBG_G.value, 0⟩]⟩,
  -- PE_DBG_M
  ⟨0xB0380, 0x4, 16, 0, 1, [⟨0, 32, Reg.PE_DBG_M.value, 0⟩]⟩]

/-- Every register of the PE block. -/
def regsPE : List RegDef := regsPE0 ++ regsPE1

/-- Registers of the CL block, part 0. -/
def regsCL0 : List RegDef := [
  -- CL_CTRL
  ⟨0xC0000, 0, 1, 0, 1, [⟨0, 1, Reg.CL_CTRL.en, 0⟩]⟩,
  -- CL_TURN_STATUS
  ⟨0xC0004, 0, 1, 0, 1, [⟨0, 16, Reg.CL_TURN_STATUS.current, 0⟩, ⟨16, 1, Reg.CL_TURN_STATUS.open_, 0⟩, ⟨17, 1, Reg.CL_TURN_STATUS.pending, 0⟩, ⟨18, 3, Reg.CL_TURN_STATUS.live, 0⟩, ⟨21, 1, Reg.CL_TURN_STATUS.sweeping, 0⟩]⟩,
  -- CL_ENTRY_USE
  ⟨0xC0008, 0, 1, 0, 1, [⟨0, 14, Reg.CL_ENTRY_USE.used, 0⟩, ⟨16, 14, Reg.CL_ENTRY_USE.dying, 0⟩]⟩,
  -- CL_STAGED
  ⟨0xC000C, 0, 1, 0, 1, [⟨0, 14, Reg.CL_STAGED.adds, 0⟩, ⟨16, 14, Reg.CL_STAGED.dels, 0⟩]⟩,
  -- CL_DRAIN_TO
  ⟨0xC0010, 0, 1, 0, 1, [⟨0, 14, Reg.CL_DRAIN_TO.ms, 0⟩]⟩,
  -- CL_MISS_ACT_LO
  ⟨0xC0018, 0, 1, 0, 1, [⟨0, 32, Reg.CL_MISS_ACT.a0, 0⟩]⟩,
  -- CL_MISS_ACT_HI
  ⟨0xC001C, 0, 1, 0, 1, [⟨0, 32, Reg.CL_MISS_ACT.a0, 32⟩]⟩,
  -- CL_INT_STATUS
  ⟨0xC0020, 0, 1, 0, 1, [⟨0, 6, Reg.CL_INT_STATUS.event, 0⟩]⟩,
  -- CL_INT_EN
  ⟨0xC0024, 0, 1, 0, 1, [⟨0, 6, Reg.CL_INT_EN.enable, 0⟩]⟩,
  -- CL_TURN_FLIGHT
  ⟨0xC0040, 0x4, 4, 0, 1, [⟨0, 16, Reg.CL_TURN_FLIGHT.turn, 0⟩, ⟨16, 16, Reg.CL_TURN_FLIGHT.frames, 0⟩]⟩,
  -- CL_HIT_rule_id
  ⟨0xC0060, 0, 1, 0, 1, [⟨0, 16, Reg.CL_HIT_rule_id.value, 0⟩]⟩,
  -- CL_HIT_hits
  ⟨0xC0064, 0, 1, 0, 1, [⟨0, 32, Reg.CL_HIT_hits.value, 0⟩]⟩,
  -- CL_STAT_DECIDE
  ⟨0xC0100, 0, 1, 0, 1, [⟨0, 32, Reg.CL_STAT_DECIDE.value, 0⟩]⟩,
  -- CL_STAT_HIT
  ⟨0xC0104, 0, 1, 0, 1, [⟨0, 32, Reg.CL_STAT_HIT.value, 0⟩]⟩,
  -- CL_STAT_MISS
  ⟨0xC0108, 0, 1, 0, 1, [⟨0, 32, Reg.CL_STAT_MISS.value, 0⟩]⟩,
  -- CL_STAT_DROP
  ⟨0xC010C, 0, 1, 0, 1, [⟨0, 32, Reg.CL_STAT_DROP.value, 0⟩]⟩]

/-- Registers of the CL block, part 1. -/
def regsCL1 : List RegDef := [
  -- CL_STAT_ROUND
  ⟨0xC0110, 0, 1, 0, 1, [⟨0, 32, Reg.CL_STAT_ROUND.value, 0⟩]⟩,
  -- CL_STAT_DRAIN_DROP
  ⟨0xC0114, 0, 1, 0, 1, [⟨0, 32, Reg.CL_STAT_DRAIN_DROP.value, 0⟩]⟩,
  -- CL_STAT_COMMIT
  ⟨0xC0118, 0, 1, 0, 1, [⟨0, 32, Reg.CL_STAT_COMMIT.value, 0⟩]⟩,
  -- CL_STAT_STALL
  ⟨0xC011C, 0, 1, 0, 1, [⟨0, 32, Reg.CL_STAT_STALL.value, 0⟩]⟩,
  -- CL_STAT_RWT_IGN
  ⟨0xC0120, 0, 1, 0, 1, [⟨0, 32, Reg.CL_STAT_RWT_IGN.value, 0⟩]⟩,
  -- CL_STAT_MEM_UNC
  ⟨0xC0124, 0, 1, 0, 1, [⟨0, 32, Reg.CL_STAT_MEM_UNC.value, 0⟩]⟩]

/-- Every register of the CL block. -/
def regsCL : List RegDef := regsCL0 ++ regsCL1

/-- Registers of the CK block, part 0. -/
def regsCK0 : List RegDef := [
  -- CK_CTRL
  ⟨0xE0000, 0, 1, 0, 1, [⟨0, 1, Reg.CK_CTRL.en, 0⟩]⟩,
  -- CK_STATUS
  ⟨0xE0004, 0, 1, 0, 1, [⟨0, 8, Reg.CK_STATUS.valid, 0⟩]⟩,
  -- CK_INT_STATUS
  ⟨0xE0020, 0, 1, 0, 1, [⟨0, 5, Reg.CK_INT_STATUS.event, 0⟩]⟩,
  -- CK_INT_EN
  ⟨0xE0024, 0, 1, 0, 1, [⟨0, 5, Reg.CK_INT_EN.enable, 0⟩]⟩,
  -- CK_STAT_STORE_REPAIR
  ⟨0xE0100, 0, 1, 0, 1, [⟨0, 32, Reg.CK_STAT_STORE_REPAIR.value, 0⟩]⟩,
  -- CK_STAT_STORE_INVALID
  ⟨0xE0104, 0, 1, 0, 1, [⟨0, 32, Reg.CK_STAT_STORE_INVALID.value, 0⟩]⟩,
  -- CK_CH_LAST
  ⟨0xE0200, 0x4, 128, 0, 1, [⟨0, 16, Reg.CK_CH_LAST.last, 0⟩, ⟨16, 1, Reg.CK_CH_LAST.synced, 0⟩]⟩,
  -- CK_CH_OK
  ⟨0xE1000, 0x20, 128, 0, 1, [⟨0, 32, Reg.CK_CH_OK.value, 0⟩]⟩,
  -- CK_CH_CRC_FAIL
  ⟨0xE1004, 0x20, 128, 0, 1, [⟨0, 32, Reg.CK_CH_CRC_FAIL.value, 0⟩]⟩,
  -- CK_CH_SHORT
  ⟨0xE1008, 0x20, 128, 0, 1, [⟨0, 32, Reg.CK_CH_SHORT.value, 0⟩]⟩,
  -- CK_CH_REPEAT
  ⟨0xE100C, 0x20, 128, 0, 1, [⟨0, 32, Reg.CK_CH_REPEAT.value, 0⟩]⟩,
  -- CK_CH_SEQ_ERR
  ⟨0xE1010, 0x20, 128, 0, 1, [⟨0, 32, Reg.CK_CH_SEQ_ERR.value, 0⟩]⟩,
  -- CK_CH_LOST
  ⟨0xE1014, 0x20, 128, 0, 1, [⟨0, 32, Reg.CK_CH_LOST.value, 0⟩]⟩,
  -- CK_CH_GEN
  ⟨0xE1018, 0x20, 128, 0, 1, [⟨0, 32, Reg.CK_CH_GEN.value, 0⟩]⟩,
  -- CK_CH_BAD
  ⟨0xE101C, 0x20, 128, 0, 1, [⟨0, 32, Reg.CK_CH_BAD.value, 0⟩]⟩]

/-- Every register of the CK block. -/
def regsCK : List RegDef := regsCK0

/-- Registers of the CX block, part 0. -/
def regsCX0 : List RegDef := [
  -- CX_CTRL
  ⟨0xF0000, 0, 1, 0, 1, [⟨0, 1, Reg.CX_CTRL.en, 0⟩, ⟨1, 2, Reg.CX_CTRL.level, 0⟩, ⟨3, 2, Reg.CX_CTRL.level_min, 0⟩]⟩,
  -- CX_STATUS
  ⟨0xF0004, 0, 1, 0, 1, [⟨0, 2, Reg.CX_STATUS.level_eff, 0⟩, ⟨2, 1, Reg.CX_STATUS.erased, 0⟩, ⟨3, 4, Reg.CX_STATUS.busy, 0⟩, ⟨16, 10, Reg.CX_STATUS.loaded, 0⟩]⟩,
  -- CX_THRU
  ⟨0xF0008, 0, 1, 0, 1, [⟨0, 32, Reg.CX_THRU.mbps, 0⟩]⟩,
  -- CX_PN_THRESH
  ⟨0xF000C, 0, 1, 0, 1, [⟨0, 32, Reg.CX_PN_THRESH.pn, 0⟩]⟩,
  -- CX_XPN_THRESH_HI
  ⟨0xF0010, 0, 1, 0, 1, [⟨0, 32, Reg.CX_XPN_THRESH_HI.xpn_hi, 0⟩]⟩,
  -- CX_FV_WEAR
  ⟨0xF0014, 0, 1, 0, 1, [⟨0, 16, Reg.CX_FV_WEAR.wear, 0⟩, ⟨16, 1, Reg.CX_FV_WEAR.pace_exceeded, 0⟩]⟩,
  -- CX_INT_STATUS
  ⟨0xF0020, 0, 1, 0, 1, [⟨0, 11, Reg.CX_INT_STATUS.event, 0⟩]⟩,
  -- CX_INT_EN
  ⟨0xF0024, 0, 1, 0, 1, [⟨0, 11, Reg.CX_INT_EN.enable, 0⟩]⟩,
  -- CX_QFILL
  ⟨0xF0040, 0x4, 8, 0, 1, [⟨0, 7, Reg.CX_QFILL.fill, 0⟩]⟩,
  -- CX_HOLD
  ⟨0xF0060, 0x4, 4, 0, 1, [⟨0, 9, Reg.CX_HOLD.used, 0⟩]⟩,
  -- CX_STAT_TAG_FAIL
  ⟨0xF0100, 0, 1, 0, 1, [⟨0, 32, Reg.CX_STAT_TAG_FAIL.value, 0⟩]⟩,
  -- CX_STAT_VOID
  ⟨0xF0104, 0, 1, 0, 1, [⟨0, 32, Reg.CX_STAT_VOID.value, 0⟩]⟩,
  -- CX_STAT_QFULL
  ⟨0xF0108, 0, 1, 0, 1, [⟨0, 32, Reg.CX_STAT_QFULL.value, 0⟩]⟩,
  -- CX_STAT_PROFILE_OK
  ⟨0xF010C, 0, 1, 0, 1, [⟨0, 32, Reg.CX_STAT_PROFILE_OK.value, 0⟩]⟩,
  -- CX_STAT_PROFILE_BAD
  ⟨0xF0110, 0, 1, 0, 1, [⟨0, 32, Reg.CX_STAT_PROFILE_BAD.value, 0⟩]⟩,
  -- CX_STAT_REQ
  ⟨0xF0114, 0, 1, 0, 1, [⟨0, 32, Reg.CX_STAT_REQ.value, 0⟩]⟩]

/-- Registers of the CX block, part 1. -/
def regsCX1 : List RegDef := [
  -- CX_SEC_entry
  ⟨0xF0200, 0, 1, 0, 1, [⟨0, 10, Reg.CX_SEC_entry.value, 0⟩]⟩,
  -- CX_SEC_ok
  ⟨0xF0204, 0, 1, 0, 1, [⟨0, 32, Reg.CX_SEC_ok.value, 0⟩]⟩,
  -- CX_SEC_duplicate
  ⟨0xF0208, 0, 1, 0, 1, [⟨0, 32, Reg.CX_SEC_duplicate.value, 0⟩]⟩,
  -- CX_SEC_replay
  ⟨0xF020C, 0, 1, 0, 1, [⟨0, 32, Reg.CX_SEC_replay.value, 0⟩]⟩,
  -- CX_SEC_auth_fail
  ⟨0xF0210, 0, 1, 0, 1, [⟨0, 32, Reg.CX_SEC_auth_fail.value, 0⟩]⟩,
  -- CX_SEC_short
  ⟨0xF0214, 0, 1, 0, 1, [⟨0, 32, Reg.CX_SEC_short.value, 0⟩]⟩,
  -- CX_SEC_lost
  ⟨0xF0218, 0, 1, 0, 1, [⟨0, 32, Reg.CX_SEC_lost.value, 0⟩]⟩,
  -- CX_MS_in_ok
  ⟨0xF0400, 0x40, 12, 0, 1, [⟨0, 32, Reg.CX_MS_in_ok.value, 0⟩]⟩,
  -- CX_MS_in_invalid
  ⟨0xF0404, 0x40, 12, 0, 1, [⟨0, 32, Reg.CX_MS_in_invalid.value, 0⟩]⟩,
  -- CX_MS_in_not_valid
  ⟨0xF0408, 0x40, 12, 0, 1, [⟨0, 32, Reg.CX_MS_in_not_valid.value, 0⟩]⟩,
  -- CX_MS_in_late
  ⟨0xF040C, 0x40, 12, 0, 1, [⟨0, 32, Reg.CX_MS_in_late.value, 0⟩]⟩,
  -- CX_MS_in_no_sa
  ⟨0xF0410, 0x40, 12, 0, 1, [⟨0, 32, Reg.CX_MS_in_no_sa.value, 0⟩]⟩,
  -- CX_MS_in_unchecked
  ⟨0xF0414, 0x40, 12, 0, 1, [⟨0, 32, Reg.CX_MS_in_unchecked.value, 0⟩]⟩,
  -- CX_MS_in_delayed
  ⟨0xF0418, 0x40, 12, 0, 1, [⟨0, 32, Reg.CX_MS_in_delayed.value, 0⟩]⟩,
  -- CX_MS_in_untagged
  ⟨0xF041C, 0x40, 12, 0, 1, [⟨0, 32, Reg.CX_MS_in_untagged.value, 0⟩]⟩,
  -- CX_MS_in_bad_tag
  ⟨0xF0420, 0x40, 12, 0, 1, [⟨0, 32, Reg.CX_MS_in_bad_tag.value, 0⟩]⟩]

/-- Registers of the CX block, part 2. -/
def regsCX2 : List RegDef := [
  -- CX_MS_out_protected
  ⟨0xF0424, 0x40, 12, 0, 1, [⟨0, 32, Reg.CX_MS_out_protected.value, 0⟩]⟩,
  -- CX_MS_out_encrypted
  ⟨0xF0428, 0x40, 12, 0, 1, [⟨0, 32, Reg.CX_MS_out_encrypted.value, 0⟩]⟩,
  -- CX_MS_out_untagged
  ⟨0xF042C, 0x40, 12, 0, 1, [⟨0, 32, Reg.CX_MS_out_untagged.value, 0⟩]⟩,
  -- CX_MS_out_exhausted
  ⟨0xF0430, 0x40, 12, 0, 1, [⟨0, 32, Reg.CX_MS_out_exhausted.value, 0⟩]⟩]

/-- Every register of the CX block. -/
def regsCX : List RegDef := regsCX0 ++ regsCX1 ++ regsCX2

/-- Registers of the TF block, part 0. -/
def regsTF0 : List RegDef := [
  -- TF_CTRL
  ⟨0x100000, 0, 1, 0, 1, [⟨0, 1, Reg.TF_CTRL.en, 0⟩, ⟨1, 1, Reg.TF_CTRL.coord_cap, 0⟩, ⟨2, 1, Reg.TF_CTRL.rra_en, 0⟩, ⟨3, 1, Reg.TF_CTRL.enc_en, 0⟩, ⟨4, 1, Reg.TF_CTRL.enc_req, 0⟩, ⟨5, 1, Reg.TF_CTRL.dual_sig, 0⟩, ⟨8, 3, Reg.TF_CTRL.rra_class, 0⟩]⟩,
  -- TF_STATUS
  ⟨0x100004, 0, 1, 0, 1, [⟨0, 3, Reg.TF_STATUS.state, 0⟩, ⟨3, 1, Reg.TF_STATUS.coordinator, 0⟩, ⟨4, 6, Reg.TF_STATUS.device_id, 0⟩, ⟨10, 6, Reg.TF_STATUS.coord_id, 0⟩, ⟨16, 16, Reg.TF_STATUS.route_gen, 0⟩]⟩,
  -- TF_UID0
  ⟨0x100008, 0, 1, 0, 1, [⟨0, 32, Reg.TF_UID.uid, 0⟩]⟩,
  -- TF_UID1
  ⟨0x10000C, 0, 1, 0, 1, [⟨0, 32, Reg.TF_UID.uid, 32⟩]⟩,
  -- TF_UID2
  ⟨0x100010, 0, 1, 0, 1, [⟨0, 32, Reg.TF_UID.uid, 64⟩]⟩,
  -- TF_COMPAT
  ⟨0x100014, 0, 1, 0, 1, [⟨0, 16, Reg.TF_COMPAT.compat, 0⟩]⟩,
  -- TF_DUAL_CLASS
  ⟨0x100018, 0, 1, 0, 1, [⟨0, 8, Reg.TF_DUAL_CLASS.mask, 0⟩]⟩,
  -- TF_LINK_TO
  ⟨0x10001C, 0, 1, 0, 1, [⟨0, 16, Reg.TF_LINK_TO.ms, 0⟩]⟩,
  -- TF_ACK_TO
  ⟨0x100020, 0, 1, 0, 1, [⟨0, 17, Reg.TF_ACK_TO.us, 0⟩]⟩,
  -- TF_NP_TO
  ⟨0x100024, 0, 1, 0, 1, [⟨0, 17, Reg.TF_NP_TO.us, 0⟩]⟩,
  -- TF_REKEY_S
  ⟨0x100028, 0, 1, 0, 1, [⟨0, 16, Reg.TF_REKEY_S.s, 0⟩]⟩,
  -- TF_FLOOD
  ⟨0x10002C, 0, 1, 0, 1, [⟨0, 4, Reg.TF_FLOOD.mask, 0⟩]⟩,
  -- TF_INT_STATUS
  ⟨0x100030, 0, 1, 0, 1, [⟨0, 15, Reg.TF_INT_STATUS.event, 0⟩, ⟨16, 1, Reg.TF_INT_STATUS.derr, 0⟩]⟩,
  -- TF_INT_EN
  ⟨0x100034, 0, 1, 0, 1, [⟨0, 15, Reg.TF_INT_EN.enable, 0⟩, ⟨16, 1, Reg.TF_INT_EN.enable, 16⟩]⟩,
  -- TF_SLEEVE
  ⟨0x100038, 0, 1, 0, 1, [⟨0, 1, Reg.TF_SLEEVE.force_a, 0⟩, ⟨1, 1, Reg.TF_SLEEVE.force_b, 0⟩, ⟨2, 1, Reg.TF_SLEEVE.open_a, 0⟩, ⟨3, 1, Reg.TF_SLEEVE.open_b, 0⟩]⟩,
  -- TF_KEY_SLOT
  ⟨0x10003C, 0, 1, 0, 1, [⟨0, 9, Reg.TF_KEY_SLOT.slot, 0⟩]⟩]

/-- Registers of the TF block, part 1. -/
def regsTF1 : List RegDef := [
  -- TF_LINK_CTRL
  ⟨0x100040, 0x4, 4, 0, 1, [⟨0, 1, Reg.TF_LINK_CTRL.en, 0⟩]⟩,
  -- TF_LINK_STATUS
  ⟨0x100050, 0x4, 4, 0, 1, [⟨0, 3, Reg.TF_LINK_STATUS.state, 0⟩, ⟨3, 1, Reg.TF_LINK_STATUS.encrypted, 0⟩, ⟨4, 6, Reg.TF_LINK_STATUS.neighbour, 0⟩, ⟨16, 16, Reg.TF_LINK_STATUS.retrains, 0⟩]⟩,
  -- TF_TRACK
  ⟨0x100080, 0x4, 4, 0, 1, [⟨0, 11, Reg.TF_TRACK.posted, 0⟩, ⟨16, 7, Reg.TF_TRACK.np, 0⟩]⟩,
  -- TF_DERR_PUT
  ⟨0x100090, 0, 1, 0, 1, [⟨0, 8, Reg.TF_DERR_PUT.put, 0⟩]⟩,
  -- TF_DERR_GET
  ⟨0x100094, 0, 1, 0, 1, [⟨0, 8, Reg.TF_DERR_GET.get, 0⟩]⟩,
  -- TF_STAT_TX
  ⟨0x100100, 0, 1, 0, 1, [⟨0, 32, Reg.TF_STAT_TX.value, 0⟩]⟩,
  -- TF_STAT_RX
  ⟨0x100104, 0, 1, 0, 1, [⟨0, 32, Reg.TF_STAT_RX.value, 0⟩]⟩,
  -- TF_STAT_TRANSIT
  ⟨0x100108, 0, 1, 0, 1, [⟨0, 32, Reg.TF_STAT_TRANSIT.value, 0⟩]⟩,
  -- TF_STAT_BAD
  ⟨0x10010C, 0, 1, 0, 1, [⟨0, 32, Reg.TF_STAT_BAD.value, 0⟩]⟩,
  -- TF_STAT_HOPS
  ⟨0x100110, 0, 1, 0, 1, [⟨0, 32, Reg.TF_STAT_HOPS.value, 0⟩]⟩,
  -- TF_STAT_NO_ROUTE
  ⟨0x100114, 0, 1, 0, 1, [⟨0, 32, Reg.TF_STAT_NO_ROUTE.value, 0⟩]⟩,
  -- TF_STAT_FLUSH
  ⟨0x100118, 0, 1, 0, 1, [⟨0, 32, Reg.TF_STAT_FLUSH.value, 0⟩]⟩,
  -- TF_STAT_PROT
  ⟨0x10011C, 0, 1, 0, 1, [⟨0, 32, Reg.TF_STAT_PROT.value, 0⟩]⟩,
  -- TF_STAT_DUAL_ELIM
  ⟨0x100120, 0, 1, 0, 1, [⟨0, 32, Reg.TF_STAT_DUAL_ELIM.value, 0⟩]⟩,
  -- TF_STAT_ENC_FAIL
  ⟨0x100124, 0, 1, 0, 1, [⟨0, 32, Reg.TF_STAT_ENC_FAIL.value, 0⟩]⟩,
  -- TF_STAT_DERR
  ⟨0x100128, 0, 1, 0, 1, [⟨0, 32, Reg.TF_STAT_DERR.value, 0⟩]⟩]

/-- Registers of the TF block, part 2. -/
def regsTF2 : List RegDef := [
  -- TF_STAT_DERR_LOST
  ⟨0x10012C, 0, 1, 0, 1, [⟨0, 32, Reg.TF_STAT_DERR_LOST.value, 0⟩]⟩,
  -- TF_STAT_LATE_RESP
  ⟨0x100130, 0, 1, 0, 1, [⟨0, 32, Reg.TF_STAT_LATE_RESP.value, 0⟩]⟩,
  -- TF_STAT_LOCK_TO
  ⟨0x100134, 0, 1, 0, 1, [⟨0, 32, Reg.TF_STAT_LOCK_TO.value, 0⟩]⟩]

/-- Every register of the TF block. -/
def regsTF : List RegDef := regsTF0 ++ regsTF1 ++ regsTF2

/-- Registers of the HB block, part 0. -/
def regsHB0 : List RegDef := [
  -- HB_ID
  ⟨0x110000, 0, 1, 0, 1, [⟨0, 16, Reg.HB_ID.vendor, 0⟩, ⟨16, 16, Reg.HB_ID.device, 0⟩]⟩,
  -- HB_STATUS
  ⟨0x110004, 0, 1, 0, 1, [⟨0, 1, Reg.HB_STATUS.link, 0⟩, ⟨1, 3, Reg.HB_STATUS.width, 0⟩, ⟨4, 3, Reg.HB_STATUS.speed, 0⟩, ⟨7, 1, Reg.HB_STATUS.bme, 0⟩, ⟨8, 5, Reg.HB_STATUS.rd_pend, 0⟩]⟩,
  -- HB_INT_STATUS
  ⟨0x110010, 0, 1, 0, 1, [⟨0, 7, Reg.HB_INT_STATUS.event, 0⟩]⟩,
  -- HB_INT_EN
  ⟨0x110014, 0, 1, 0, 1, [⟨0, 7, Reg.HB_INT_EN.enable, 0⟩]⟩,
  -- HB_RD_WAIT
  ⟨0x110018, 0, 1, 0, 1, [⟨0, 15, Reg.HB_RD_WAIT.us, 0⟩]⟩,
  -- HB_LAST_ERR
  ⟨0x110020, 0, 1, 0, 1, [⟨0, 4, Reg.HB_LAST_ERR.window, 0⟩, ⟨4, 1, Reg.HB_LAST_ERR.atomic, 0⟩, ⟨16, 16, Reg.HB_LAST_ERR.status, 0⟩]⟩,
  -- HB_LAST_ERR_OFF
  ⟨0x110024, 0, 1, 0, 1, [⟨0, 32, Reg.HB_LAST_ERR_OFF.offset, 0⟩]⟩,
  -- HB_WIN_CFG
  ⟨0x110100, 0x8, 16, 0, 1, [⟨0, 1, Reg.HB_WIN_CFG.en, 0⟩, ⟨1, 1, Reg.HB_WIN_CFG.prefetch, 0⟩, ⟨2, 1, Reg.HB_WIN_CFG.lane, 0⟩, ⟨3, 6, Reg.HB_WIN_CFG.device, 0⟩, ⟨9, 5, Reg.HB_WIN_CFG.size_log2, 0⟩]⟩,
  -- HB_WIN_BASE
  ⟨0x110104, 0x8, 16, 0, 1, [⟨0, 26, Reg.HB_WIN_BASE.base, 0⟩]⟩,
  -- HB_IRQ_MAP
  ⟨0x110200, 0x4, 48, 0, 1, [⟨0, 6, Reg.HB_IRQ_MAP.vector, 0⟩, ⟨6, 1, Reg.HB_IRQ_MAP.msix_en, 0⟩, ⟨7, 4, Reg.HB_IRQ_MAP.pins, 0⟩]⟩,
  -- HB_PIN_STATUS
  ⟨0x110300, 0, 1, 0, 1, [⟨0, 4, Reg.HB_PIN_STATUS.asserted, 0⟩]⟩,
  -- HB_STAT_RD_DEFER
  ⟨0x110500, 0, 1, 0, 1, [⟨0, 32, Reg.HB_STAT_RD_DEFER.value, 0⟩]⟩,
  -- HB_STAT_RD_DISCARD
  ⟨0x110504, 0, 1, 0, 1, [⟨0, 32, Reg.HB_STAT_RD_DISCARD.value, 0⟩]⟩,
  -- HB_STAT_REFUSED
  ⟨0x110508, 0, 1, 0, 1, [⟨0, 32, Reg.HB_STAT_REFUSED.value, 0⟩]⟩,
  -- HB_STAT_ATOMIC_FAIL
  ⟨0x11050C, 0, 1, 0, 1, [⟨0, 32, Reg.HB_STAT_ATOMIC_FAIL.value, 0⟩]⟩,
  -- HB_STAT_RING_DROP
  ⟨0x110510, 0, 1, 0, 1, [⟨0, 32, Reg.HB_STAT_RING_DROP.value, 0⟩]⟩]

/-- Registers of the HB block, part 1. -/
def regsHB1 : List RegDef := [
  -- HB_RING_BASE_LO
  ⟨0x110400, 0x20, 8, 0, 1, [⟨0, 32, Reg.HB_RING_BASE.base, 0⟩]⟩,
  -- HB_RING_BASE_HI
  ⟨0x110404, 0x20, 8, 0, 1, [⟨0, 32, Reg.HB_RING_BASE.base, 32⟩]⟩,
  -- HB_RING_SIZE
  ⟨0x110408, 0x20, 8, 0, 1, [⟨0, 4, Reg.HB_RING_SIZE.log2, 0⟩, ⟨31, 1, Reg.HB_RING_SIZE.en, 0⟩]⟩,
  -- HB_RING_TAIL
  ⟨0x11040C, 0x20, 8, 0, 1, [⟨0, 12, Reg.HB_RING_TAIL.tail, 0⟩]⟩,
  -- HB_RING_HEAD
  ⟨0x110410, 0x20, 8, 0, 1, [⟨0, 12, Reg.HB_RING_HEAD.head, 0⟩]⟩]

/-- Every register of the HB block. -/
def regsHB : List RegDef := regsHB0 ++ regsHB1

/-- Registers of the SYS block, part 0. -/
def regsSYS0 : List RegDef := [
  -- SYS_ID
  ⟨0x0, 0, 1, 0, 1, [⟨0, 16, Reg.SYS_ID.part, 0⟩, ⟨16, 8, Reg.SYS_ID.grade, 0⟩, ⟨24, 5, Reg.SYS_ID.rev, 0⟩]⟩,
  -- SYS_STATUS
  ⟨0x4, 0, 1, 0, 1, [⟨0, 4, Reg.SYS_STATUS.step, 0⟩, ⟨4, 1, Reg.SYS_STATUS.started, 0⟩, ⟨5, 1, Reg.SYS_STATUS.recovery, 0⟩, ⟨6, 1, Reg.SYS_STATUS.warm, 0⟩, ⟨7, 3, Reg.SYS_STATUS.lifecycle, 0⟩, ⟨10, 6, Reg.SYS_STATUS.device_id, 0⟩]⟩,
  -- SYS_RESET_CAUSE
  ⟨0x8, 0, 1, 0, 1, [⟨0, 4, Reg.SYS_RESET_CAUSE.cause, 0⟩, ⟨4, 4, Reg.SYS_RESET_CAUSE.fail_step, 0⟩]⟩,
  -- SYS_START_COUNT
  ⟨0xC, 0, 1, 0, 1, [⟨0, 32, Reg.SYS_START_COUNT.count, 0⟩]⟩,
  -- SYS_SCRATCH
  ⟨0x20, 0x4, 4, 0, 1, [⟨0, 32, Reg.SYS_SCRATCH.value, 0⟩]⟩,
  -- SYS_INT_STATUS
  ⟨0x30, 0, 1, 0, 1, [⟨0, 4, Reg.SYS_INT_STATUS.event, 0⟩]⟩,
  -- SYS_INT_EN
  ⟨0x34, 0, 1, 0, 1, [⟨0, 4, Reg.SYS_INT_EN.enable, 0⟩]⟩]

/-- Every register of the SYS block. -/
def regsSYS : List RegDef := regsSYS0

/-- Registers of the CMD block, part 0. -/
def regsCMD0 : List RegDef := [
  -- CMD_CTRL
  ⟨0x120000, 0, 1, 0, 1, [⟨0, 1, Reg.CMD_CTRL.pcie_en, 0⟩, ⟨1, 1, Reg.CMD_CTRL.spi_en, 0⟩, ⟨2, 1, Reg.CMD_CTRL.inb_en, 0⟩, ⟨3, 1, Reg.CMD_CTRL.fabric_en, 0⟩]⟩,
  -- CMD_STATUS
  ⟨0x120004, 0, 1, 0, 1, [⟨0, 9, Reg.CMD_STATUS.long_out, 0⟩, ⟨9, 1, Reg.CMD_STATUS.spi_cmd, 0⟩, ⟨10, 1, Reg.CMD_STATUS.spi_reply, 0⟩, ⟨16, 3, Reg.CMD_STATUS.nonces, 0⟩]⟩,
  -- CMD_ACL
  ⟨0x120008, 0, 1, 0, 1, [⟨0, 2, Reg.CMD_ACL.pcie, 0⟩, ⟨2, 2, Reg.CMD_ACL.spi, 0⟩, ⟨4, 2, Reg.CMD_ACL.inb, 0⟩, ⟨6, 2, Reg.CMD_ACL.fabric, 0⟩]⟩,
  -- CMD_FWD_TO
  ⟨0x12000C, 0, 1, 0, 1, [⟨0, 16, Reg.CMD_FWD_TO.ms, 0⟩]⟩,
  -- CMD_INT_STATUS
  ⟨0x120010, 0, 1, 0, 1, [⟨0, 4, Reg.CMD_INT_STATUS.cq, 0⟩, ⟨4, 2, Reg.CMD_INT_STATUS.evr, 0⟩, ⟨6, 1, Reg.CMD_INT_STATUS.spi_reply, 0⟩, ⟨7, 1, Reg.CMD_INT_STATUS.evr_ovf, 0⟩, ⟨8, 6, Reg.CMD_INT_STATUS.event, 0⟩]⟩,
  -- CMD_INT_EN
  ⟨0x120014, 0, 1, 0, 1, [⟨0, 14, Reg.CMD_INT_EN.enable, 0⟩]⟩,
  -- CMD_INB_CFG
  ⟨0x120020, 0, 1, 0, 1, [⟨0, 12, Reg.CMD_INB_CFG.ports, 0⟩, ⟨12, 9, Reg.CMD_INB_CFG.key0, 0⟩, ⟨21, 9, Reg.CMD_INB_CFG.key1, 0⟩]⟩,
  -- CMD_INB_MAC_LO
  ⟨0x120024, 0, 1, 0, 1, [⟨0, 32, Reg.CMD_INB_MAC.mac, 0⟩]⟩,
  -- CMD_INB_MAC_HI
  ⟨0x120028, 0, 1, 0, 1, [⟨0, 16, Reg.CMD_INB_MAC.mac, 32⟩]⟩,
  -- CMD_INB_SEQ
  ⟨0x12002C, 0x4, 2, 0, 1, [⟨0, 32, Reg.CMD_INB_SEQ.seq, 0⟩]⟩,
  -- CMD_EVT_FWD
  ⟨0x120040, 0, 1, 0, 1, [⟨0, 6, Reg.CMD_EVT_FWD.device, 0⟩, ⟨6, 1, Reg.CMD_EVT_FWD.en, 0⟩]⟩,
  -- CMD_EVT_FWD_MASK
  ⟨0x120044, 0, 1, 0, 1, [⟨1, 19, Reg.CMD_EVT_FWD_MASK.mask, 0⟩]⟩,
  -- CMD_STAT_ACCEPT
  ⟨0x120300, 0, 1, 0, 1, [⟨0, 32, Reg.CMD_STAT_ACCEPT.value, 0⟩]⟩,
  -- CMD_STAT_DISCARD
  ⟨0x120304, 0, 1, 0, 1, [⟨0, 32, Reg.CMD_STAT_DISCARD.value, 0⟩]⟩,
  -- CMD_STAT_DUP_TAG
  ⟨0x120308, 0, 1, 0, 1, [⟨0, 32, Reg.CMD_STAT_DUP_TAG.value, 0⟩]⟩,
  -- CMD_STAT_DENIED
  ⟨0x12030C, 0, 1, 0, 1, [⟨0, 32, Reg.CMD_STAT_DENIED.value, 0⟩]⟩]

/-- Registers of the CMD block, part 1. -/
def regsCMD1 : List RegDef := [
  -- CMD_STAT_INB_AUTH
  ⟨0x120310, 0, 1, 0, 1, [⟨0, 32, Reg.CMD_STAT_INB_AUTH.value, 0⟩]⟩,
  -- CMD_STAT_INB_REPLAY
  ⟨0x120314, 0, 1, 0, 1, [⟨0, 32, Reg.CMD_STAT_INB_REPLAY.value, 0⟩]⟩,
  -- CMD_STAT_FWD_LATE
  ⟨0x120318, 0, 1, 0, 1, [⟨0, 32, Reg.CMD_STAT_FWD_LATE.value, 0⟩]⟩,
  -- CMD_STAT_EVR_DROP
  ⟨0x12031C, 0, 1, 0, 1, [⟨0, 32, Reg.CMD_STAT_EVR_DROP.value, 0⟩]⟩,
  -- CMD_STAT_FWD_DROP
  ⟨0x120320, 0, 1, 0, 1, [⟨0, 32, Reg.CMD_STAT_FWD_DROP.value, 0⟩]⟩,
  -- CMD_STAT_SPI_DISCARD
  ⟨0x120324, 0, 1, 0, 1, [⟨0, 32, Reg.CMD_STAT_SPI_DISCARD.value, 0⟩]⟩,
  -- CMD_QP_SQ_BASE_LO
  ⟨0x120100, 0x40, 4, 0, 1, [⟨5, 27, Reg.CMD_QP_SQ_BASE.base, 5⟩]⟩,
  -- CMD_QP_SQ_BASE_HI
  ⟨0x120104, 0x40, 4, 0, 1, [⟨0, 32, Reg.CMD_QP_SQ_BASE.base, 32⟩]⟩,
  -- CMD_QP_CQ_BASE_LO
  ⟨0x120108, 0x40, 4, 0, 1, [⟨4, 28, Reg.CMD_QP_CQ_BASE.base, 4⟩]⟩,
  -- CMD_QP_CQ_BASE_HI
  ⟨0x12010C, 0x40, 4, 0, 1, [⟨0, 32, Reg.CMD_QP_CQ_BASE.base, 32⟩]⟩,
  -- CMD_QP_CTRL
  ⟨0x120110, 0x40, 4, 0, 1, [⟨0, 1, Reg.CMD_QP_CTRL.en, 0⟩]⟩,
  -- CMD_QP_SQ_TAIL
  ⟨0x120114, 0x40, 4, 0, 1, [⟨0, 8, Reg.CMD_QP_SQ_TAIL.tail, 0⟩]⟩,
  -- CMD_QP_SQ_HEAD
  ⟨0x120118, 0x40, 4, 0, 1, [⟨0, 8, Reg.CMD_QP_SQ_HEAD.head, 0⟩]⟩,
  -- CMD_QP_CQ_TAIL
  ⟨0x12011C, 0x40, 4, 0, 1, [⟨0, 8, Reg.CMD_QP_CQ_TAIL.tail, 0⟩, ⟨8, 1, Reg.CMD_QP_CQ_TAIL.phase, 0⟩]⟩,
  -- CMD_QP_CQ_HEAD
  ⟨0x120120, 0x40, 4, 0, 1, [⟨0, 8, Reg.CMD_QP_CQ_HEAD.head, 0⟩]⟩,
  -- CMD_EVR_BASE_LO
  ⟨0x120200, 0x20, 2, 0, 1, [⟨5, 27, Reg.CMD_EVR_BASE.base, 5⟩]⟩]

/-- Registers of the CMD block, part 2. -/
def regsCMD2 : List RegDef := [
  -- CMD_EVR_BASE_HI
  ⟨0x120204, 0x20, 2, 0, 1, [⟨0, 32, Reg.CMD_EVR_BASE.base, 32⟩]⟩,
  -- CMD_EVR_CFG
  ⟨0x120208, 0x20, 2, 0, 1, [⟨0, 1, Reg.CMD_EVR_CFG.en, 0⟩, ⟨1, 4, Reg.CMD_EVR_CFG.log2, 0⟩]⟩,
  -- CMD_EVR_MASK
  ⟨0x12020C, 0x20, 2, 0, 1, [⟨1, 19, Reg.CMD_EVR_MASK.mask, 0⟩]⟩,
  -- CMD_EVR_PUT
  ⟨0x120210, 0x20, 2, 0, 1, [⟨0, 12, Reg.CMD_EVR_PUT.put, 0⟩]⟩,
  -- CMD_EVR_GET
  ⟨0x120214, 0x20, 2, 0, 1, [⟨0, 12, Reg.CMD_EVR_GET.get, 0⟩]⟩]

/-- Every register of the CMD block. -/
def regsCMD : List RegDef := regsCMD0 ++ regsCMD1 ++ regsCMD2

/-- Registers of the WK block, part 0. -/
def regsWK0 : List RegDef := [
  -- WK_CTRL
  ⟨0x130000, 0, 1, 0, 1, [⟨0, 1, Reg.WK_CTRL.en, 0⟩, ⟨1, 1, Reg.WK_CTRL.lp_en, 0⟩]⟩,
  -- WK_STATUS
  ⟨0x130004, 0, 1, 0, 1, [⟨0, 3, Reg.WK_STATUS.state, 0⟩, ⟨3, 1, Reg.WK_STATUS.eligible, 0⟩, ⟨8, 8, Reg.WK_STATUS.last_src, 0⟩, ⟨16, 16, Reg.WK_STATUS.asleep, 0⟩]⟩,
  -- WK_PWR_CFG
  ⟨0x130008, 0, 1, 0, 1, [⟨0, 1, Reg.WK_PWR_CFG.eth_ok, 0⟩, ⟨1, 1, Reg.WK_PWR_CFG.tl_ok, 0⟩, ⟨2, 1, Reg.WK_PWR_CFG.pcie_ok, 0⟩, ⟨3, 1, Reg.WK_PWR_CFG.hib_en, 0⟩, ⟨4, 1, Reg.WK_PWR_CFG.doze_en, 0⟩, ⟨5, 1, Reg.WK_PWR_CFG.stby_en, 0⟩, ⟨16, 10, Reg.WK_PWR_CFG.idle_us, 0⟩]⟩,
  -- WK_THRESH_DOZE
  ⟨0x13000C, 0, 1, 0, 1, [⟨0, 32, Reg.WK_THRESH_DOZE.us, 0⟩]⟩,
  -- WK_THRESH_STBY
  ⟨0x130010, 0, 1, 0, 1, [⟨0, 32, Reg.WK_THRESH_STBY.ms, 0⟩]⟩,
  -- WK_THRESH_HIB
  ⟨0x130014, 0, 1, 0, 1, [⟨0, 32, Reg.WK_THRESH_HIB.s, 0⟩]⟩,
  -- WK_WAKE_SRC
  ⟨0x130018, 0, 1, 0, 1, [⟨0, 12, Reg.WK_WAKE_SRC.src, 0⟩, ⟨16, 1, Reg.WK_WAKE_SRC.entry_wake, 0⟩]⟩,
  -- WK_WAKE_REC
  ⟨0x130020, 0, 1, 0, 1, [⟨0, 6, Reg.WK_WAKE_REC.channel, 0⟩, ⟨6, 1, Reg.WK_WAKE_REC.xtd, 0⟩, ⟨7, 1, Reg.WK_WAKE_REC.valid, 0⟩, ⟨8, 4, Reg.WK_WAKE_REC.dlc, 0⟩]⟩,
  -- WK_WAKE_ID
  ⟨0x130024, 0, 1, 0, 1, [⟨0, 29, Reg.WK_WAKE_ID.id, 0⟩]⟩,
  -- WK_WAKE_DATA_LO
  ⟨0x130028, 0, 1, 0, 1, [⟨0, 32, Reg.WK_WAKE_DATA.data, 0⟩]⟩,
  -- WK_WAKE_DATA_HI
  ⟨0x13002C, 0, 1, 0, 1, [⟨0, 32, Reg.WK_WAKE_DATA.data, 32⟩]⟩,
  -- WK_INT_STATUS
  ⟨0x130030, 0, 1, 0, 1, [⟨0, 12, Reg.WK_INT_STATUS.event, 0⟩]⟩,
  -- WK_INT_EN
  ⟨0x130034, 0, 1, 0, 1, [⟨0, 12, Reg.WK_INT_EN.enable, 0⟩]⟩,
  -- WK_INH_CHANS
  ⟨0x130040, 0x8, 4, 0, 1, [⟨0, 32, Reg.WK_INH_CHANS.chans, 0⟩]⟩,
  -- WK_INH_CTRL
  ⟨0x130044, 0x8, 4, 0, 1, [⟨0, 1, Reg.WK_INH_CTRL.rel_stby, 0⟩, ⟨1, 1, Reg.WK_INH_CTRL.rel_hib, 0⟩, ⟨2, 1, Reg.WK_INH_CTRL.asserted, 0⟩]⟩,
  -- WK_PIN_CFG
  ⟨0x130060, 0x4, 4, 0, 1, [⟨0, 1, Reg.WK_PIN_CFG.en, 0⟩, ⟨1, 1, Reg.WK_PIN_CFG.edge, 0⟩, ⟨2, 4, Reg.WK_PIN_CFG.group, 0⟩, ⟨6, 1, Reg.WK_PIN_CFG.grp_en, 0⟩, ⟨16, 1, Reg.WK_PIN_CFG.level, 0⟩]⟩]

/-- Registers of the WK block, part 1. -/
def regsWK1 : List RegDef := [
  -- WK_CH_CFG
  ⟨0x130100, 0x4, 64, 0, 1, [⟨0, 5, Reg.WK_CH_CFG.group, 0⟩, ⟨5, 1, Reg.WK_CH_CFG.wup_en, 0⟩, ⟨6, 1, Reg.WK_CH_CFG.swk_en, 0⟩, ⟨7, 1, Reg.WK_CH_CFG.fd_tol, 0⟩, ⟨8, 2, Reg.WK_CH_CFG.rate, 0⟩, ⟨10, 5, Reg.WK_CH_CFG.fec_thresh, 0⟩, ⟨15, 1, Reg.WK_CH_CFG.xtd, 0⟩, ⟨16, 4, Reg.WK_CH_CFG.dlc, 0⟩, ⟨20, 1, Reg.WK_CH_CFG.dlc_en, 0⟩, ⟨21, 4, Reg.WK_CH_CFG.wup_to_ms, 0⟩]⟩,
  -- WK_CH_STATUS
  ⟨0x130200, 0x4, 64, 0, 1, [⟨0, 3, Reg.WK_CH_STATUS.xcvr, 0⟩, ⟨3, 1, Reg.WK_CH_STATUS.armed, 0⟩, ⟨4, 1, Reg.WK_CH_STATUS.cloak, 0⟩, ⟨5, 5, Reg.WK_CH_STATUS.fec, 0⟩, ⟨10, 1, Reg.WK_CH_STATUS.dom_to, 0⟩]⟩,
  -- WK_SWK_ID
  ⟨0x130300, 0x8, 32, 0, 1, [⟨0, 29, Reg.WK_SWK_ID.id, 0⟩]⟩,
  -- WK_SWK_MASK
  ⟨0x130304, 0x8, 32, 0, 1, [⟨0, 29, Reg.WK_SWK_MASK.mask, 0⟩]⟩,
  -- WK_SWK_DATA_LO
  ⟨0x130400, 0x8, 32, 0, 1, [⟨0, 32, Reg.WK_SWK_DATA.mask, 0⟩]⟩,
  -- WK_SWK_DATA_HI
  ⟨0x130404, 0x8, 32, 0, 1, [⟨0, 32, Reg.WK_SWK_DATA.mask, 32⟩]⟩,
  -- WK_STAT_SLEEP
  ⟨0x130800, 0, 1, 0, 1, [⟨0, 32, Reg.WK_STAT_SLEEP.value, 0⟩]⟩,
  -- WK_STAT_ABORT
  ⟨0x130804, 0, 1, 0, 1, [⟨0, 32, Reg.WK_STAT_ABORT.value, 0⟩]⟩,
  -- WK_STAT_WAKE
  ⟨0x130808, 0, 1, 0, 1, [⟨0, 32, Reg.WK_STAT_WAKE.value, 0⟩]⟩,
  -- WK_STAT_ENTRY_ABORT
  ⟨0x13080C, 0, 1, 0, 1, [⟨0, 32, Reg.WK_STAT_ENTRY_ABORT.value, 0⟩]⟩,
  -- WK_STAT_NM_TX
  ⟨0x130810, 0, 1, 0, 1, [⟨0, 32, Reg.WK_STAT_NM_TX.value, 0⟩]⟩,
  -- WK_STAT_NM_FAIL
  ⟨0x130814, 0, 1, 0, 1, [⟨0, 32, Reg.WK_STAT_NM_FAIL.value, 0⟩]⟩,
  -- WK_STAT_FEC_WAKE
  ⟨0x130818, 0, 1, 0, 1, [⟨0, 32, Reg.WK_STAT_FEC_WAKE.value, 0⟩]⟩,
  -- WK_STAT_DOM_TO
  ⟨0x13081C, 0, 1, 0, 1, [⟨0, 32, Reg.WK_STAT_DOM_TO.value, 0⟩]⟩,
  -- WK_STAT_SCHED_LATE
  ⟨0x130820, 0, 1, 0, 1, [⟨0, 32, Reg.WK_STAT_SCHED_LATE.value, 0⟩]⟩,
  -- WK_STAT_OFFENDER
  ⟨0x130824, 0, 1, 0, 1, [⟨0, 32, Reg.WK_STAT_OFFENDER.value, 0⟩]⟩]

/-- Registers of the WK block, part 2. -/
def regsWK2 : List RegDef := [
  -- WK_GRP_CFG
  ⟨0x130600, 0x20, 16, 0, 1, [⟨0, 1, Reg.WK_GRP_CFG.en, 0⟩, ⟨1, 1, Reg.WK_GRP_CFG.xcvr_sleep, 0⟩, ⟨2, 1, Reg.WK_GRP_CFG.nm_tx, 0⟩, ⟨3, 8, Reg.WK_GRP_CFG.node_id, 0⟩, ⟨11, 1, Reg.WK_GRP_CFG.nm_xtd, 0⟩, ⟨12, 3, Reg.WK_GRP_CFG.nid_byte, 0⟩]⟩,
  -- WK_GRP_NM_ID
  ⟨0x130604, 0x20, 16, 0, 1, [⟨0, 29, Reg.WK_GRP_NM_ID.id, 0⟩]⟩,
  -- WK_GRP_NM_MASK
  ⟨0x130608, 0x20, 16, 0, 1, [⟨0, 29, Reg.WK_GRP_NM_MASK.mask, 0⟩]⟩,
  -- WK_GRP_TIMERS1
  ⟨0x13060C, 0x20, 16, 0, 1, [⟨0, 16, Reg.WK_GRP_TIMERS1.nm_period_ms, 0⟩, ⟨16, 16, Reg.WK_GRP_TIMERS1.nm_timeout_ms, 0⟩]⟩,
  -- WK_GRP_TIMERS2
  ⟨0x130610, 0x20, 16, 0, 1, [⟨0, 16, Reg.WK_GRP_TIMERS2.prepare_ms, 0⟩, ⟨16, 16, Reg.WK_GRP_TIMERS2.keep_awake_ms, 0⟩]⟩,
  -- WK_GRP_STATUS
  ⟨0x130614, 0x20, 16, 0, 1, [⟨0, 3, Reg.WK_GRP_STATUS.state, 0⟩, ⟨3, 1, Reg.WK_GRP_STATUS.local_, 0⟩, ⟨4, 1, Reg.WK_GRP_STATUS.wake_hold, 0⟩, ⟨5, 9, Reg.WK_GRP_STATUS.requesting, 0⟩, ⟨14, 1, Reg.WK_GRP_STATUS.watching, 0⟩, ⟨15, 8, Reg.WK_GRP_STATUS.watched, 0⟩]⟩,
  -- WK_GRP_NM_DATA_LO
  ⟨0x130618, 0x20, 16, 0, 1, [⟨0, 32, Reg.WK_GRP_NM_DATA.data, 0⟩]⟩,
  -- WK_GRP_NM_DATA_HI
  ⟨0x13061C, 0x20, 16, 0, 1, [⟨0, 32, Reg.WK_GRP_NM_DATA.data, 32⟩]⟩]

/-- Every register of the WK block. -/
def regsWK : List RegDef := regsWK0 ++ regsWK1 ++ regsWK2

/-- Registers of the BT block, part 0. -/
def regsBT0 : List RegDef := [
  -- BT_CTRL
  ⟨0x140000, 0, 1, 0, 1, [⟨0, 1, Reg.BT_CTRL.confirm_req, 0⟩, ⟨1, 1, Reg.BT_CTRL.snapshot_en, 0⟩]⟩,
  -- BT_STATUS
  ⟨0x140004, 0, 1, 0, 1, [⟨0, 4, Reg.BT_STATUS.step, 0⟩, ⟨4, 2, Reg.BT_STATUS.state, 0⟩, ⟨6, 1, Reg.BT_STATUS.recovery, 0⟩, ⟨7, 1, Reg.BT_STATUS.warm, 0⟩, ⟨8, 1, Reg.BT_STATUS.fw_slot, 0⟩, ⟨9, 1, Reg.BT_STATUS.ws_slot, 0⟩, ⟨10, 1, Reg.BT_STATUS.tbl_slot, 0⟩, ⟨11, 1, Reg.BT_STATUS.fab_prepared, 0⟩, ⟨12, 1, Reg.BT_STATUS.snapshot_used, 0⟩]⟩,
  -- BT_FAIL
  ⟨0x140008, 0, 1, 0, 1, [⟨0, 4, Reg.BT_FAIL.step, 0⟩, ⟨4, 8, Reg.BT_FAIL.reason, 0⟩, ⟨12, 4, Reg.BT_FAIL.count, 0⟩]⟩,
  -- BT_ALT
  ⟨0x14000C, 0, 1, 0, 1, [⟨1, 13, Reg.BT_ALT.alt, 0⟩]⟩,
  -- BT_SLOT
  ⟨0x140010, 0, 1, 0, 1, [⟨0, 8, Reg.BT_SLOT.fw_a, 0⟩, ⟨8, 8, Reg.BT_SLOT.fw_b, 0⟩, ⟨16, 8, Reg.BT_SLOT.tbl_a, 0⟩, ⟨24, 8, Reg.BT_SLOT.tbl_b, 0⟩]⟩,
  -- BT_VER_ACTIVE
  ⟨0x140014, 0, 1, 0, 1, [⟨0, 32, Reg.BT_VER_ACTIVE.version, 0⟩]⟩,
  -- BT_VER_PREV
  ⟨0x140018, 0, 1, 0, 1, [⟨0, 32, Reg.BT_VER_PREV.version, 0⟩]⟩,
  -- BT_HWREV
  ⟨0x14001C, 0, 1, 0, 1, [⟨0, 5, Reg.BT_HWREV.rev, 0⟩]⟩,
  -- BT_SECVER
  ⟨0x140020, 0, 1, 0, 1, [⟨0, 16, Reg.BT_SECVER.min, 0⟩, ⟨16, 16, Reg.BT_SECVER.active, 0⟩]⟩,
  -- BT_FAB_TO
  ⟨0x140024, 0, 1, 0, 1, [⟨0, 16, Reg.BT_FAB_TO.ms, 0⟩]⟩,
  -- BT_INT_STATUS
  ⟨0x140030, 0, 1, 0, 1, [⟨0, 11, Reg.BT_INT_STATUS.event, 0⟩]⟩,
  -- BT_INT_EN
  ⟨0x140034, 0, 1, 0, 1, [⟨0, 11, Reg.BT_INT_EN.enable, 0⟩]⟩]

/-- Every register of the BT block. -/
def regsBT : List RegDef := regsBT0

/-- Registers of the LC block, part 0. -/
def regsLC0 : List RegDef := [
  -- LC_STATUS
  ⟨0x150000, 0, 1, 0, 1, [⟨0, 3, Reg.LC_STATUS.state, 0⟩, ⟨3, 2, Reg.LC_STATUS.level, 0⟩, ⟨5, 1, Reg.LC_STATUS.tamper, 0⟩, ⟨6, 1, Reg.LC_STATUS.lockout, 0⟩, ⟨7, 1, Reg.LC_STATUS.sp_halted, 0⟩, ⟨8, 8, Reg.LC_STATUS.unlock_fails, 0⟩, ⟨16, 16, Reg.LC_STATUS.session_min, 0⟩]⟩,
  -- LC_ALARM
  ⟨0x150004, 0, 1, 0, 1, [⟨0, 5, Reg.LC_ALARM.latched, 0⟩, ⟨16, 5, Reg.LC_ALARM.active, 0⟩]⟩,
  -- LC_VKEY
  ⟨0x150010, 0x4, 8, 0, 1, [⟨0, 2, Reg.LC_VKEY.state, 0⟩, ⟨2, 1, Reg.LC_VKEY.curve, 0⟩, ⟨3, 3, Reg.LC_VKEY.purpose, 0⟩]⟩,
  -- LC_INT_STATUS
  ⟨0x150030, 0, 1, 0, 1, [⟨0, 7, Reg.LC_INT_STATUS.event, 0⟩]⟩,
  -- LC_INT_EN
  ⟨0x150034, 0, 1, 0, 1, [⟨0, 7, Reg.LC_INT_EN.enable, 0⟩]⟩]

/-- Every register of the LC block. -/
def regsLC : List RegDef := regsLC0

/-- The register map of the block whose 64 KiB window (256 KiB for CAN) holds the local address `a` (Table 15.2). -/
def regsOfBlock (a : Nat) : List RegDef :=
  match a / 0x10000 with
  | 0 => regsSYS
  | 1 => regsDT
  | 2 => regsMP
  | 3 => regsLR
  | 4 | 5 | 6 | 7 => regsCAN
  | 8 => regsETH
  | 9 => regsSW
  | 10 => regsFT
  | 11 => regsPE
  | 12 => regsCL
  | 13 => regsSG
  | 14 => regsCK
  | 15 => regsCX
  | 16 => regsTF
  | 17 => regsHB
  | 18 => regsCMD
  | 19 => regsWK
  | 20 => regsBT
  | 21 => regsLC
  | _ => []

end Sys2Proof.Machine
end

