-- ==== Sys2Proof/Machine/Views.lean ====
section
/-! DEFINITION. What a read of a register shows (R4, R5): the register at an address, the fields whose value is a view of a
block's state, the words of the areas that are no registers, and what a read changes. -/

namespace Sys2Proof.Machine

/-! ### The register at an address (Table 15.2) -/

/-- The instance numbers of the copy of `r` that stands at address `a`. -/
def RegDef.inst (r : RegDef) (a : Nat) : Option (Nat × Nat) :=
  if a < r.addr then none
  else
    let d := a - r.addr
    let (i, j, rest) :=
      if r.s2 ≤ r.s1 then (d / r.s1, d % r.s1 / r.s2, d % r.s1 % r.s2) else (d % r.s2 / r.s1, d / r.s2, d % r.s2 % r.s1)
    if i < r.n1 ∧ j < r.n2 ∧ rest = 0 then some (i, j) else none

/-- The register at address `a` with its instance numbers. -/
def regAt (a : Nat) : Option (RegDef × Nat × Nat) :=
  (regsOfBlock a).findSome? (fun r => (r.inst a).map (fun x => (r, x)))

/-! ### Fields that are views of state -/

/-- Whether a debug level of at least `l` is in force (R482). -/
def debugLevel (s : State) (l : Nat) : Bool := decide (l ≤ rd s Reg.LC_STATUS.level)

/-- The engine the PE debug registers address. -/
def dbgNo (s : State) : Nat := rd s Reg.PE_DBG_SEL.engine

/-- A value of that engine, 0 below debug level observe (R274). -/
def dbgSees (s : State) (f : Engine → Nat) : Nat := if debugLevel s 1 then f (engineAt s (dbgNo s)) else 0

/-- The word of breakpoint `k` of the engine addressed. -/
def bpField (lo len : Nat) : State → Nat → Nat → Nat := fun s k _ => dbgSees s (fun g => bitsOf (g.bps.getD k 0) lo len)

/-- The fill of the fullest CAN route bucket. -/
def fullestBucket (s : State) : Nat :=
  let used := (s.sg.canRoutes.filter (fun e => Canrt.valid e.2)).map (fun e => e.1 / 8)
  used.foldl (fun m b => max m (used.count b)) 0

/-- The throughput of one cipher pipeline in force (R324). -/
def cipherThroughput (s : State) : Nat :=
  let b := boundValue s 6
  if rd s Reg.CX_CTRL.level = 2 then b * 7 / 8 else b

/-- The state of image slot `k`. -/
def slotState (s : State) (k : Nat) : Nat := (imageSlot s k).state

/-- A count held for a selected policer or recovery function. -/
def polStat (k : Nat) : State → Nat → Nat → Nat := fun s _ _ => Tab.get s.sw.polStats (8 * rd s Reg.SW_POL_policer.value + k) 0
def cbStat (k : Nat) : State → Nat → Nat → Nat := fun s _ _ => Tab.get s.sw.cbStats (8 * rd s Reg.SW_CB_function.value + k) 0

/-- A count held for the selected secured PDU entry. -/
def secStat (k : Nat) : State → Nat → Nat → Nat := fun s _ _ => Tab.get s.cx.secStats (8 * rd s Reg.CX_SEC_entry.value + k) 0

/-- A view of one value of the whole device. -/
def one (f : State → Nat) : State → Nat → Nat → Nat := fun s _ _ => f s

/-- A view of one value per instance. -/
def each (f : State → Nat → Nat) : State → Nat → Nat → Nat := fun s i _ => f s i

/-- What a view of `f` for field `fld` is. -/
abbrev LiveField := Fld × (State → Nat → Nat → Nat)

/-- Chapters 1 and 2. Two supplies are measured at the die: what they read is a free value. -/
def liveTime : List LiveField := [
  (Reg.DT_NOW_LO.dt_lo, one dtNow),
  (Reg.DT_NOW_HI.dt_hi, one (fun s => dtNow s / 2 ^ 32)),
  (Reg.DT_STATUS.synced, one (fun s => b2n (dtSynced s))),
  (Reg.DT_UNCERT.u_ns, one (fun s => min (uNow s) 0xFFFFFFFF)),
  (Reg.DT_RATE_ADJ.ppb, one (fun s => pattern 32 (rateAdj s))),
  (Reg.MP_VDD_MEAS.vdd_core_mv, one (fun s => freeIn s 0 65535)),
  (Reg.MP_VDD_MEAS.vdd_sram_mv, one (fun s => freeIn (drawn s) 0 65535)),
  (Reg.MP_HEM.hem, one hemInForce),
  (Reg.LR_WEAR.wear, one (fun s => min (wearPermille s) 65535)),
  (Reg.LR_WEAR.life, one (fun s => min (lifePermille s) 65535))]

/-- Chapters 3 and 4. -/
def liveCan : List LiveField := [
  (Reg.CAN_STATUS.activity, each canActivity),
  (Reg.CAN_TXBUF_PEND.pend, each pendMask),
  (Reg.CAN_TXBUF_REQ.req, each pendMask),
  (Reg.CAN_TXQ_STATUS.host_pending, each (fun s n => (canQueueFill s n).1)),
  (Reg.CAN_TXQ_STATUS.gw_pending, each (fun s n => (canQueueFill s n).2)),
  (Reg.CAN_XBTIM.brp, each (fun s n => if n < 32 then 0 else rd s Reg.CAN_XBTIM.brp n)),
  (Reg.CAN_XBTIM.tseg1, each (fun s n => if n < 32 then 0 else rd s Reg.CAN_XBTIM.tseg1 n)),
  (Reg.CAN_XBTIM.tseg2, each (fun s n => if n < 32 then 0 else rd s Reg.CAN_XBTIM.tseg2 n)),
  (Reg.CAN_XBTIM.sjw, each (fun s n => if n < 32 then 0 else rd s Reg.CAN_XBTIM.sjw n))]

/-- Chapters 5 to 7. -/
def liveGateway : List LiveField := [
  (Reg.SG_CANRT_USED.used, one (fun s => s.sg.canRoutes.countP (fun e => Canrt.valid e.2))),
  (Reg.SG_CANRT_USED.max_bucket, one fullestBucket),
  (Reg.SG_BA_FREE.free, one freeBlocks),
  (Reg.SG_BA_FREE.run, one longestRun),
  (Reg.SG_CHRATE_STAT.tokens, each (fun s n => (bucketNow s n).units / sec)),
  (Reg.SG_CHRATE_STAT.waiters, each (fun s n => (waitersOf s n).length)),
  (Reg.CK_STATUS.valid, one (fun s => s.sg.checks.countP (fun e => Ck.valid e.2)))]

/-- Chapters 8 and 9. -/
def liveSwitch : List LiveField := [
  (Reg.ETH_TAS_STATUS.gates, each (fun s p => rd (gateSync s p) Reg.ETH_TAS_STATUS.gates p)),
  (Reg.ETH_TAS_STATUS.entry, each (fun s p => rd (gateSync s p) Reg.ETH_TAS_STATUS.entry p)),
  (Reg.ETH_CBS_CREDIT.credit, fun s p c => pattern 32 (satSigned 32 ((creditOf (gateSync s p) p c).value / 1000000))),
  (Reg.SW_BUF.used, one usedCells),
  (Reg.SW_BUF.shared_free, one (fun s => (sharedFree s).toNat)),
  (Reg.SW_CLASS_USED.used, each classCells),
  (Reg.SW_IN_USED.used, each inputCells),
  (Reg.SW_VOQ_STAT.cells, one (fun s => min (voqCells s (rd s Reg.SW_VOQ_SEL.voq)) 65535)),
  (Reg.SW_VOQ_STAT.frames, one (fun s => min (voqFrames s (rd s Reg.SW_VOQ_SEL.voq)) 65535)),
  (Reg.SW_POL_matched.value, polStat 0),
  (Reg.SW_POL_green.value, polStat 1),
  (Reg.SW_POL_yellow.value, polStat 2),
  (Reg.SW_POL_red.value, polStat 3),
  (Reg.SW_POL_sdu.value, polStat 4),
  (Reg.SW_CB_passed.value, cbStat 0),
  (Reg.SW_CB_discarded.value, cbStat 1),
  (Reg.SW_CB_rogue.value, cbStat 2),
  (Reg.SW_CB_ooo.value, cbStat 3),
  (Reg.SW_CB_lost.value, cbStat 4),
  (Reg.SW_CB_tagless.value, cbStat 5),
  (Reg.SW_CB_resets.value, cbStat 6),
  (Reg.FT_L2_USED.used, one l2Used),
  (Reg.FT_L2_STATIC.static, one l2Statics),
  (Reg.FT_LEARN_Q.pending, one (fun s => s.ft.learnQ.length)),
  (Reg.FT_LPM_USED.nodes, one nodesUsed),
  (Reg.FT_LPM_PFX.ipv4, one (fun s => s.ft.pfx4.length)),
  (Reg.FT_LPM_PFX.ipv6, one (fun s => s.ft.pfx6.length))]

/-- Chapter 10. -/
def liveParse : List LiveField := [
  (Reg.PE_STATUS.loading, one (fun s => b2n s.pe.load.isSome)),
  (Reg.PE_STATUS.halted, one (fun s => s.pe.engines.countP (fun e => e.2.halted))),
  (Reg.PE_RESULT_USED.used, one (fun s => s.pe.results.length)),
  (Reg.PE_ENG_STATUS.busy, each (fun s e => b2n ((engineAt s e).frame.isSome && !(engineAt s e).waiting))),
  (Reg.PE_ENG_STATUS.halted, each (fun s e => b2n (engineAt s e).halted)),
  (Reg.PE_ENG_STATUS.detached, each (fun s e => b2n (engineAt s e).detached)),
  (Reg.PE_ENG_STATUS.pc, each (fun s e => (engineAt s e).pc)),
  (Reg.PE_ENG_STATUS.input, each (fun s e => (engineAt s e).input)),
  (Reg.PE_ENG_STATUS.pass, each (fun s e => (engineAt s e).passNo)),
  (Reg.PE_ENG_STATUS.bank, each (fun s e => (engineAt s e).bank)),
  (Reg.PE_DBG_SEL.engine, one (fun s => if debugLevel s 1 then dbgNo s else 0)),
  (Reg.PE_DBG_STATE.halted, one (fun s => dbgSees s (fun g => b2n g.halted))),
  (Reg.PE_DBG_STATE.detached, one (fun s => dbgSees s (fun g => b2n g.detached))),
  (Reg.PE_DBG_STATE.cause, one (fun s => dbgSees s (fun g => g.cause))),
  (Reg.PE_DBG_STATE.bp, one (fun s => dbgSees s (fun g => g.bp))),
  (Reg.PE_DBG_STATE.pc, one (fun s => dbgSees s (fun g => g.pc))),
  (Reg.PE_DBG_STATE.slots, one (fun s => dbgSees s (fun g => g.slots))),
  (Reg.PE_DBG_C.c, one (fun s => dbgSees s (fun g => g.c))),
  (Reg.PE_BP.addr, bpField 0 14),
  (Reg.PE_BP.input, bpField 14 5),
  (Reg.PE_BP.input_en, bpField 19 1),
  (Reg.PE_BP.pass, bpField 20 2),
  (Reg.PE_BP.pass_en, bpField 22 1),
  (Reg.PE_BP.bank, bpField 23 1),
  (Reg.PE_BP.en, bpField 31 1),
  (Reg.PE_DBG_G.value, each (fun s i => dbgSees s (fun g => g.gr i))),
  (Reg.PE_DBG_M.value, each (fun s i => dbgSees s (fun g => g.mr i)))]

/-- Chapter 11. The miss action shown is the open turn's, or else the newest committed turn's (R4). -/
def liveClass : List LiveField := [
  (Reg.CL_TURN_STATUS.current, one (fun s => s.cl.current)),
  (Reg.CL_TURN_STATUS.open_, one (fun s => b2n s.cl.open_.isSome)),
  (Reg.CL_TURN_STATUS.pending, one (fun s => b2n (s.cl.commit.any (fun c => c.stalled)))),
  (Reg.CL_TURN_STATUS.live, one liveWindow),
  (Reg.CL_ENTRY_USE.used, one (fun s => s.cl.entries.length)),
  (Reg.CL_ENTRY_USE.dying, one (fun s => s.cl.entries.countP (fun e => e.2.death.isSome))),
  (Reg.CL_STAGED.adds, one (fun s => (s.cl.open_.map (fun o => o.adds.length)).getD 0)),
  (Reg.CL_STAGED.dels, one (fun s => (s.cl.open_.map (fun o => o.dels.length)).getD 0)),
  (Reg.CL_MISS_ACT.a0, one (fun s => (s.cl.open_.map (fun o => o.miss)).getD (missOf s s.cl.current))),
  (Reg.CL_TURN_FLIGHT.turn, each (fun s k => (s.cl.current + 65536 - k) % 65536)),
  (Reg.CL_TURN_FLIGHT.frames, each (fun s k => carriers s ((s.cl.current + 65536 - k) % 65536))),
  (Reg.CL_HIT_hits.value, one (fun s => Tab.get s.cl.hits (rd s Reg.CL_HIT_rule_id.value) 0))]

/-- Chapters 13 and 14. -/
def liveCipher : List LiveField := [
  (Reg.CX_STATUS.level_eff, one (fun s => rd s Reg.CX_CTRL.level)),
  (Reg.CX_STATUS.busy, one (fun s => ((List.range 4).map (fun k => b2n (s.cx.reqs.any (fun r => r.pipe == some k)) * 2 ^ k)).sum)),
  (Reg.CX_STATUS.loaded, one (fun s => s.cx.slots.countP (fun k => k.2.state == 1))),
  (Reg.CX_THRU.mbps, one cipherThroughput),
  (Reg.CX_QFILL.fill, each queueFill),
  (Reg.CX_HOLD.used, each holdUsed),
  (Reg.CX_SEC_ok.value, secStat 0),
  (Reg.CX_SEC_duplicate.value, secStat 1),
  (Reg.CX_SEC_replay.value, secStat 2),
  (Reg.CX_SEC_auth_fail.value, secStat 3),
  (Reg.CX_SEC_short.value, secStat 4),
  (Reg.CX_SEC_lost.value, secStat 5),
  (Reg.TF_TRACK.posted, each (fun s i => outstandingOf s i false)),
  (Reg.TF_TRACK.np, each (fun s i => outstandingOf s i true))]

/-- Chapters 15 and 16. -/
def liveHost : List LiveField := [
  (Reg.HB_STATUS.rd_pend, one deferredCount),
  (Reg.HB_PIN_STATUS.asserted, one (fun s => ((List.range 4).map (fun k => b2n (pinAsserted s k) * 2 ^ k)).sum)),
  (Reg.SYS_STATUS.step, one (fun s => rd s Reg.BT_STATUS.step)),
  (Reg.SYS_STATUS.started, one (fun s => b2n (coreOn s && rd s Reg.BT_STATUS.step == 13))),
  (Reg.SYS_STATUS.recovery, one (fun s => b2n s.bt.record.recovery)),
  (Reg.SYS_STATUS.warm, one (fun s => rd s Reg.BT_STATUS.warm)),
  (Reg.SYS_STATUS.lifecycle, one (fun s => rd s Reg.LC_STATUS.state)),
  (Reg.SYS_STATUS.device_id, one ownId),
  (Reg.SYS_START_COUNT.count, one (fun s => s.bt.record.startCount)),
  (Reg.CMD_STATUS.long_out, one (fun s => s.cmd.long.countP (fun l => callLive s l.call))),
  (Reg.CMD_STATUS.spi_cmd, one (fun s => b2n s.cmd.spiBusy)),
  (Reg.CMD_STATUS.spi_reply, one (fun s => b2n s.cmd.spiReply.isSome)),
  (Reg.CMD_STATUS.nonces, one (fun s => s.cmd.nonces.countP (fun n => decide (s.now ≤ n.issued + 60 * sec))))]

/-- Chapters 17 to 19. -/
def livePower : List LiveField := [
  (Reg.WK_STATUS.eligible, one (fun s => b2n (lowPowerEligible s))),
  (Reg.WK_STATUS.asleep, one (fun s => ((List.range 16).map (fun g => b2n ((grpAt s g).state == 4) * 2 ^ g)).sum)),
  (Reg.WK_INH_CTRL.asserted, each (fun s k => b2n (inhAsserted s k))),
  (Reg.WK_CH_STATUS.xcvr, each xcvrOf),
  (Reg.WK_CH_STATUS.armed, each (fun s n => b2n (armedOf s n))),
  (Reg.WK_CH_STATUS.cloak, each (fun s n => rd s Reg.CAN_STATUS.cloak n)),
  (Reg.WK_GRP_STATUS.state, each (fun s g => (grpAt s g).state)),
  (Reg.WK_GRP_STATUS.local_, each (fun s g => b2n (grpAt s g).local_)),
  (Reg.WK_GRP_STATUS.wake_hold, each (fun s g => b2n (grpAt s g).holdEnd.isSome)),
  (Reg.WK_GRP_STATUS.requesting, each (fun s g => (grpAt s g).nodes.length)),
  (Reg.WK_GRP_STATUS.watching, each (fun s g => b2n (grpAt s g).watch.isSome)),
  (Reg.WK_GRP_STATUS.watched, each (fun s g => ((grpAt s g).watch.map (fun w => w.1.node)).getD 0)),
  (Reg.BT_STATUS.state, one (fun s => s.bt.record.state)),
  (Reg.BT_STATUS.recovery, one (fun s => b2n s.bt.record.recovery)),
  (Reg.BT_STATUS.fw_slot, one (fun s => s.bt.record.fw)),
  (Reg.BT_STATUS.ws_slot, one (fun s => s.bt.record.ws)),
  (Reg.BT_STATUS.tbl_slot, one (fun s => s.bt.record.tbl)),
  (Reg.BT_STATUS.fab_prepared, one (fun s => b2n s.bt.record.fabPrepared)),
  (Reg.BT_FAIL.step, one (fun s => s.bt.record.failStep)),
  (Reg.BT_FAIL.reason, one (fun s => s.bt.record.failReason)),
  (Reg.BT_FAIL.count, one (fun s => min 15 (Tab.get s.bt.record.fails s.bt.record.failStep 0))),
  (Reg.BT_ALT.alt, one (fun s => s.bt.record.alt / 2)),
  (Reg.BT_SLOT.fw_a, one (fun s => slotState s 0)),
  (Reg.BT_SLOT.fw_b, one (fun s => slotState s 1)),
  (Reg.BT_SLOT.tbl_a, one (fun s => slotState s 2)),
  (Reg.BT_SLOT.tbl_b, one (fun s => slotState s 3)),
  (Reg.BT_VER_ACTIVE.version, one (fun s => s.bt.record.verActive)),
  (Reg.BT_VER_PREV.version, one (fun s => s.bt.record.verPrev)),
  (Reg.BT_SECVER.min, one (fun s => s.bt.record.secverMin)),
  (Reg.BT_SECVER.active, one (fun s => Header.secver (activeHeader s))),
  (Reg.LC_STATUS.lockout, one (fun s => b2n (decide (s.now < s.lc.lockoutEnd)))),
  (Reg.LC_STATUS.sp_halted, one (fun s => b2n (s.lc.cps.any (fun c => c.1 == 2 && c.2.halted)))),
  (Reg.LC_STATUS.session_min, one (fun s => if rd s Reg.LC_STATUS.level = 0 then 0 else ceilDiv (s.lc.sessionEnd - s.now) (60 * sec))),
  (Reg.LC_VKEY.state, each (fun s k => (verifKey s k).state)),
  (Reg.LC_VKEY.curve, each (fun s k => (verifKey s k).curve)),
  (Reg.LC_VKEY.purpose, each (fun s k => (verifKey s k).purpose))]

/-- The fields that are views, by the 64 KiB block an address lies in. -/
def liveOf (a : Nat) : List LiveField :=
  match a / 0x10000 with
  | 1 | 2 | 3 => liveTime
  | 4 | 5 | 6 | 7 => liveCan
  | 8 | 9 | 10 => liveSwitch
  | 11 => liveParse
  | 12 => liveClass
  | 13 | 14 => liveGateway
  | 15 | 16 => liveCipher
  | 19 | 20 | 21 => livePower
  | _ => liveHost

/-- The value of a field as a read shows it. -/
def fieldView (s : State) (f : Fld) (i j : Nat) : Nat :=
  match (liveOf f.addr).find? (fun x => decide (x.1 = f)) with
  | some (_, v) => v s i j % 2 ^ f.len
  | none => rd s f i j

/-! ### Words -/

/-- The word of register `r`, instance `(i, j)`. -/
def regWord (s : State) (r : RegDef) (i j : Nat) : Nat :=
  (r.parts.map (fun p => bitsOf (fieldView s p.fld i j) p.shift p.len * 2 ^ p.lo)).sum

/-- The 32-byte records of the deferred-error ring at offsets 0x1000–0x2FFF of the TF block (R370). -/
def derrWord (s : State) (off : Nat) : Nat := bitsOf (Tab.get s.tf.derr (off / 32) 0) (8 * (off % 32)) 32

/-- The word at address `a` of the register space, where a block's own area stands in place of registers: the life record's
view (R68), the deferred-error ring, the MSI-X table and its pending bits (R392). -/
def areaWord (s : State) (a : Nat) : Option Nat :=
  if 0x31000 ≤ a ∧ a < 0x32000 then some (leAt (viewBytes s) (a - 0x31000) 4)
  else if 0x101000 ≤ a ∧ a < 0x103000 then some (derrWord s (a - 0x101000))
  else if 0x118000 ≤ a ∧ a < 0x118400 then some (msixDword s ((a - 0x118000) / 4))
  else if a = 0x119000 then some (s.hb.pba % 2 ^ 32)
  else if a = 0x119004 then some (s.hb.pba / 2 ^ 32 % 2 ^ 32)
  else none

/-- The high word of a 64-bit counter as its last 4-byte LO read latched it (R207). -/
def shadowWord (s : State) (a : Nat) : Option Nat :=
  if 4 ≤ a ∧ (octetCounter (a - 4)).isSome then some (Tab.get s.sw.shadows (a - 4) 0) else none

/-- The word a 4-byte read at `a` shows; reserved offsets read as 0 (R5). -/
def readWord (s : State) (a : Nat) : Nat :=
  match areaWord s a with
  | some v => v
  | none =>
    match shadowWord s a with
    | some v => v
    | none =>
      match regAt a with
      | some (r, i, j) => regWord s r i j
      | none => 0

/-! ### What a read changes -/

/-- A clear-on-read field set to 0, wherever it is kept. -/
def clearField (s : State) (f : Fld) (i j : Nat) : State :=
  if f = Reg.CL_HIT_hits.value then
    modCl s (fun c => { c with hits := Tab.del c.hits (rd s Reg.CL_HIT_rule_id.value) })
  else if 0x90604 ≤ f.addr ∧ f.addr ≤ 0x90614 then
    modSw s (fun w => { w with polStats := Tab.del w.polStats (8 * rd s Reg.SW_POL_policer.value + (f.addr - 0x90604) / 4) })
  else if 0x90624 ≤ f.addr ∧ f.addr ≤ 0x9063C then
    modSw s (fun w => { w with cbStats := Tab.del w.cbStats (8 * rd s Reg.SW_CB_function.value + (f.addr - 0x90624) / 4) })
  else if 0xF0204 ≤ f.addr ∧ f.addr ≤ 0xF0218 then
    { s with cx := { s.cx with
      secStats := Tab.del s.cx.secStats (8 * rd s Reg.CX_SEC_entry.value + (f.addr - 0xF0204) / 4) } }
  else wr s f 0 i j

/-- The register a read of which shows free values: MP_VDD_MEAS. -/
def drawsOn : List Nat := [Reg.MP_VDD_MEAS.vdd_core_mv.addr]

/-- What a 4-byte read at `a` leaves behind: clear-on-read fields cleared by a read that is not speculative (R4), a 64-bit
counter's high half latched (R207), a free value drawn where the read shows one. -/
def readAfter (s : State) (a : Nat) (speculative : Bool) : State :=
  match octetCounter a with
  | some _ => octetRead a false speculative s
  | none =>
    match regAt a with
    | none => s
    | some (r, i, j) =>
      let s := if drawsOn.contains r.addr then drawn (drawn s) else s
      if speculative || (octetCounter (a - 4)).isSome then s
      else r.parts.foldl (fun s p => if p.fld.acc = .rc then clearField s p.fld i j else s) s

/-- A 4-byte read of the register space: its word, and the state it leaves. -/
def regRead (s : State) (a : Nat) (speculative : Bool) : Nat × State := (readWord s a, readAfter s a speculative)

/-- An 8-byte read: both words at one instant; at a 64-bit counter it takes and clears the whole of it (R207, R380). -/
def regReadWide (s : State) (a : Nat) (speculative : Bool) : Nat × State :=
  match octetCounter a with
  | some (f, i) => (rd s f i, octetRead a true speculative s)
  | none =>
    let lo := readWord s a
    let hi := readWord s (a + 4)
    (lo + 2 ^ 32 * hi, readAfter (readAfter s a speculative) (a + 4) speculative)

end Sys2Proof.Machine
end

