-- ==== Sys2Proof/Machine/Access.lean ====
section
/-! DEFINITION. What a write of 32 bits to a register address does (R4, R5): the range of each field, the access codes, the
registers whose write is an operation of its block, and the MSI-X table. -/

namespace Sys2Proof.Machine

/-! ### The values a field takes -/

/-- Whether field instance `(i, j)` takes the value given last; a write of another value is ignored (R41, R62, R256, R279,
R377, R395, R414, R420, R448, R473). -/
abbrev Guard := State → Nat → Nat → Nat → Bool

/-- Values within `lo..hi`. -/
def within (lo hi : Nat) : Guard := fun _ _ _ v => decide (lo ≤ v) && decide (v ≤ hi)

/-- Any value, while channel `i` is in INIT (R79). -/
def inInit : Guard := fun s i _ _ => canMode s i == 0

/-- Values up to `hi`, while channel `i` is in INIT. -/
def inInitTo (hi : Nat) : Guard := fun s i _ v => canMode s i == 0 && decide (v ≤ hi)

/-- Values whose low `n` bits are 0, while `en` is 0 for instance `i`. -/
def ringBase (n : Nat) (en : Fld) : Guard := fun s i _ v => v % 2 ^ n == 0 && !rdB s en i

/-- Never stored by the generic write: the register's own operation handles the field. -/
def handled : Guard := fun _ _ _ _ => false

/-- Chapters 1 to 4. -/
def guardsCan : List (Fld × Guard) := [
  (Reg.DT_CTRL.role, within 0 2),
  (Reg.DT_CTRL.log_sync_interval, fun _ _ _ v => v == 0 || decide (9 ≤ v)),
  (Reg.DT_DRIFT_BOUND.ppb, within 1 500000),
  (Reg.DT_AON_DRIFT_BOUND.ppb, within 1 500000),
  (Reg.DT_SLEW_MAX.ppb, within 1 500000),
  (Reg.MP_CTRL.hem_set, within 30 120),
  (Reg.MP_VDD_FIX.mv, fun _ _ _ v => decide (720 ≤ v) && decide (v ≤ 900) && v % 5 == 0),
  (Reg.LR_CTRL.life_years, within 10 30),
  (Reg.LR_CTRL.period_min, within 5 60),
  (Reg.CAN_CTRL.mode, handled),
  (Reg.CAN_CTRL.fd_en, inInit),
  (Reg.CAN_CTRL.brs_en, inInit),
  (Reg.CAN_CTRL.xl_en, inInit),
  (Reg.CAN_CTRL.sic_en, inInit),
  (Reg.CAN_CTRL.pwm_en, inInit),
  (Reg.CAN_CTRL.pxhd, inInit),
  (Reg.CAN_BOFF.holdoff_ms, within 0 1000),
  (Reg.CAN_BTIM.brp, inInit),
  (Reg.CAN_BTIM.tseg1, inInit),
  (Reg.CAN_BTIM.tseg2, inInit),
  (Reg.CAN_BTIM.sjw, inInit),
  (Reg.CAN_DBTIM.brp, inInit),
  (Reg.CAN_DBTIM.tseg1, inInit),
  (Reg.CAN_DBTIM.tseg2, inInit),
  (Reg.CAN_DBTIM.sjw, inInit),
  (Reg.CAN_XBTIM.brp, fun s i j v => decide (32 ≤ i) && inInit s i j v),
  (Reg.CAN_XBTIM.tseg1, fun s i j v => decide (32 ≤ i) && inInit s i j v),
  (Reg.CAN_XBTIM.tseg2, fun s i j v => decide (32 ≤ i) && inInit s i j v),
  (Reg.CAN_XBTIM.sjw, fun s i j v => decide (32 ≤ i) && inInit s i j v),
  (Reg.CAN_XPWM.pwms, inInit),
  (Reg.CAN_XPWM.pwml, inInit),
  (Reg.CAN_XPWM.pwmo, inInit),
  (Reg.CAN_TDC.tdco, inInit),
  (Reg.CAN_TDC.tdcf, inInit),
  (Reg.CAN_TDC.tdc_en, inInit),
  (Reg.CAN_TXCFG.tx_buffers, inInit),
  (Reg.CAN_TXCFG.txq_depth, inInit),
  (Reg.CAN_TXCFG.gw_share, inInit),
  (Reg.CAN_MM_TX.start_w, inInit),
  (Reg.CAN_MM_TX.dsize, inInit),
  (Reg.CAN_FLT_CFG.start_w, inInit),
  (Reg.CAN_FLT_CFG.cap, inInitTo 1024),
  (Reg.CAN_RXCFG.nm_base, within 0 2),
  (Reg.CAN_RXCFG.nm_ext, within 0 2),
  (Reg.CAN_RXF_CFG.start_w, inInit),
  (Reg.CAN_RXF_CFG.overwrite, inInit),
  (Reg.CAN_RXF_CFG.count, inInit),
  (Reg.CAN_RXF_CFG.dsize, inInit),
  (Reg.CAN_MB_CFG.start_w, inInit),
  (Reg.CAN_MB_CFG.count, inInitTo 64),
  (Reg.CAN_MB_CFG.dsize, inInit),
  (Reg.CAN_TXEF_CFG.start_w, inInit),
  (Reg.CAN_TXEF_CFG.count, inInit)]

/-- The sum of the class reserves with class `c` at `v`. -/
def reserveSum (s : State) (c v : Nat) : Nat := sumBelow (fun k => if k = c then v else rd s Reg.SW_CLASS_RSV.rsv k) 8

/-- Chapters 8 to 11. -/
def guardsSwitch : List (Fld × Guard) := [
  (Reg.SW_CLASS_RSV.rsv, fun s c _ v => decide (reserveSum s c v ≤ 40960)),
  (Reg.SW_CLASS_MAX.max, within 0 49152),
  (Reg.SW_VOQ_SEL.voq, within 0 2887),
  (Reg.SW_MIRROR_CFG.dest, fun _ _ _ v => decide (v < 12) || v == 16),
  (Reg.SW_MIRROR_CFG.trunc, fun _ _ _ v => v == 0 || (decide (64 ≤ v) && decide (v ≤ 9216))),
  (Reg.FT_AGE_CFG.age_s, fun _ _ _ v => v == 0 || (decide (10 ≤ v) && decide (v ≤ 30000))),
  (Reg.FT_DMA_BASE.base, ringBase 5 Reg.FT_DMA_CTRL.en),
  (Reg.FT_DMA_SIZE.log2, fun s _ _ v => decide (4 ≤ v) && decide (v ≤ 12) && !rdB s Reg.FT_DMA_CTRL.en),
  (Reg.FT_PORT_CFG.pvid, within 1 4094),
  (Reg.FT_PORT_CFG.move_limit, within 1 255),
  (Reg.FT_PORT_QUAR.quar_s, within 1 3600),
  (Reg.PE_CTRL.max_slots, fun s _ _ v => decide (16 ≤ v) && decide (rd s Reg.PE_BANK_INFO.worst_slots (activeBank s) ≤ v)),
  (Reg.PE_DBG_SEL.engine, fun s _ _ v => debugLevel s 2 && decide (v < 24)),
  (Reg.CL_DRAIN_TO.ms, within 1 10000)]

/-- A key slot field: none, or a FIXED slot. -/
def keySlotRange : Guard := fun _ _ _ v => v == 0 || decide (8 ≤ v)

/-- Chapters 13 to 19. -/
def guardsHost : List (Fld × Guard) := [
  (Reg.CX_CTRL.level, fun s _ _ v => decide (v ≤ 2) && decide (rd s Reg.CX_CTRL.level_min ≤ v)),
  (Reg.CX_CTRL.level_min, within 0 2),
  (Reg.TF_LINK_TO.ms, within 1 1000),
  (Reg.TF_ACK_TO.us, within 100 100000),
  (Reg.TF_NP_TO.us, within 100 100000),
  (Reg.TF_KEY_SLOT.slot, keySlotRange),
  (Reg.HB_RD_WAIT.us, within 100 20000),
  (Reg.HB_WIN_CFG.size_log2, within 12 26),
  (Reg.HB_WIN_BASE.base, fun s w _ v => v % 2 ^ rd s Reg.HB_WIN_CFG.size_log2 w == 0),
  (Reg.HB_RING_BASE.base, ringBase 5 Reg.HB_RING_SIZE.en),
  (Reg.HB_RING_TAIL.tail, fun s r _ v => decide (v < 2 ^ rd s Reg.HB_RING_SIZE.log2 r)),
  (Reg.CMD_FWD_TO.ms, within 10 60000),
  (Reg.CMD_INB_CFG.key0, keySlotRange),
  (Reg.CMD_INB_CFG.key1, keySlotRange),
  (Reg.CMD_EVT_FWD.device, within 1 63),
  (Reg.CMD_QP_SQ_BASE.base, ringBase 0 Reg.CMD_QP_CTRL.en),
  (Reg.CMD_QP_CQ_BASE.base, ringBase 0 Reg.CMD_QP_CTRL.en),
  (Reg.CMD_EVR_BASE.base, ringBase 0 Reg.CMD_EVR_CFG.en),
  (Reg.WK_PWR_CFG.idle_us, within 10 1000),
  (Reg.WK_THRESH_DOZE.us, within 100 10000000),
  (Reg.WK_THRESH_STBY.ms, within 10 3600000),
  (Reg.WK_THRESH_HIB.s, within 1 604800),
  (Reg.WK_CH_CFG.group, fun _ _ _ v => decide (v < 16) || v == 31),
  (Reg.WK_CH_CFG.fec_thresh, within 1 31),
  (Reg.WK_CH_CFG.wup_to_ms, within 1 10),
  (Reg.WK_GRP_TIMERS1.nm_period_ms, within 10 65535),
  (Reg.WK_GRP_TIMERS1.nm_timeout_ms, within 100 65535),
  (Reg.WK_GRP_TIMERS2.keep_awake_ms, within 1000 65535),
  (Reg.BT_FAB_TO.ms, within 100 60000)]

/-- The guards of the 64 KiB block an address lies in. -/
def guardsOf (a : Nat) : List (Fld × Guard) :=
  match a / 0x10000 with
  | 1 | 2 | 3 | 4 | 5 | 6 | 7 => guardsCan
  | 8 | 9 | 10 | 11 | 12 => guardsSwitch
  | _ => guardsHost

/-- Whether a field takes a value. -/
def takes (s : State) (f : Fld) (i j v : Nat) : Bool :=
  match (guardsOf f.addr).find? (fun x => decide (x.1 = f)) with
  | some (_, g) => g s i j v
  | none => true

/-! ### The generic write -/

/-- Whether RWL fields are sealed: on entry to FIELD, and from then on (R477). -/
def sealed (s : State) : Bool := decide (2 ≤ rd s Reg.LC_STATUS.state)

/-- Event 0x0007: a write to a sealed field is ignored (R477). -/
def sealedEvent (s : State) (a : Nat) : State :=
  raiseInLimited s Reg.LC_INT_STATUS.event 0 17 7 0xFFFF 0 1 (fun _ => leBytes 4 a)

/-- The bits `v` of one piece of a field stored. -/
def storePart (s : State) (p : RegPart) (i j v : Nat) : State :=
  let new := setBits (rd s p.fld i j) p.shift p.len v
  if takes s p.fld i j new then wr s p.fld new i j else s

/-- One piece of a register written with its bits of word `w` (Table 0.8); `open_` writes past the seal, as settings are
applied (R468). -/
def writePart (open_ : Bool) (a i j w : Nat) (s : State) (p : RegPart) : State :=
  let v := bitsOf w p.lo p.len
  match p.fld.acc with
  | .rw => storePart s p i j v
  | .rwl => if sealed s && !open_ then sealedEvent s a else storePart s p i j v
  | .w1c => wr s p.fld (rd s p.fld i j - (rd s p.fld i j &&& (v * 2 ^ p.shift))) i j
  | .w1s => wr s p.fld (rd s p.fld i j ||| (v * 2 ^ p.shift)) i j
  | .ro | .rv | .wo | .rc | .rwt => s

/-- Every piece of a register written. -/
def writeParts (open_ : Bool) (r : RegDef) (a i j w : Nat) (s : State) : State := r.parts.foldl (writePart open_ a i j w) s

/-! ### Operations that writes perform -/

/-- The fabric joined where TF_CTRL.en is set (R354, R357): the device discovers, and its links listen or train. -/
def fabricEnabled (s : State) : State :=
  if rdB s Reg.TF_CTRL.en && rd s Reg.TF_STATUS.state == 0 then
    let s := wr s Reg.TF_STATUS.state 1
    let s := (List.range 4).foldl (fun s l => if tlState s l = 3 then s else wr s Reg.TF_LINK_STATUS.state (restState s l) l) s
    modTf s (fun g => { g with dbChanged := s.now })
  else s

/-- A Tyeth link enabled or disabled (R345). -/
def linkControl (l w : Nat) (s : State) : State :=
  if bitSet w 0 then
    let s := wr s Reg.TF_LINK_CTRL.en 1 l
    if tlState s l = 0 then wr s Reg.TF_LINK_STATUS.state (restState s l) l else s
  else tlDown l 3 s

/-- A host ring's size and enable: setting en restarts the ring; its base and size stand while it is enabled (R391). -/
def ringSizeWrite (r w : Nat) (s : State) : State :=
  let on := rdB s Reg.HB_RING_SIZE.en r
  let k := bitsOf w 0 4
  let s := if !on && decide (4 ≤ k) && decide (k ≤ 12) then wr s Reg.HB_RING_SIZE.log2 k r else s
  let s := wr s Reg.HB_RING_SIZE.en (bitsOf w 31 1) r
  let s := modHb s (fun b => { b with ringIrq := clrBit b.ringIrq r })
  if !on && bitSet w 31 then
    let s := wr (wr s Reg.HB_RING_TAIL.tail 0 r) Reg.HB_RING_HEAD.head 0 r
    modHb s (fun b => { b with rings := Tab.del b.rings r })
  else s

/-- A queue pair enabled or disabled: setting en sets every index to 0 and the phase to 1 (R403). -/
def queueControl (q : Nat) (en : Bool) (s : State) : State :=
  let was := rdB s Reg.CMD_QP_CTRL.en q
  let s := wr s Reg.CMD_QP_CTRL.en (b2n en) q
  if en && !was then
    let s := wr (wr s Reg.CMD_QP_SQ_TAIL.tail 0 q) Reg.CMD_QP_SQ_HEAD.head 0 q
    let s := wr (wr s Reg.CMD_QP_CQ_TAIL.tail 0 q) Reg.CMD_QP_CQ_TAIL.phase 1 q
    let s := wr s Reg.CMD_QP_CQ_HEAD.head 0 q
    { s with cmd := { s.cmd with subs := Tab.del s.cmd.subs q } }
  else s

/-- CMD_EVR_CFG written: writing en = 1 sets PUT and GET to 0 (R417). -/
def eventRingControl (r w : Nat) (s : State) : State :=
  let k := bitsOf w 1 4
  let s := if decide (4 ≤ k) && decide (k ≤ 12) then wr s Reg.CMD_EVR_CFG.log2 k r else s
  let s := wr s Reg.CMD_EVR_CFG.en (bitsOf w 0 1) r
  if bitSet w 0 then wr (wr s Reg.CMD_EVR_PUT.put 0 r) Reg.CMD_EVR_GET.get 0 r else s

/-- Alternatives cleared: bit `k` of the mask for step `k` (R453). -/
def clearAlternatives (mask : Nat) (s : State) : State :=
  { s with bt := { s.bt with record := { s.bt.record with alt := s.bt.record.alt - (s.bt.record.alt &&& mask) } } }

/-- The gate control of a port written, its gates and shapers settled before and after (R220). -/
def gateControl (port w : Nat) (s : State) : State :=
  gateSync (wr (gateSync s port) Reg.ETH_TAS_CTRL.gate_en (bitsOf w 0 1) port) port

/-- A credit-based shaper written (R223): slopes above 25,000,000 kbit/s are ignored; a shaper turned on begins without
credit; the slopes of the port are tested again. -/
def shaperWrite (port c w : Nat) (s : State) : State :=
  let s := gateSync s port
  let was := rdB s Reg.ETH_CBS.en port c
  let s := if bitsOf w 0 25 ≤ 25000000 then wr s Reg.ETH_CBS.idle_slope (bitsOf w 0 25) port c else s
  let s := wr s Reg.ETH_CBS.en (bitsOf w 31 1) port c
  checkSlopes (if !was && bitSet w 31 then clearCredit s port c else s) port

/-- The engine the debug registers address changed while it is halted, at debug level full (R274, R279). -/
def dbgWrite (s : State) (f : Engine → Engine) : State :=
  let e := dbgEngine s
  if peDebug s && (engineAt s e).halted then setEngine s e (f (engineAt s e)) else s

/-- A breakpoint written (R274); a pass filter of 3 leaves that field. -/
def breakpointWrite (k w : Nat) (s : State) : State :=
  let e := dbgEngine s
  if peDebug s then
    let g := engineAt s e
    let w := if bitsOf w 20 2 = 3 then setBits w 20 2 (bitsOf (g.bps.getD k 0) 20 2) else w
    setEngine s e { g with bps := setNth g.bps k (w &&& 0x80FFFFFF) }
  else s

/-- PE_DBG_CTRL (R275). -/
def debugControl (w : Nat) (s : State) : State :=
  let s := if bitSet w 0 then dbgHalt s else s
  let s := if bitSet w 1 then dbgResume s else s
  if bitSet w 2 then dbgStep 0 s else s

/-- A register whose write is an operation in place of the generic one: what it does with the instance numbers and the
word. -/
abbrev RegOp := Nat → Nat → Nat → State → State

/-- Those registers, by the address of their first copy. -/
def ownWrites : List (Nat × RegOp) := [
  (Reg.CAN_TXBUF_REQ.req.addr, fun n _ w => eachBit (fun s k => requestBuffer s n k) w),
  (Reg.CAN_TXBUF_REQ.req.addr + 4, fun n _ w => eachBit (fun s k => requestBuffer s n (k + 32)) w),
  (Reg.CAN_TXBUF_CANCEL.cancel.addr, fun n _ w => eachBit (fun s k => cancelBuffer s n k) w),
  (Reg.CAN_TXBUF_CANCEL.cancel.addr + 4, fun n _ w => eachBit (fun s k => cancelBuffer s n (k + 32)) w),
  (Reg.CAN_TXQ_PUT.slot.addr, fun n _ w s => queuePut s n (bitsOf w 0 8)),
  (Reg.CAN_TXQ_CANCEL.slot.addr, fun n _ w s => cancelSlot s n (bitsOf w 0 8)),
  (Reg.CAN_RXF_ACK.index.addr, fun n f w => rxfAck n f (bitsOf w 0 8) (bitsOf w 8 8)),
  (Reg.CAN_TXEF_ACK.index.addr, fun n _ w => txefAck n (bitsOf w 0 8) (bitsOf w 8 8)),
  (Reg.CAN_MB_ND.nd.addr, fun n _ w => mbNdClear n w),
  (Reg.CAN_MB_ND.nd.addr + 4, fun n _ w => mbNdClear n (w * 2 ^ 32)),
  (Reg.CAN_MB_OVW.ovw.addr, fun n _ w => mbOvwClear n w),
  (Reg.CAN_MB_OVW.ovw.addr + 4, fun n _ w => mbOvwClear n (w * 2 ^ 32)),
  (Reg.SG_ND_CLR.slot.addr, fun _ _ w => ndClear (bitsOf w 0 16)),
  (Reg.SG_CHRATE.rate.addr, fun n _ w => writeChrate n w),
  (Reg.SG_MIRROR_N.n.addr, fun n _ w => writeMirrorN n w),
  (Reg.ETH_CFG.en.addr, fun p _ w => ethCfgWrite p w),
  (Reg.ETH_TAS_CTRL.gate_en.addr, fun p _ w => gateControl p w),
  (Reg.ETH_CBS.idle_slope.addr, fun p c w => shaperWrite p c w),
  (Reg.SW_MIRROR_N.n.addr, fun m _ w => mirrorNWrite m w),
  (Reg.FT_LOCK.req.addr, fun _ _ w => lockWrite w),
  (Reg.FT_DMA_CTRL.en.addr, fun _ _ w => dmaCtrlWrite (bitSet w 0)),
  (Reg.FT_DMA_TAIL.tail.addr, fun _ _ w => dmaTailWrite (bitsOf w 0 12)),
  (Reg.PE_DBG_CTRL.halt.addr, fun _ _ w => debugControl w),
  (Reg.PE_DBG_C.c.addr, fun _ _ w s => dbgWrite s (fun g => { g with c := bitsOf w 0 10 })),
  (Reg.PE_BP.addr.addr, fun k _ w => breakpointWrite k w),
  (Reg.PE_DBG_G.value.addr, fun k _ w s => dbgWrite s (fun g => g.setG k w)),
  (Reg.PE_DBG_M.value.addr, fun k _ w s => dbgWrite s (fun g => g.setM k w)),
  (Reg.CL_MISS_ACT.a0.addr, fun _ _ w => missActWrite false w),
  (Reg.CL_MISS_ACT.a0.addr + 4, fun _ _ w => missActWrite true w),
  (Reg.TF_LINK_CTRL.en.addr, fun l _ w => linkControl l w),
  (Reg.HB_RING_SIZE.log2.addr, fun r _ w => ringSizeWrite r w),
  (Reg.CMD_QP_CTRL.en.addr, fun q _ w => queueControl q (bitSet w 0)),
  (Reg.CMD_EVR_CFG.en.addr, fun r _ w => eventRingControl r w),
  (Reg.BT_ALT.alt.addr, fun _ _ w => clearAlternatives (w &&& 0x3FFE))]

/-- A write to a partition register makes the partition unchecked; it is possible in INIT only (R510). -/
def partitionWritten (n : Nat) (s : State) : State :=
  if canMode s n = 0 then modCan s n (fun c => { c with unchecked := true }) else s

/-- What a register's write entails once its fields are stored: the state before, then as in `RegOp`. -/
abbrev RegAfter := State → Nat → Nat → Nat → State → State

/-- The registers that entail something. -/
def entailed : List (Nat × RegAfter) := [
  (Reg.DT_CTRL.sync_en.addr, fun _ _ _ _ s => reselect s),
  (Reg.MP_CTRL.planner_en.addr, fun was _ _ _ s =>
    noteHem (if rdB was Reg.MP_CTRL.planner_en = rdB s Reg.MP_CTRL.planner_en then s else plannerEnWritten s)),
  (Reg.LR_CTRL.life_years.addr, fun _ _ _ w s => if bitSet w 16 then checkpoint s 4 else s),
  (Reg.LR_SNAP.take.addr, fun _ _ _ w s => if bitSet w 0 then snapTake s else s),
  (Reg.CAN_CTRL.mode.addr, fun _ n _ w s => (modeWrite s n (bitsOf w 0 3)).1),
  (Reg.CAN_TXCFG.tx_buffers.addr, fun _ n _ _ => partitionWritten n),
  (Reg.CAN_MM_TX.start_w.addr, fun _ n _ _ => partitionWritten n),
  (Reg.CAN_FLT_CFG.start_w.addr, fun _ n _ _ => partitionWritten n),
  (Reg.CAN_RXF_CFG.start_w.addr, fun _ n _ _ => partitionWritten n),
  (Reg.CAN_MB_CFG.start_w.addr, fun _ n _ _ => partitionWritten n),
  (Reg.CAN_TXEF_CFG.start_w.addr, fun _ n _ _ => partitionWritten n),
  (Reg.SG_CTRL.en.addr, fun was _ _ _ s =>
    let s := if rdB s Reg.SG_CTRL.remote_en then s else dropRecords s
    if rdB s Reg.SG_CTRL.en && !rdB was Reg.SG_CTRL.en then anchorAll { s with sg := { s.sg with enabledAt := s.now } } else s),
  (Reg.FT_PORT_QUAR.quar_s.addr, fun _ p _ w s => if bitSet w 17 then endQuarantine s p 1 else s),
  (Reg.TF_CTRL.en.addr, fun _ _ _ _ s => tellRecord (fabricEnabled s)),
  (Reg.TF_SLEEVE.force_a.addr, fun _ _ _ w s =>
    let s := if bitSet w 0 then sleeveCloseOp 0 2 s else s
    if bitSet w 1 then sleeveCloseOp 1 2 s else s),
  (Reg.HB_RING_TAIL.tail.addr, fun _ r _ _ s => modHb s (fun b => { b with ringIrq := clrBit b.ringIrq r })),
  (Reg.WK_CTRL.en.addr, fun _ _ _ _ s => (List.range 16).foldl syncLocal s),
  (Reg.WK_GRP_CFG.en.addr, fun was g _ _ s =>
    if rdB was Reg.WK_GRP_CFG.en g = rdB s Reg.WK_GRP_CFG.en g then s else grpConfigured s g)]

/-! ### MSI-X (R392) -/

/-- A dword of the MSI-X table written; a vector unmasked sends the message its PBA bit holds where a source mapped to it is
still pending. -/
def msixWrite (n w : Nat) (s : State) : State :=
  let v := n / 4
  let default := if n % 4 = 3 then 1 else 0
  let was := msixMasked s v
  let s := modHb s (fun b => { b with msix := Tab.set b.msix n default (if n % 4 = 3 then w % 2 else w) })
  if was && !msixMasked s v && bitSet s.hb.pba v then
    let s := modHb s (fun b => { b with pba := clrBit b.pba v })
    let src := (List.range 48).find? (fun k =>
      bitSet (irqMask s) k && rd s Reg.HB_IRQ_MAP.vector k == v && rdB s Reg.HB_IRQ_MAP.msix_en k)
    match src with
    | some k => msixSend s k
    | none => s
  else s

/-- The block sources with a status bit in the register at `a` (first copy) that word `w` clears. -/
def clearedSources (a w : Nat) : List Nat :=
  (blockSources.filter (fun b => b.bits.any (fun f => f.addr == a && bitsOf w f.lo f.len != 0))).map (fun b => b.src)

/-- The new messages of a W1C write that leaves its source pending. -/
def resend (r : RegDef) (w : Nat) (s : State) : State :=
  msixSendAll ((clearedSources r.addr w).filter (fun k => bitSet s.irq k && bitSet (irqMask s) k)) s

/-! ### The write -/

/-- A write of word `w` to a register. -/
def writeReg (open_ : Bool) (r : RegDef) (a i j w : Nat) (s : State) : State :=
  match ownWrites.lookup r.addr with
  | some f => f i j w s
  | none =>
    let new := writeParts open_ r a i j w s
    match entailed.lookup r.addr with
    | some f => f s i j w new
    | none => resend r w new

/-- A write of 32 bits at `a` of the register space; reserved offsets and the areas that only show state ignore it (R5). -/
def regWrite (s : State) (a w : Nat) : State :=
  if 0x118000 ≤ a ∧ a < 0x118400 then msixWrite ((a - 0x118000) / 4) w s
  else
    match regAt a with
    | some (r, i, j) => writeReg false r a i j w s
    | none => s

/-- A write of 64 bits at `a`: two consecutive registers at one instant (R381), so that a value held across both is judged
whole. -/
def regWriteWide (s : State) (a w : Nat) : State :=
  if a = Reg.CL_MISS_ACT.a0.addr then missActStore 0 64 w s
  else regWrite (regWrite s a (bitsOf w 0 32)) (a + 4) (bitsOf w 32 32)

end Sys2Proof.Machine
end

