-- ==== Sys2Proof/Machine/System.lean ====
section
/-! DEFINITION. The System group of commands (R411, R413, R415, R418). -/

namespace Sys2Proof.Machine

/-- A SYS event (Table 16.12). -/
def sysEvent (s : State) (code : Nat) (data : Bytes) : State := raiseIn s Reg.SYS_INT_STATUS.event 0 1 code 0xFFFF data

/-- The manifest of the firmware that runs; the active image's where none has been started. -/
def runningManifest (s : State) : Bytes := if s.bt.running.isEmpty then activeManifest s else s.bt.running

/-- The version the running firmware's image gives for its part of type 1, the CP firmware; none where it holds none. -/
def cpVersion (s : State) : Option Nat := ((partsOf (runningManifest s)).find? (fun p => p.typ == 1)).map (fun p => p.version)

/-- The settings generation in force. -/
def activeGen (s : State) : Option Generation := s.bt.gens.find? (fun g => g.number == s.bt.record.genActive)

/-- The schema of the settings in force: the generation's, or else that of the running image. -/
def schemaNow (s : State) : Option Nat :=
  match activeGen s with
  | some g => some g.schema
  | none => if (runningManifest s).isEmpty then none else some (Manifest.schema (runningManifest s))

/-- A value the device may have none of: the value, or a free one (drawn). -/
def orFree (s : State) (v : Option Nat) : Nat × State :=
  match v with
  | some x => (x, s)
  | none => (freeIn s 0 0xFFFFFFFF, drawn s)

/-- SYS_INFO. -/
def opInfo (p : Bytes) (s : State) : CmdAnswer :=
  if p.length ≠ 0 then fail s stBadLength
  else
    let (fw, s) := orFree s (cpVersion s)
    let (schema, s) := orFree s (schemaNow s)
    okay s (leBytes 4 0x7264 ++ leBytes 1 (rd s Reg.SYS_ID.grade) ++ leBytes 1 (rd s Reg.LC_STATUS.state) ++ leBytes 1 (ownId s) ++
      zeros 1 ++ leBytes 12 (ownUid s) ++ leBytes 4 fw ++ leBytes 4 schema ++ leBytes 1 (rd s Reg.BT_STATUS.step) ++ zeros 3)

/-- SYS_ECHO. -/
def opEcho (p : Bytes) (s : State) : CmdAnswer := if 1024 < p.length then fail s stBadLength else okay s p

/-- SYS_NONCE (R411): at most four nonces are held, a fifth replacing the oldest. -/
def opNonce (p : Bytes) (s : State) : CmdAnswer :=
  if p.length ≠ 0 then fail s stBadLength
  else
    let v := leNat (freeBytes s 8)
    let s := drawn s
    let held := s.cmd.nonces ++ [⟨v, s.now⟩]
    let s := { s with cmd := { s.cmd with nonces := held.drop (held.length - 4) } }
    okay s (leBytes 8 v ++ leBytes 4 60000 ++ zeros 4)

/-- The in-band sequences recorded in MRAM (R408). -/
def recordSequences (s : State) : State :=
  { s with cmd := { s.cmd with seqRecorded := [(0, rd s Reg.CMD_INB_SEQ.seq 0), (1, rd s Reg.CMD_INB_SEQ.seq 1)] } }

/-- SYS_SHUTDOWN. -/
def opShutdown (p : Bytes) (s : State) : CmdAnswer :=
  if p.length ≠ 4 then fail s stBadLength
  else
    let s := recordSequences (journalReceive (checkpoint s 3))
    let seq := leBytes 4 (rd s Reg.LR_SEQ.seq)
    okay (sysEvent s 3 seq) seq

/-- The core die leaves operation and awaits a start for `cause` (SYS_RESET_CAUSE encoding): the Sleeves close with it (R353). -/
def coreStops (s : State) (cause : Nat) : State :=
  let s := emit (sleevesUnpowered (lifeSettle s)) (.reset cause)
  { s with bt := { s.bt with due := some cause } }

/-- The recovery loader left: every alternative and count cleared, the next start an ordinary one (R454). -/
def leaveRecovery (s : State) : State :=
  if s.bt.record.recovery then modRecord s (fun r => { r with recovery := false, alt := 0, fails := [] }) else s

/-- SYS_RESTART: its reply is sent before the restart. -/
def opRestart (c : Call) (p : Bytes) (s : State) : CmdAnswer :=
  if p.length ≠ 4 then fail s stBadLength
  else
    let s := sysEvent s 2 (leBytes 1 0 ++ leBytes 2 c.tag)
    (coreStops (leaveRecovery (sendReply s 0x0005 c stOk [])) 2, none)

/-- SYS_EVENT_READ: the records it returns leave the buffer. -/
def opEventRead (p : Bytes) (s : State) : CmdAnswer :=
  let k := leAt p 0 2
  if p.length ≠ 4 then fail s stBadLength
  else if k = 0 ∨ 64 < k ∨ leAt p 2 2 ≠ 0 then fail s stBadParam
  else
    let es := s.ev.buffer.take k
    let r := leBytes 2 es.length ++ leBytes 2 (min s.ev.dropped 65535) ++ (es.map (fun e => eventBytes e false)).flatten
    okay { s with ev := { s.ev with buffer := s.ev.buffer.drop k, dropped := 0 } } r

/-- The record of 32 bytes that device `d` pushes (Table 0.10). -/
def pushedEvent (d : Nat) (p : Bytes) : Event :=
  ⟨leAt p 0 8, bitSet (leAt p 14 2) 0, leAt p 8 2, leAt p 10 2, leAt p 12 2, d, sliceBytes p 16 16⟩

/-- SYS_EVENT_PUSH (R418): offered to every path but forwarding, with no reply; refused on any other transport. -/
def opEventPush (c : Call) (p : Bytes) (s : State) : CmdAnswer :=
  match c.via with
  | .fabric d => if p.length ≠ 32 then (s, none) else (offerEvent 5 false (pushedEvent d p) s, none)
  | _ => fail s stDenied

/-! ### The rows -/

/-- A command that sends its own replies: nothing waits for it. -/
def ownAnswer (op : Nat) (c : Call) (a : CmdAnswer) : State :=
  match a.2 with
  | some (st, result) => sendReply a.1 op c st result
  | none => a.1

/-- SYS_INFO (R413). -/
def execSysInfo (t : Nat) (c : Call) (p : Bytes) (s : State) : Host.Outcome State Fault Refusal :=
  commandRow t 0x0001 c p s (fun s => answer 0x0001 c (opInfo p s))

/-- SYS_ECHO (R413). -/
def execSysEcho (t : Nat) (c : Call) (p : Bytes) (s : State) : Host.Outcome State Fault Refusal :=
  commandRow t 0x0002 c p s (fun s => answer 0x0002 c (opEcho p s))

/-- SYS_NONCE (R411). -/
def execSysNonce (t : Nat) (c : Call) (p : Bytes) (s : State) : Host.Outcome State Fault Refusal :=
  commandRow t 0x0003 c p s (fun s => answer 0x0003 c (opNonce p s))

/-- SYS_SHUTDOWN (R413). -/
def execSysShutdown (t : Nat) (c : Call) (p : Bytes) (s : State) : Host.Outcome State Fault Refusal :=
  commandRow t 0x0004 c p s (fun s => answer 0x0004 c (opShutdown p s))

/-- SYS_RESTART (R413). -/
def execSysRestart (t : Nat) (c : Call) (p : Bytes) (s : State) : Host.Outcome State Fault Refusal :=
  commandRow t 0x0005 c p s (fun s => ownAnswer 0x0005 c (opRestart c p s))

/-- SYS_EVENT_READ (R413): of the link frames the cipher engine refused too (R315). -/
def execSysEventRead (t : Nat) (c : Call) (p : Bytes) (s : State) : Host.Outcome State Fault Refusal :=
  commandRow t 0x0006 c p s (fun s => answer 0x0006 c (opEventRead p (reportRefused s)))

/-- SYS_EVENT_PUSH (R418). -/
def execSysEventPush (t : Nat) (c : Call) (p : Bytes) (s : State) : Host.Outcome State Fault Refusal :=
  commandRow t 0x0020 c p s (fun s => ownAnswer 0x0020 c (opEventPush c p s))

end Sys2Proof.Machine
end

