-- ==== Sys2Proof/Machine/Settings.lean ====
section
/-! DEFINITION. Settings (R468, R469): the register words a generation holds, their application in groups, and the journal's
generations. -/

namespace Sys2Proof.Machine

/-! ### What settings hold -/

/-- Registers no generation holds: indices of rings, selections of what other registers show, debug registers, table locks and
scratch words, by the address of their first copy. -/
def notSettings : List Nat := [
  Reg.SYS_SCRATCH.value.addr, Reg.CMD_QP_SQ_TAIL.tail.addr, Reg.CMD_QP_CQ_HEAD.head.addr, Reg.CMD_EVR_GET.get.addr,
  Reg.HB_RING_TAIL.tail.addr, Reg.TF_DERR_GET.get.addr, Reg.FT_DMA_TAIL.tail.addr, Reg.FT_LOCK.req.addr,
  Reg.SW_VOQ_SEL.voq.addr, Reg.SW_POL_policer.value.addr, Reg.SW_CB_function.value.addr, Reg.CL_HIT_rule_id.value.addr,
  Reg.CX_SEC_entry.value.addr, Reg.PE_DBG_SEL.engine.addr, Reg.PE_DBG_C.c.addr, Reg.PE_BP.addr.addr, Reg.PE_DBG_G.value.addr,
  Reg.PE_DBG_M.value.addr]

/-- Whether a piece of a register is a setting. -/
def RegPart.setting (p : RegPart) : Bool := p.fld.acc == .rw || p.fld.acc == .rwl

/-- The word of the settings a register holds, none where it holds none. -/
def settingWord (s : State) (a : Nat) : Option Nat :=
  match regAt a with
  | some (r, i, j) =>
    let ps := r.parts.filter RegPart.setting
    if ps.isEmpty || notSettings.contains r.addr then none
    else some ((ps.map (fun p => bitsOf (rd s p.fld i j) p.shift p.len * 2 ^ p.lo)).sum)
  | none => none

/-- The settings in force: the words of every register with a setting that is not at its reset value. -/
def captureSettings (s : State) : Tab Nat :=
  let addresses := s.regs.flatMap (fun k => [k.1 / 32, k.1 / 32 + 4])
  addresses.foldl (fun t a => match settingWord s a with
    | some w => Tab.put t a w
    | none => t) []

/-! ### Applying settings -/

/-- A word of the settings written to its register, past the seal. -/
def applyWord (s : State) (x : Nat × Nat) : State :=
  match regAt x.1 with
  | some (r, i, j) => if notSettings.contains r.addr then s else writeReg true r x.1 i j x.2 s
  | none => s

/-- The words of a list applied in turn. -/
def applyWords (ws : List (Nat × Nat)) (s : State) : State := ws.foldl applyWord s

/-- Whether an address is one of the registers that step 11 writes last: SG_CTRL, FT_CTRL, CL_CTRL. -/
def isTableEnable (a : Nat) : Bool := [Reg.SG_CTRL.en.addr, Reg.FT_CTRL.en.addr, Reg.CL_CTRL.en.addr].contains a

/-- The step that applies the setting at an address: 2 the wake die's, 11 the three table enables, 12 CAN, Ethernet and host
bridge, 13 the fabric, 10 every other. -/
def settingStep (a : Nat) : Nat :=
  let k := a / 0x10000
  if k = 0x13 then 2
  else if isTableEnable a then 11
  else if (4 ≤ k ∧ k ≤ 8) ∨ k = 0x11 then 12
  else if k = 0x10 then 13
  else 10

/-- Whether an address is a register that starts its unit, written after the unit's others: MP_CTRL, CAN_CTRL, ETH_CFG, TF_CTRL. -/
def isUnitStart (a : Nat) : Bool :=
  a == Reg.TF_CTRL.en.addr || a == Reg.MP_CTRL.planner_en.addr || (decide (0x40000 ≤ a) && decide (a < 0x90000) && a % 0x1000 == 4)

/-- Whether an address is one of the class reserves, whose sum bounds each of them: written twice, so that every reserve that
falls has fallen before one that rises. -/
def isReserve (a : Nat) : Bool := decide (0x90040 ≤ a) && decide (a < 0x90060)

/-- The settings of one step applied, unit starts last. -/
def applyStepSettings (step : Nat) (g : Tab Nat) (s : State) : State :=
  let ws := g.filter (fun x => settingStep x.1 == step)
  let s := applyWords (ws.filter (fun x => !isUnitStart x.1)) s
  let s := applyWords (ws.filter (fun x => isReserve x.1)) s
  applyWords (ws.filter (fun x => isUnitStart x.1)) s

/-! ### Generations -/

/-- The bytes of the settings journal (Table 18.5). -/
def journalSize : Nat := 960 * 1024

/-- The generations that may not be reclaimed. -/
def keptGens (s : State) : List Generation :=
  s.bt.gens.filter (fun g => g.number == s.bt.record.genActive || g.number == s.bt.record.genPrev)

/-- The journal bytes free once every reclaimable generation is counted. -/
def journalFree (s : State) : Nat := journalSize - ((keptGens s).map (fun g => g.size)).sum

/-- The number of the next generation. -/
def nextGen (s : State) : Nat := (s.bt.gens.map (fun g => g.number)).foldl max s.bt.record.genActive + 1

/-- A generation appended and made active, its commit record written (kind 3), and with it the wake die's configuration block (kind
4; when that is written is the model's choice, assumption 6). -/
def appendGen (s : State) (schema : Nat) (regs : Tab Nat) (sched : Tab WkSched) (size : Nat) : State :=
  let n := nextGen s
  let s := recordWritten (recordWritten s 3) 4
  let s := { s with bt := { s.bt with gens := keptGens s ++ [⟨n, schema, regs, sched, size⟩] } }
  modRecord s (fun r => { r with genActive := n })

/-- The size a new generation takes in the journal: the spec gives its records no form, so it is a free value. -/
def genSize (s : State) : Nat × State := (freeIn s 0 journalSize, drawn s)

/-- SETTINGS_SAVE (R468). -/
def opSettingsSave (p : Bytes) (s : State) : CmdAnswer :=
  if p.length ≠ 0 then fail s stBadLength
  else if rd s Reg.BT_STATUS.step < 10 then fail s stBusy
  else
    let (size, s) := genSize s
    if journalFree s < size then fail s stNoSpace
    else
      let s := appendGen s (Manifest.schema (runningManifest s)) (captureSettings s) s.wk.sched size
      okay s (leBytes 4 s.bt.record.genActive ++ leBytes 4 (journalFree s))

/-- SETTINGS_INFO (R472). -/
def opSettingsInfo (p : Bytes) (s : State) : CmdAnswer :=
  if p.length ≠ 0 then fail s stBadLength
  else
    let (schema, s) := orFree s (schemaNow s)
    okay s (leBytes 4 s.bt.record.genActive ++ leBytes 4 schema ++ leBytes 4 s.bt.record.genPrev ++ leBytes 4 (journalFree s / 1024))

/-- SETTINGS_SAVE (R468). -/
def execSettingsSave (t : Nat) (c : Call) (p : Bytes) (s : State) : Host.Outcome State Fault Refusal :=
  commandRow t 0x7030 c p s (fun s => answer 0x7030 c (opSettingsSave p s))

/-- SETTINGS_INFO (R472). -/
def execSettingsInfo (t : Nat) (c : Call) (p : Bytes) (s : State) : Host.Outcome State Fault Refusal :=
  commandRow t 0x7031 c p s (fun s => answer 0x7031 c (opSettingsInfo p s))

end Sys2Proof.Machine
end

