-- ==== Sys2Proof/Machine/Start.lean ====
section
/-! DEFINITION. The start steps (R449–R455, R462, R465, R466, R469, R470): what a core-die power-up loses, what each step does and
how it fails, and what a failed step changes. -/

namespace Sys2Proof.Machine

/-- The state of starts and updates changed by `f`. -/
def modBt (s : State) (f : BtState → BtState) : State := { s with bt := f s.bt }

/-! ### What a core-die power-up loses -/

/-- Whether a register address lies in the wake die, the MRAM or the fuses, so that its value stays: the WK block, the life
record's state, the guardband's plan, the freshness journal's wear, the lifecycle. -/
def survives (a : Nat) : Bool :=
  a / 0x10000 == 0x13 ||
    [Reg.LR_STATUS.rotation.addr, Reg.LR_SEQ.seq.addr, Reg.MP_HEM.hem.addr, Reg.MP_SLOPE.uv_per_kh.addr, Reg.CX_FV_WEAR.wear.addr,
      Reg.LC_STATUS.state.addr].contains a

/-- The lockout after `f` consecutive failed unlocks, in seconds (R484). -/
def lockoutSeconds (f : Nat) : Nat := if f = 0 then 0 else min (10 * 2 ^ (f - 1)) 3600

/-- Device time from a core-die power-up: at 0 and unsynchronised (R15), or continued from what the wake die captured (R28). -/
def restartTime (s : State) (continued : Bool) : DtState :=
  if continued then
    { DtState.reset with
      segs := s.dt.segs
      usegs := s.dt.usegs
      measured := s.dt.measured
      history := s.dt.history
      lastSync := s.dt.lastSync }
  else
    { DtState.reset with
      segs := [⟨s.now, 0, 0, 0⟩]
      usegs := [⟨s.now, true, 0, s.now, 0, 0, 0, 0, 0⟩] }

/-- Whether this start continues device time: a return from Standby or Hibernate whose capture stands. -/
def continuesTime (s : State) (cause : Nat) : Bool := (cause == 5 || cause == 6) && s.dt.captured.isSome

/-- The core die after a power-up: every register and table at reset but what MRAM, fuses and the wake die keep. -/
def coreReset (s : State) (cause : Nat) : State :=
  let continued := continuesTime s cause
  let s := if continued then restoreTime s else s
  let dtKept := fun (a : Nat) (lo : Nat) => continued &&
    ((a == Reg.DT_STATUS.state.addr && decide (lo < 8)) || a / 8 == Reg.DT_LAST_SYNC.dt.addr / 8 ||
      a / 128 == Reg.DT_STEP_HIST.step.addr / 128)
  let session := rd s Reg.LC_STATUS.state == 3
  let out := { State.reset with
    now := s.now
    regs := Tab.keep (fun k _ => survives (k / 32) || dtKept (k / 32) (k % 32)) s.regs
    dt := restartTime s continued
    lr := { s.lr with view := none }
    cx := { CxState.reset with
      stored := s.cx.stored
      secPdus := Tab.mapAll (fun _ (e : SecPdu) => { e with words := 0 }) s.cx.secPdus
      journal := s.cx.journal
      reserveUp := s.cx.reserveUp
      verifKeys := s.cx.verifKeys }
    tf := { TfState.reset with persisted := s.tf.persisted, idTable := s.tf.idTable }
    mp := { MpState.reset with vreq := s.mp.vreq }
    cmd := { CmdState.reset with seqRecorded := s.cmd.seqRecorded, enabling := s.cmd.enabling + 1 }
    wk := s.wk
    bt := { s.bt with running := [], upload := none, hung := none, fab := none, told := false, lastQuery := s.now }
    lc := { s.lc with
      chal := none
      sessionEnd := 0
      asked := 0
      resetAt := none
      dbgState := 0
      dbgStatus := 0
      dbgData := 0
      driving := false
      ir := 2
      cps := []
      haltedAt := 0
      lockoutEnd := s.now + lockoutSeconds (rd s Reg.LC_STATUS.unlock_fails) * sec }
    out := s.out
    freeCtr := s.freeCtr
    pending := s.pending }
  let out := wr out Reg.LC_STATUS.level 0
  if session then
    holdEvent (wr out Reg.LC_STATUS.state 2) 17 3 0xFFFF (leBytes 1 2)
  else out

/-! ### Activation state (R464–R466) -/

/-- How an event is told: raised, or held. -/
abbrev Tell := State → Nat → Nat → Nat → Bytes → State

/-- A BT event raised. -/
def tellNow : Tell := fun s _ code inst data => btEvent s code inst data

/-- The fall back to the previous slots (R465): those of every kind that was activated, with their settings; the rejected slot
takes state `st`; `cause` as event 0x0003 numbers it. -/
def rollBack (tell : Tell) (s : State) (st cause : Nat) : State :=
  let r := s.bt.record
  let fw := bitSet s.bt.kinds 0
  let tbl := bitSet s.bt.kinds 1
  let s := if fw then modSlot s r.fw (fun g => { g with state := st }) else s
  let s := if tbl then modSlot s (2 + r.tbl) (fun g => { g with state := st }) else s
  let s := modRecord s (fun r => { r with
    fw := if fw then 1 - r.fw else r.fw
    ws := if fw then 1 - r.ws else r.ws
    tbl := if tbl then 1 - r.tbl else r.tbl
    state := 0
    prevValid := false
    genActive := r.genPrev
    verActive := if fw then r.verPrev else r.verActive
    verPrev := if fw then r.verActive else r.verPrev })
  tell (lifeCount s Life.updates 2) 16 3 (if fw then r.fw else 2 + r.tbl) (leBytes 4 r.verActive ++ leBytes 1 cause)

/-- The end of a trial in STABLE (R465, R466). -/
def trialEnds (s : State) : State :=
  let lc := rd s Reg.LC_STATUS.state
  let ver := Header.secver (activeHeader s)
  let s := modRecord s (fun r => { r with
    state := 0
    trialStarts := 0
    secverMin := if lc = 2 ∨ lc = 3 then max r.secverMin ver else r.secverMin })
  btEvent s 7 0xFFFF (leBytes 4 s.bt.record.verActive)

/-! ### The steps -/

/-- What a step comes to: completed, or failed with a reason of Table 18.2 and whether a trial rolls back at this failure. -/
inductive StepEnd where
  | completed (s : State)
  | failed (s : State) (reason : Nat) (atOnce : Bool)

/-- A failure with a reason. -/
def StepEnd.fail (s : State) (reason : Nat) : StepEnd := .failed s reason false

/-- Whether the alternative of step `k` is in force (R453). -/
def altOn (s : State) (k : Nat) : Bool := bitSet s.bt.record.alt k

/-- A copy once a fault has befallen it; only the start record is written so that a write cut short leaves the copy before it. -/
def CopyState.hurt (x : CopyState) (kind : Nat) (f : Option CopyFault) : CopyState :=
  match f with
  | none => x
  | some .check => if x = .good ∨ x = .badCheck then .badCheck else .badData
  | some .data => .badData
  | some .notWritten => if kind = 1 ∧ x = .good then .older else x

/-- What has befallen the copies of the two-copy records by a start; where the start record's last write has reached no valid copy,
the record before it is the record (R308, R455). -/
def recordsHurt (inp : StartInputs) (s : State) : State :=
  let s := inp.records.foldl (fun s r =>
    let c := copiesOf s r.kind
    modBt s (fun b => { b with copies := Tab.put b.copies r.kind ⟨c.a.hurt r.kind r.a, c.b.hurt r.kind r.b⟩ })) s
  let c := copiesOf s 1
  let back := fun (x : CopyState) => if x = .older then CopyState.good else .badData
  if c.a ≠ .good ∧ c.b ≠ .good ∧ (c.a = .older ∨ c.b = .older) then
    modBt s (fun b => { b with record := b.before, copies := Tab.put b.copies 1 ⟨back c.a, back c.b⟩ })
  else s

/-- Step 2: the wake die's configuration, read where the wake die has lost it; its ROM configuration under the alternative. -/
def step2 (cause : Nat) (s : State) : StepEnd :=
  if altOn s 2 then
    .completed (modWk { s with regs := Tab.keep (fun k _ => k / 32 / 0x10000 != 0x13) s.regs } (fun w => { w with groups := [] }))
  else
    match readRecord 4 s with
    | (s, false) => .fail s 3
    | (s, true) =>
      match activeGen s with
      | some g => if cause = 0 then
          .completed (modWk (applyStepSettings 2 g.regs s) (fun w => { w with sched := g.sched }))
        else .completed s
      | none => .completed s

/-- Whether the last power-down of the core die was clean (R66): its switch-off completed, or it followed a checkpoint of
cause 2, 3 or 5. -/
def wasClean (s : State) : Bool :=
  !s.lr.wakeDieLost && (s.lr.cleanSwitchOff || (match s.lr.pages.head? with
    | some p => p.cause == 2 || p.cause == 3 || p.cause == 5
    | none => false))

/-- H, the slope and the margin restored from the life record (R60). -/
def restoreGuard (s : State) : State :=
  let c := s.lr.counts
  let s := wr (wr s Reg.MP_HEM.hem (Tab.get c 0x312 60)) Reg.MP_SLOPE.uv_per_kh (Tab.get c 0x314 0)
  wr (wr s Reg.MP_MARGIN.margin (Tab.get c 0x318 0xFFFF)) Reg.MP_MARGIN.vreq125_mv (Tab.get c 0x310 0)

/-- The life record selected, its newest `lost` pages unreadable (R66): the selected page is the newest valid one from now on
(R71); a part's first start follows no shutdown. -/
def selectLife (lost : Nat) (s : State) : State :=
  let clean := wasClean s
  let older := decide (0 < lost) && !s.lr.pages.isEmpty
  let rejected := (s.lr.pages.head?.map (fun p => p.seq)).getD 0
  let pages := s.lr.pages.drop lost
  let s := { s with lr := { s.lr with
    pages := pages
    cleanSwitchOff := false
    wakeDieLost := false
    counts := if clean && !older then s.lr.counts else (pages.head?.map (fun p => p.counts)).getD []
    ns := if clean && !older then s.lr.ns else (pages.head?.map (fun p => p.ns)).getD []
    offenders := if clean && !older then s.lr.offenders else (pages.head?.map (fun p => p.offenders)).getD []
    since := s.now } }
  let s := if clean && !older then s else { s with lr := { s.lr with opMark := opNs s } }
  let s := restoreGuard (lifeCount s Life.powerOns 0)
  let held := (pages.head?.map (fun p => p.seq)).getD 0
  let seq := leBytes 4 held
  let s := wr (wr s Reg.LR_STATUS.restored_older (b2n older)) Reg.LR_SEQ.seq held
  let s := if older then lrEvent s 1 0xFFFF (seq ++ leBytes 4 rejected) else s
  if clean || decide (s.bt.record.startCount ≤ 1) then s else lrEvent (lifeCount s Life.unclean 0) 5 0xFFFF seq

/-- The freshness values and the in-band sequences at a start (R338, R408): exact after a clean shutdown, the recorded ones
after an unclean one; a part's first start follows no shutdown. -/
def resumeJournals (clean : Bool) (s : State) : State :=
  let s := if clean then s else { s with cx := { s.cx with
    secPdus := Tab.mapAll (fun _ (e : SecPdu) => { e with fv := e.recorded }) s.cx.secPdus } }
  (List.range 2).foldl (fun s k =>
    let r := Tab.get s.cmd.seqRecorded k 0
    wr s Reg.CMD_INB_SEQ.seq (if clean then r else min (r + 4096) 0xFFFFFFFF) k) s

/-- Whether the header in firmware slot `k` passes steps 6 and 7. -/
def slotPasses (s : State) (k : Nat) : Bool :=
  let g := imageSlot s k
  headerReason s k 0 g.header == 0 && keyServes s (Header.key g.header) 0 && headerSigned s g.header && manifestOk g.header g.body

/-- The start record rebuilt (Table 18.3, step 4). -/
def rebuildRecord (s : State) : State :=
  let a := slotPasses s 0
  let b := slotPasses s 1
  let va := Header.version (imageSlot s 0).header
  let vb := Header.version (imageSlot s 1).header
  let pick := if a && b then (if va < vb then 1 else 0) else if b then 1 else 0
  modRecord s (fun r => { r with
    state := 0
    fw := pick
    prevValid := a && b
    verActive := if pick = 0 then va else vb
    verPrev := if pick = 0 then vb else va
    genActive := 0
    confirmReq := false
    fabPrepared := false
    trialStarts := 0 })

/-- Step 4: start record, life record, journals. -/
def step4 (inp : StartInputs) (s : State) : StepEnd :=
  match readRecord 1 s with
  | (s, ok) =>
    if !ok && !altOn s 4 then .fail s 3
    else
      let s := if altOn s 4 then recordWritten (rebuildRecord s) 1 else s
      let clean := wasClean s
      .completed (resumeJournals (clean || decide (s.bt.record.startCount ≤ 1)) (selectLife inp.lostPages s))

/-- Step 5. -/
def step5 (s : State) : StepEnd :=
  if (imageSlot s (activeSlot s 0)).state = 2 then .completed s else .fail s 4

/-- Step 6. -/
def step6 (s : State) : StepEnd :=
  if headerReason s (activeSlot s 0) 0 (activeHeader s) = 0 then .completed s else .fail s 5

/-- Whether a return from Standby is warm: the digest the wake die holds is that of the header now read (R470). -/
def isWarm (s : State) (cause : Nat) : Bool := cause == 5 && s.bt.digest == some (digest 384 (activeHeader s))

/-- Step 7: on a warm start the digest has been compared; otherwise signature and manifest hash are verified. -/
def step7 (warm : Bool) (s : State) : StepEnd :=
  if warm then .completed s
  else
    let h := activeHeader s
    if !headerSigned s h then .fail (signatureFailed s (Header.key h) 0) 6
    else if !keyServes s (Header.key h) 0 || !manifestOk h (imageSlot s (activeSlot s 0)).body then .fail s 6
    else .completed (modBt s (fun b => { b with digest := some (digest 384 h) }))

/-- Whether the active image's part of a type matches its hash. -/
def partMatches (s : State) (typ : Nat) : Bool :=
  match (partsOf (activeManifest s)).find? (fun p => p.typ == typ) with
  | some p => partOk (activeHeader s) (imageSlot s (activeSlot s 0)).body p
  | none => false

/-- A ROOT slot as step 8 derives it; its length is a free value. -/
def rootSlot (s : State) (k : Nat) : KeySlot :=
  let n := 16 + 8 * freeIn s 0 2
  if s.lc.blown then ⟨0, 0, 0, 0, 2, [], none⟩
  else if s.lc.secret then ⟨0, n, 0x20, 0, 1, bytesOf n (Config.root s.lc.returned k), none⟩
  else ⟨0, 0, 0, 0, 0, [], none⟩

/-- Step 8: the SP's firmware; ROOT derived and FIXED keys reloaded, but none while the tamper latch is set (R319, R489). -/
def step8 (s : State) : StepEnd :=
  if !partMatches s 2 then .fail s 7
  else
    let s := (List.range 8).foldl (fun s k => drawn (setKeySlot s k (rootSlot s k))) s
    let fixed := if rdB s Reg.LC_STATUS.tamper || s.lc.blown then [] else s.cx.stored
    .completed (fixed.foldl (fun s e => setKeySlot s e.1 { e.2 with state := 1, prev := none }) s)

/-- Step 9: the CP's firmware, which says the fabric compatibility (R463). -/
def step9 (s : State) : StepEnd :=
  if !partMatches s 1 then .fail s 7
  else
    .completed (wr (modBt s (fun b => { b with running := activeManifest s })) Reg.TF_COMPAT.compat (Manifest.compat (activeManifest s)))

/-- The settings of step 10 of the generation in force. -/
def applySettings10 (s : State) : State :=
  match activeGen s with
  | some g => applyStepSettings 10 g.regs s
  | none => s

/-- Step 10: the settings read, migrated, or replaced by the image's defaults (R469). -/
def step10 (inp : StartInputs) (s : State) : StepEnd :=
  match readRecord 3 (commandFixDue s) with
  | (s, false) => .fail s 3
  | (s, true) =>
    if altOn s 10 then .completed s
    else
      match activeGen s with
      | none => .completed s
      | some g =>
        let m := activeManifest s
        let old := g.schema
        if old = Manifest.schema m then .completed (applySettings10 s)
        else
          match inp.migrated with
          | some regs =>
            if Manifest.minSchema m ≤ old ∧ old < Manifest.schema m then
              let (size, s) := genSize s
              let s := appendGen s (Manifest.schema m) (regs.foldl (fun t x => Tab.put t x.1 x.2) []) g.sched size
              .completed (applySettings10 (btEvent s 8 0xFFFF (leBytes 4 old ++ leBytes 4 s.bt.record.genActive)))
            else if Manifest.acceptDefaults m then
              let (size, s) := genSize s
              let s := appendGen s (Manifest.schema m) [] [] size
              .completed (btEvent s 9 0xFFFF (leBytes 4 old ++ leBytes 4 s.bt.record.genActive))
            else .failed s 10 true
          | none =>
            if Manifest.acceptDefaults m then
              let (size, s) := genSize s
              let s := appendGen s (Manifest.schema m) [] [] size
              .completed (btEvent s 9 0xFFFF (leBytes 4 old ++ leBytes 4 s.bt.record.genActive))
            else .failed s 10 true

/-! ### Step 11: tables (R462, R470) -/

/-- Bytes cut into pieces of `n`; a shorter rest is dropped. -/
def pieces : Nat → Nat → Bytes → List Bytes
  | 0, _, _ => []
  | fuel + 1, n, b => if n = 0 ∨ b.length < n then [] else b.take n :: pieces fuel n (b.drop n)

/-- A command's operation on each of a list of parameters; none where one is refused. -/
def allOk (f : Bytes → State → CmdAnswer) (ps : List Bytes) (s : State) : Option State :=
  ps.foldl (fun a p => a.bind (fun s => match f p s with
    | (s, some (0, _)) => some s
    | _ => none)) (some s)

/-- Entries of table `t` from index `first` on: tables 12–14 through the checks of their own commands, the others as table DMA
writes them. -/
def loadEntries (t first : Nat) (b : Bytes) (s : State) : Option State :=
  let size := if 12 ≤ t ∧ t ≤ 14 then 16 else (dmaSize t).2
  let es := pieces b.length size b
  let put := fun (k : Nat) (e : Bytes) =>
    if t = 13 then leBytes 2 (first + k) ++ zeros 2 ++ e else leBytes 1 (first + k) ++ zeros 3 ++ e
  let ps := (List.range es.length).map (fun k => put k (es.getD k []))
  if b.length % size ≠ 0 then none
  else if t = 12 then (if 128 < first + es.length then none else allOk opCkWrite ps s)
  else if t = 13 then allOk opSecpduWrite ps s
  else if t = 14 then (if 256 < first + es.length then none else allOk opProfileWrite ps s)
  else if (dmaSize t).1 < first + es.length then none
  else some ((List.range es.length).foldl (fun s k => dmaPut t (first + k) (leNat (es.getD k [])) s) s)

/-- Template extensions, each a template index, reserved bytes, the header and the content (R462). -/
def loadExtensions : Nat → Bytes → State → Option State
  | 0, _, s => some s
  | fuel + 1, b, s =>
    if b.isEmpty then some s
    else
      let n := 24 + Tpl.length (tplOf s (leAt b 0 2))
      if b.length < n then none
      else
        match opTplExt (b.take n) s with
        | (s, some (0, _)) => loadExtensions fuel (b.drop n) s
        | _ => none

/-- A rule set committed as turn 1 with a miss action (R291, R462). -/
def loadRules (rules : List Bytes) (miss : Nat) (s : State) : Option State :=
  if rules.any (fun r => ruleReason s r != 0) then none
  else
    let adds : Tab Bytes := rules.foldl (fun t r => Tab.put t (Rule.id r) r) []
    let s := modCl s (fun g => { g with open_ := some ⟨adds, [], miss⟩ })
    let s := placeAdds 1 adds 0 s
    some (turnSync (commitNow (modCl s (fun g => { g with commit := some ⟨false, s.now, none, adds.length, 0⟩ }))))

/-- The kind of its stream noted for every valid template of the image: the one it was written with (R180). -/
def noteStreamKinds (s : State) : State :=
  (s.sg.templates.filter (fun e => Tpl.valid e.2 && decide (64 ≤ Tpl.target e.2))).foldl (fun s e =>
    modRun s e.1 (fun r => { r with streamKind := Strm.kind (streamOf s (Tpl.target e.2 - 64)) })) s

/-- The tables whose entries a table image may hold. -/
def imageTables : List Nat := [1, 2, 3, 4, 5, 6, 7, 8, 9, 11, 12, 13, 14, 15, 16, 17, 18, 19, 21, 24]

/-- One part of a table image applied; none where an entry fails a check. -/
def loadPart (p : Part) (b : Bytes) (s : State) : Option State :=
  let whole := fun (n : Nat) (f : Bytes → State → CmdAnswer) => if b.length % n ≠ 0 then none else allOk f (pieces b.length n b) s
  if p.typ = 0x20 then whole 16 opSlotConfig
  else if p.typ = 0x2A then loadExtensions b.length b s
  else if p.typ = 0x40 then (if b.length % 96 ≠ 0 then none else loadRules (pieces b.length 96 b) 1 s)
  else if p.typ = 0x41 then whole 16 opL2Add
  else if p.typ = 0x42 then whole 24 opLpmAdd
  else if imageTables.contains (p.typ - 0x20) && decide (0x20 ≤ p.typ) then loadEntries (p.typ - 0x20) p.version b s
  else none

/-- A part in its place among parts of rising offset. -/
def insertPart (p : Part) : List Part → List Part
  | [] => [p]
  | q :: l => if p.offset < q.offset then p :: q :: l else q :: insertPart p l

/-- The table image in the active table slot applied: the reason it fails, 0 where it does not; nothing where there is none. -/
def loadTableImage (s : State) : State × Nat :=
  let g := imageSlot s (activeSlot s 1)
  if g.state ≠ 2 then (s, 0)
  else
    let m := manifestOf g.header g.body
    let ps := (partsOf m).foldr insertPart []
    if ps.any (fun p => !partOk g.header g.body p) then (s, 7)
    else
      match ps.foldl (fun a p => a.bind (loadPart p (partBytes g.header g.body p))) (some s) with
      | some s => (noteStreamKinds s, 0)
      | none => (s, 12)

/-- Whether the snapshot's seal names the slots and the generation in force. -/
def sealHolds (s : State) : Bool :=
  match s.bt.snapshot with
  | some x => x.fw == s.bt.record.fw && x.tbl == s.bt.record.tbl && x.gen == s.bt.record.genActive
  | none => false

/-- A slot with its configuration only: it starts unwritten (R126). -/
def Slot.configOnly (x : Slot) : Slot :=
  { Slot.blank with
    kind := x.kind
    fanFirst := x.fanFirst
    fanCount := x.fanCount
    value := if x.kind = 3 then x.value else 0 }

/-- The snapshot loaded (R470). -/
def loadSnapshot (x : Snapshot) (s : State) : State :=
  let g := x.sg
  let s := { s with
    ba := x.ext
    sg := { s.sg with
      slots := Tab.mapAll (fun _ y => Slot.configOnly y) g.slots
      routes := g.routes
      canRoutes := g.canRoutes
      rxPdus := g.rxPdus
      unpacks := g.unpacks
      destLists := g.destLists
      convs := g.convs
      fanOut := g.fanOut
      templates := g.templates
      staleParams := g.staleParams
      runs := g.runs
      checks := g.checks }
    ft := { s.ft with
      l2 := x.statics
      vlans := x.vlans
      nextHops := x.nextHops
      pfx4 := x.pfx4
      pfx6 := x.pfx6 }
    cx := { s.cx with profiles := x.profiles } }
  let s := g.streams.foldl (fun s e => tableStore s 11 e.1 e.2) s
  let s := (g.templates.filter (fun e => Tpl.valid e.2)).foldl (fun s e =>
    anchorNow (modRun s e.1 (fun r => { r with streamKind := (Tab.get g.tplRun e.1 TplRun.blank).streamKind })) e.1) s
  let s := (g.checks.filter (fun e => Ck.valid e.2)).foldl (fun s e => ckReset s e.1 e.2) s
  let s := x.sw.streams.foldl (fun s e => perStreamPut 16 e.1 e.2 s) s
  let s := x.sw.policers.foldl (fun s e => perStreamPut 17 e.1 e.2 s) s
  let s := x.sw.gens.foldl (fun s e => perStreamPut 18 e.1 e.2 s) s
  let s := x.sw.recs.foldl (fun s e => perStreamPut 19 e.1 e.2 s) s
  let s := x.words.foldl (fun s e => { s with cx := { s.cx with
    secPdus := Tab.put s.cx.secPdus e.1 { secPdu s e.1 with words := e.2 } } }) s
  (loadRules x.rules x.miss s).getD s

/-- The three table enables of the settings written, en left 0 under the alternative. -/
def tableEnables (off : Bool) (s : State) : State :=
  match activeGen s with
  | some g =>
    if altOn s 10 then s
    else applyWords ((g.regs.filter (fun x => isTableEnable x.1)).map (fun x => (x.1, if off then clrBit x.2 0 else x.2))) s
  | none => s

/-- The tables ready: what waits for them starts (R162). -/
def tablesReady (s : State) : State :=
  let s := wr (wr s Reg.FT_STATUS.ready 1) Reg.SG_STATUS.ready 1
  anchorAll { s with sg := { s.sg with readyAt := s.now } }

/-- Step 11: the parse microcode, then the snapshot or the table image, then the enables. -/
def step11 (s : State) : StepEnd :=
  let image := ((partOfType s (activeSlot s 0) 3).getD [])
  if !partMatches s 3 then .fail s 7
  else
    match loadImage s 0 image with
    | (s, st, _) =>
      if st ≠ stOk then .fail s 12
      else if altOn s 11 then .completed (tablesReady (tableEnables true s))
      else
        let fromSnapshot := sealHolds s
        let (s, reason) := match s.bt.snapshot, fromSnapshot with
          | some x, true => (loadSnapshot x s, 0)
          | _, _ => loadTableImage s
        if reason ≠ 0 then .fail s reason
        else
          let s := if s.cl.current = 0 then (loadRules [] 1 s).getD s else s
          let s := wr (modBt s (fun b => { b with snapshot := none })) Reg.BT_STATUS.snapshot_used (b2n fromSnapshot)
          .completed (tablesReady (tableEnables false s))

/-- Step 12: CAN, Ethernet and host bridge settings; fails where a configuration check rejects one. -/
def step12 (s : State) : StepEnd :=
  let s := modWk s (fun w => { w with stbFree := true })
  match activeGen s with
  | none => .completed s
  | some g =>
    if altOn s 10 then .completed s
    else
      let s := applyStepSettings 12 g.regs s
      let bad := (List.range 64).any (fun n => rd s Reg.CAN_STATUS.cfg_err n != 0) ||
        (List.range 12).any (fun p => rd s Reg.ETH_STATUS.cfg_err p != 0)
      if bad then .fail s 13 else .completed s

/-- Step 13: the fabric identity record, then TF_CTRL. -/
def step13 (s : State) : StepEnd :=
  match readRecord 2 s with
  | (s, false) => .fail s 3
  | (s, true) =>
    match activeGen s with
    | none => .completed s
    | some g => .completed (if altOn s 10 then s else applyStepSettings 13 g.regs s)

/-- Step 3: it fails where a monitor's SI is below 1.000, for a reason Table 18.2 does not state (free); device time starts at 0 as
it completes (R15), unless the start continues what the wake die captured (R28). -/
def step3 (cause : Nat) (inp : StartInputs) (s : State) : StepEnd :=
  if inp.sample.any (fun v => decide (v.toNat < 0x1000)) then .fail (drawn s) (freeIn s 1 14)
  else .completed (if cause = 5 ∨ cause = 6 then s else { s with dt := restartTime s false })

/-- Step `k` of a start for `cause`. Step 1 fails only by what it meets outside the device's state. -/
def runStep (k cause : Nat) (inp : StartInputs) (s : State) : StepEnd :=
  match k with
  | 2 => step2 cause s
  | 3 => step3 cause inp s
  | 4 => step4 inp s
  | 5 => step5 s
  | 6 => step6 s
  | 7 => step7 (isWarm s cause) (wr s Reg.BT_STATUS.warm (b2n (isWarm s cause)))
  | 8 => step8 s
  | 9 => step9 s
  | 10 => step10 inp s
  | 11 => step11 s
  | 12 => step12 s
  | 13 => step13 s
  | _ => .completed s

/-- Whether a step is skipped: 12 and 13 under their alternatives, 11–13 on a SCRAPPED device (R476). -/
def skips (s : State) (k : Nat) : Bool :=
  (decide (11 ≤ k) && rd s Reg.LC_STATUS.state == 5) || (decide (12 ≤ k) && altOn s k)

/-! ### Failures (R451, R452) -/

/-- Whether step `k` rolls a trial back rather than take an alternative. -/
def rollsBack (k : Nat) : Bool := k == 2 || (decide (4 ≤ k) && decide (k ≤ 11))

/-- Whether step `k` has an alternative that can itself lead to RECOVERY. -/
def recovers (k : Nat) : Bool := rollsBack k

/-- The failure of step `k` (R450–R452, R454). -/
def stepFailed (k reason : Nat) (atOnce : Bool) (s : State) : State :=
  let count := Tab.get s.bt.record.fails k 0 + 1
  let s := modRecord s (fun r => { r with
    fails := Tab.put r.fails k (min count 255)
    failStep := k
    failReason := reason })
  let s := lifeCount (lifeSettle s) Life.stepFail (k - 1)
  let s := holdEvent s 16 1 k (leBytes 1 k ++ leBytes 1 reason ++ leBytes 1 (min count 255))
  if k = 1 ∨ k = 3 then
    modBt s (fun b => { b with due := some (rd s Reg.SYS_RESET_CAUSE.cause), retryAt := some (s.now + sec), hung := none })
  else
    let trial := s.bt.record.state == 2
    let back := trial && rollsBack k && (atOnce || decide (2 ≤ count))
    let s := if back then
        let s := rollBack holdEvent s (if atOnce then 5 else 4) (if atOnce then 1 else 0)
        let s := modRecord s (fun r => { r with fails := Tab.del r.fails k })
        holdEvent s 1 2 0xFFFF (leBytes 1 2 ++ leBytes 2 0)
      else if recovers k && decide (4 ≤ count) then modRecord s (fun r => { r with recovery := true })
      else s
    let s := emit (sleevesUnpowered s) (.reset (if back then 8 else 3))
    modBt s (fun b => { b with
      due := some (if back then 8 else 3)
      retryAt := some (s.now + 100 * ms)
      hung := none })

/-- The alternative of step `k` taken where the step has failed twice (R452, R453): for steps 5–9 the previous slots. -/
def takeAlternative (s : State) (k : Nat) : State :=
  if k = 1 ∨ k = 3 ∨ Tab.get s.bt.record.fails k 0 < 2 ∨ altOn s k then s
  else
    let s := modRecord s (fun r => { r with alt := orBit r.alt k })
    let s := if 5 ≤ k ∧ k ≤ 9 ∧ s.bt.record.prevValid = true then
        rollBack holdEvent (modBt s (fun b => { b with kinds := if b.kinds = 0 then 1 else b.kinds })) 4 0
      else s
    holdEvent s 16 2 k (leBytes 1 k)

/-! ### A start -/

/-- The completion of a start (R449): the event, the end of a trial without confirmation, the events held, the return to Run. -/
def startDone (s : State) : State :=
  let cause := rd s Reg.SYS_RESET_CAUSE.cause
  let data := leBytes 1 cause ++ leBytes 1 (rd s Reg.BT_STATUS.warm) ++ leBytes 4 (freeIn s 0 0xFFFFFFFF)
  let s := sysEvent (drawn s) 1 data
  let s := if s.bt.record.state = 2 ∧ s.bt.record.confirmReq = false then trialEnds s else s
  match s.wk.ret with
  | some r => reachRun s (if cause = 6 then 4 else 3) r
  | none => deliverHeld s

/-- Steps from `k` on, `n` of them at most. -/
def runSteps : Nat → Nat → Nat → StartInputs → State → State
  | 0, _, _, _, s => startDone s
  | n + 1, k, cause, inp, s =>
    if inp.hangs = some k then modBt s (fun b => { b with hung := some (k, s.now) })
    else
      let ended := match inp.fails with
        | some (j, r) => if j = k then StepEnd.failed s r false else if skips s k then .completed s else runStep k cause inp s
        | none => if skips s k then .completed s else runStep k cause inp s
      match ended with
      | .failed s r now => stepFailed k r now s
      | .completed s =>
        let s := modRecord (wr s Reg.BT_STATUS.step k) (fun r => { r with fails := Tab.del r.fails k })
        runSteps n (k + 1) cause inp s

/-- A start in RECOVERY (R454): supply, power and the SP's ROM, nothing further. -/
def recoveryStart (s : State) : State :=
  let r := s.bt.record
  deliverHeld (btEvent (wr s Reg.BT_STATUS.step 3) 10 0xFFFF (leBytes 1 r.failStep ++ leBytes 1 r.failReason))

/-- The channels of a group in SLEEP start in Cloak (R436). -/
def startsCloaked (s : State) : State :=
  (List.range 64).foldl (fun s n =>
    match groupOf s n with
    | some g => if (grpAt s g).state = 4 then modCan (wr s Reg.CAN_STATUS.cloak 1 n) n (fun c => { c with cloakGroup := g }) else s
    | none => s) s

/-- A start for `cause` from step 1. -/
def beginStart (cause : Nat) (inp : StartInputs) (s : State) : State :=
  let failStep := if cause = 3 then s.bt.record.failStep else 0
  let s := recordsHurt inp (startsCloaked (coreReset (lifeSettle s) cause))
  let s := modBt s (fun b => { b with due := none, retryAt := none, hung := none })
  let s := wr (wr s Reg.SYS_RESET_CAUSE.cause cause) Reg.SYS_RESET_CAUSE.fail_step failStep
  let s := wr (modWk s (fun w => { w with entry := none, ret := if cause = 5 ∨ cause = 6 then w.ret else none })) Reg.WK_STATUS.state 0
  let s := modBt s (fun b => { b with record := { b.record with startCount := (b.record.startCount + 1) % 2 ^ 32 } })
  if s.bt.record.recovery then recoveryStart s
  else
    let s := if s.bt.record.state = 2 then
        if s.bt.record.confirmReq && decide (3 ≤ s.bt.record.trialStarts) then rollBack holdEvent s 4 2
        else modRecord s (fun r => { r with trialStarts := min 255 (r.trialStarts + 1) })
      else s
    let s := ((List.range 13).map (· + 1)).foldl takeAlternative s
    runSteps 13 1 cause inp s

/-- Whether nothing holds the core die in reset (R499, R500). -/
def mayStart (s : State) : Bool := s.bt.holds == 0 && !s.bt.vbatLow

/-- DEVICE_START (R449): a start that is due, or the first of a device never started. -/
def deviceStart (inp : StartInputs) (s : State) : State :=
  if !mayStart s || s.bt.retryAt.isSome || s.bt.hung.isSome || decide (2 ≤ powerState s) then s
  else
    match s.bt.due with
    | some c => beginStart c inp s
    | none => if rd s Reg.BT_STATUS.step = 0 ∧ s.bt.record.startCount = 0 then beginStart 0 inp s else s

/-- START_RETRY (R451): step 1 or 3 repeated, or the next start after another step's failure. -/
def startRetry (inp : StartInputs) (s : State) : State :=
  match s.bt.retryAt, s.bt.due with
  | some at_, some c =>
    if !mayStart s || decide (s.now < at_) then s
    else
      let k := s.bt.record.failStep
      if k = 1 ∨ k = 3 then
        runSteps (14 - k) k c inp (recordsHurt inp (modBt s (fun b => { b with due := none, retryAt := none })))
      else beginStart c inp s
  | _, _ => s

/-- Whether step 10 migrates: the settings in force are of an older schema that the image reads (R469). -/
def migrates (s : State) : Bool :=
  match activeGen s with
  | some g => decide (Manifest.minSchema (activeManifest s) ≤ g.schema) && decide (g.schema < Manifest.schema (activeManifest s))
  | none => false

/-- The time step `k` may take before it fails (R450), in µs: four times its full-start budget, step 1 its own 10 ms, and step 10
while it migrates 10 s. -/
def stepLimit (s : State) (k : Nat) : Nat :=
  if k = 10 ∧ migrates s then 10000000
  else [0, 10000, 2000, 4000, 2000, 400, 400, 36000, 8000, 42000, 16000, 56000, 8000, 4000].getD k 0

/-- START_STEP_TIMEOUT (R450). -/
def stepTimeout (s : State) : State :=
  match s.bt.hung with
  | some (k, since) => if since + stepLimit s k * us ≤ s.now ∧ !anyHalted s then stepFailed k (if k = 1 then 1 else 2) false s else s
  | none => s

/-- RETURN_TO_RUN (R443): from Doze after one SI sample (R60); from Standby and Hibernate through the start. -/
def returnToRun (inp : StartInputs) (s : State) : State :=
  match s.wk.ret with
  | none => s
  | some r =>
    if powerState s = 2 then reachRun (siSampleOp inp.sample s) 2 r
    else if mayStart s && decide (3 ≤ powerState s) then beginStart (powerState s + 2) inp s
    else s

/-! ### The rows -/

/-- DEVICE_START (R449). -/
def execDeviceStart (t : Nat) (inputs : StartInputs) (s : State) : Host.Outcome State Fault Refusal :=
  done (deviceStart inputs (arrive t s))

/-- START_STEP_TIMEOUT (R450). -/
def execStartStepTimeout (t : Nat) (s : State) : Host.Outcome State Fault Refusal := done (stepTimeout (arrive t s))

/-- START_RETRY (R451). -/
def execStartRetry (t : Nat) (inputs : StartInputs) (s : State) : Host.Outcome State Fault Refusal :=
  done (startRetry inputs (arrive t s))

/-- RETURN_TO_RUN (R443). -/
def execReturnToRun (t : Nat) (inputs : StartInputs) (s : State) : Host.Outcome State Fault Refusal :=
  done (returnToRun inputs (arrive t s))

end Sys2Proof.Machine
end

