-- ==== Sys2Proof/Machine/Update.lean ====
section
/-! DEFINITION. The Update group (R458–R467, R472): images received into their slots, preparation, activation and its undoing, and
the fabric-wide commit. -/

namespace Sys2Proof.Machine

/-! ### Receiving an image (R459–R461) -/

/-- The reply of UPD_OPEN. -/
def openReply (slot reason : Nat) : Bytes := leBytes 1 slot ++ leBytes 1 reason ++ zeros 2

/-- Whether a key slot serves an encrypted image: a LOADED FIXED key with usage bit 5. -/
def imageKeyOk (s : State) (k : Nat) : Bool := (keySlot s k).cls == 1 && keyCheck s k 5 == stOk

/-- A header refused (R459). -/
def headerRefused (s : State) (slot reason st : Nat) (h : Bytes) : CmdAnswer :=
  let s := lifeCount s Life.updates 3
  let s := btEvent s 4 0xFFFF (leBytes 1 reason ++ leBytes 4 (Header.version h))
  (s, some (st, openReply slot reason))

/-- The streaming request that decrypts an encrypted image of `n` body bytes under key slot `k` (R460), on the SP's queue. -/
def imageRequest (k n : Nat) : CxReq where
  id := 0
  queue := 5
  mode := 2
  op := 1
  slot := k
  gen := 0
  mac := none
  streaming := true
  noPad := false
  tagLen := 16
  voidId := 0
  aadLen := 256
  dataLen := n
  iv := []
  tag := []
  input := []
  src := 0
  dst := 0
  units := holdUnits true true 2 n
  verifies := true
  pipe := none
  released := 0
  waiter := .image

/-- The upload's cipher request ended. -/
def endImageRequest (s : State) (u : Upload) : State :=
  match s.cx.reqs.find? (fun r => some r.id == u.request) with
  | some r => retireReq s r
  | none => s

/-- UPD_OPEN (R459, Table 18.6). An upload it takes the place of ends. -/
def opUpdOpen (c : Call) (p : Bytes) (s : State) : CmdAnswer :=
  let kind := byteAt p 0
  let enc := byteAt p 1
  let key := leAt p 2 2
  let h := p.drop 16
  let slot := inactiveSlot s kind
  if p.length ≠ 272 then fail s stBadLength
  else if 1 < kind ∨ 1 < enc then fail s stBadParam
  else if s.bt.record.state ≠ 0 then fail s stBusy
  else if enc = 1 ∧ imageKeyOk s key = false then fail s stDenied
  else
    let r := headerReason s slot kind h
    if r ≠ 0 then headerRefused s slot r stBadParam h
    else if !keyServes s (Header.key h) 0 then headerRefused s slot 7 stDenied h
    else if !headerSigned s h then headerRefused (signatureFailed s (Header.key h) 0) slot 8 stIntegrity h
    else
      let s := lifeCount s Life.updates 0
      let s := modSlot s slot (fun _ => ⟨1, [], [], 0⟩)
      let s := match s.bt.upload with
        | some u => endImageRequest s u
        | none => s
      let id := s.cx.nextReq
      let s := if enc = 1 then enqueueReq s (imageRequest key (Header.length h - 256)) else s
      let s := modBt s (fun b => { b with
        upload := some ⟨slot, kind, enc == 1, key, sliceBytes p 4 12, h, [], if enc = 1 then some id else none, c.tag⟩ })
      okay s (openReply slot 0)

/-- The cipher request of an upload, once it runs. -/
def Upload.running (s : State) (u : Upload) : Option CxReq :=
  s.cx.reqs.find? (fun r => some r.id == u.request && r.pipe.isSome)

/-- The key of an encrypted upload: that of the generation its request started with (R321). -/
def Upload.key (s : State) (u : Upload) : Bytes :=
  match u.running s with
  | some r => r.key s
  | none => keyOf s u.keySlot

/-- The plaintext an upload's bytes give: themselves, or their decryption. -/
def Upload.plain (s : State) (u : Upload) : Bytes := if u.enc then gcmCrypt (u.key s) u.iv u.data else u.data

/-- How many bytes of an upload may stand in its slot before it closes: all of them, or the whole chunks but the last of an
encrypted one whose request runs (R315, R327). -/
def Upload.programmed (s : State) (u : Upload) : Nat :=
  if !u.enc then u.data.length
  else if (u.running s).isNone then 0
  else if u.data.length + 256 < Header.length u.header then u.data.length / 4096 * 4096
  else (u.data.length - 1) / 4096 * 4096

/-- UPD_WRITE (R460). -/
def opUpdWrite (p : Bytes) (s : State) : CmdAnswer :=
  let k := p.length - 8
  let off := leAt p 0 4
  if p.length < 12 ∨ 32768 < k ∨ k % 4 ≠ 0 then fail s stBadLength
  else
    match s.bt.upload with
    | none => fail s stBadParam
    | some u =>
      if leAt p 4 4 ≠ 0 ∨ off ≠ 256 + u.data.length ∨ Header.length u.header < off + k then fail s stBadParam
      else if (imageSlot s u.slot).erased < off + k then fail s stBusy
      else
        let u := { u with data := u.data ++ p.drop 8 }
        let n := u.programmed s
        let s := modSlot s u.slot (fun g => { g with body := (u.plain s).take n })
        let s := { s with cx := { s.cx with
          reqs := s.cx.reqs.map (fun r => if some r.id = u.request then { r with released := n } else r) } }
        okay (modBt s (fun b => { b with upload := some u })) []

/-- The result of UPD_CLOSE for a failing part; the reason it carries is a value the spec does not give. -/
def closeResult (part reason : Nat) : Bytes := leBytes 4 part ++ leBytes 1 reason ++ zeros 3

/-- An upload that fails its verification: its slot INVALID. -/
def closeFailed (s : State) (u : Upload) (part : Nat) : CmdAnswer :=
  let s := modBt (modSlot s u.slot (fun g => { g with state := 3 })) (fun b => { b with upload := none })
  (drawn s, some (stIntegrity, closeResult part (freeIn s 1 255)))

/-- An encrypted upload whose tag fails: the slot voided, the released bytes zeroed (R327). -/
def closeVoided (s : State) (u : Upload) : CmdAnswer :=
  let s := voidImage (endImageRequest (tagFailed s 5) u)
  (drawn s, some (stIntegrity, closeResult 0xFFFFFFFF (freeIn s 1 255)))

/-- UPD_CLOSE (R461). -/
def opUpdClose (p : Bytes) (s : State) : CmdAnswer :=
  match s.bt.upload with
  | none => if p.length = 0 ∨ p.length = 16 then fail s stBadParam else fail s stBadLength
  | some u =>
    if p.length ≠ (if u.enc then 16 else 0) then fail s stBadLength
    else if u.data.length + 256 < Header.length u.header then fail s stBadParam
    else if u.enc && gcmTag (u.key s) u.iv u.header u.data != p then closeVoided s u
    else
      let body := u.plain s
      let s := endImageRequest s u
      let s := modSlot s u.slot (fun g => { g with body := body })
      if !manifestOk u.header body then closeFailed s u 0xFFFFFFFF
      else
        match badPart u.header body with
        | some i => closeFailed s u i
        | none =>
          if u.kind = 0 ∧ partsComplete (manifestOf u.header body) = false then closeFailed s u 0xFFFFFFFF
          else
            let s := modSlot s u.slot (fun g => { g with
              state := 2
              header := u.header })
            let s := btEvent (modBt s (fun b => { b with upload := none })) 5 u.slot
              (leBytes 1 u.kind ++ leBytes 1 u.slot ++ leBytes 4 (Header.version u.header))
            okay s (closeResult 0xFFFFFFFF 0)

/-- SLOT_ERASE_COMPLETE (R460). -/
def slotErased (k off : Nat) (s : State) : State :=
  if (imageSlot s k).state = 1 then modSlot s k (fun g => { g with erased := max g.erased (min off (slotSize k)) }) else s

/-! ### Activation (R463–R466) -/

/-- Whether a mask of kinds names at least one kind, each with a VERIFIED inactive slot. -/
def kindsReady (s : State) (mask : Nat) : Bool :=
  [0, 1].all (fun k => !bitSet mask k || (imageSlot s (inactiveSlot s k)).state == 2)

/-- A preparation written to the start record (R463). -/
def prepare (s : State) (mask : Nat) : State :=
  modRecord (modBt s (fun b => { b with preparing := mask })) (fun r => { r with state := 1 })

/-- UPD_PREPARE. -/
def opUpdPrepare (p : Bytes) (s : State) : CmdAnswer :=
  let mask := byteAt p 0 % 4
  if p.length ≠ 4 then fail s stBadLength
  else if s.bt.record.state ≠ 0 then fail s stBusy
  else if mask = 0 || !kindsReady s mask then fail s stNotFound
  else okay (prepare s mask) []

/-- The one write of the start record that activates what is prepared (R464); it clears every alternative (R453), and in
RECOVERY every count (R454). -/
def activate (s : State) (confirm : Bool) : State :=
  let s := modBt s (fun b => { b with kinds := b.preparing })
  let fw := bitSet s.bt.kinds 0
  let tbl := bitSet s.bt.kinds 1
  let ver := if fw then Header.version (imageSlot s (inactiveSlot s 0)).header else s.bt.record.verActive
  let s := modRecord s (fun r => { r with
    state := 2
    fw := if fw then 1 - r.fw else r.fw
    ws := if fw then 1 - r.ws else r.ws
    tbl := if tbl then 1 - r.tbl else r.tbl
    prevValid := true
    genPrev := r.genActive
    trialStarts := 0
    confirmReq := confirm
    verPrev := if fw then r.verActive else r.verPrev
    verActive := ver
    alt := 0
    fails := if r.recovery then [] else r.fails
    recovery := false
    fabPrepared := false })
  btEvent (lifeCount s Life.updates 1) 6 0xFFFF (leBytes 4 ver ++ leBytes 1 s.bt.kinds)

/-- A restart an activation or a revert asks for: the event, then the core die stops (R415). -/
def restartFor (s : State) (why tag : Nat) : State := coreStops (sysEvent s 2 (leBytes 1 why ++ leBytes 2 tag)) 8

/-- UPD_ACTIVATE: it replies before any restart. -/
def opUpdActivate (c : Call) (p : Bytes) (s : State) : CmdAnswer :=
  let flags := byteAt p 0
  if p.length ≠ 4 then fail s stBadLength
  else if s.bt.record.state ≠ 1 then fail s stNotFound
  else if s.bt.record.fabPrepared then fail s stDenied
  else
    let s := activate s (bitSet flags 1 || (s.bt.record.recovery && rdB s Reg.BT_CTRL.confirm_req))
    let s := sendReply s 0x7005 c stOk []
    (if bitSet flags 0 then restartFor s 1 c.tag else s, none)

/-- UPD_ABORT. -/
def opUpdAbort (p : Bytes) (s : State) : CmdAnswer :=
  if p.length ≠ 0 then fail s stBadLength
  else if s.bt.record.state ≠ 1 then fail s stNotFound
  else if s.bt.record.fabPrepared then fail s stDenied
  else okay (modRecord s (fun r => { r with state := 0 })) []

/-- UPD_CONFIRM. -/
def opUpdConfirm (p : Bytes) (s : State) : CmdAnswer :=
  if p.length ≠ 0 then fail s stBadLength
  else if s.bt.record.state ≠ 2 then fail s stNotFound
  else okay (trialEnds s) []

/-- UPD_REVERT: the previous slots of the kinds last activated made active again (R465, R466). -/
def opUpdRevert (c : Call) (p : Bytes) (s : State) : CmdAnswer :=
  let flags := byteAt p 0
  if p.length ≠ 4 then fail s stBadLength
  else if s.bt.record.state ≠ 0 ∨ s.bt.record.prevValid = false then fail s stNotFound
  else if [0, 1].any (fun k => bitSet s.bt.kinds k &&
      decide (Header.secver (imageSlot s (inactiveSlot s k)).header < s.bt.record.secverMin)) then fail s stDenied
  else
    let s := sendReply (rollBack tellNow s 4 3) 0x7008 c stOk []
    (if bitSet flags 0 then restartFor s 3 c.tag else s, none)

/-- UPD_STATUS. -/
def opUpdStatus (p : Bytes) (s : State) : CmdAnswer :=
  if p.length ≠ 0 then fail s stBadLength else okay s (recordBytesOf s)

/-- BT_ALT_CLEAR (R453). -/
def opAltClear (p : Bytes) (s : State) : CmdAnswer :=
  if p.length ≠ 4 then fail s stBadLength
  else okay (clearAlternatives (leAt p 0 2 &&& 0x3FFE) s) []

/-! ### The fabric commit (R467) -/

/-- A message of the commit (Table 18.10): phase 1 PREPARE, 2 PREPARED, 3 COMMIT, 4 ABORT, 5 QUERY, 6 ACK. -/
structure FabMsg where
  phase : Nat
  status : Nat
  compat : Nat
  id : Nat
  at_ : Nat

/-- The message of 16 parameter bytes. -/
def fabMsgOf (p : Bytes) : FabMsg := ⟨byteAt p 0, byteAt p 1, leAt p 2 2, leAt p 4 4, leAt p 8 8⟩

/-- A message sent to a device as UPD_FAB_MSG. -/
def fabTell (s : State) (d : Nat) (m : FabMsg) : State :=
  let body := leBytes 1 m.phase ++ leBytes 1 m.status ++ leBytes 2 m.compat ++ leBytes 4 m.id ++ leBytes 8 m.at_
  (fabSend s (fabHeader s 7 (rd s Reg.TF_CTRL.rra_class) d (packet 0 0x7011 0 d (ownId s) 0 0 body))).1

/-- The initiator of a commit. -/
def fabInitiator (id : Nat) : Nat := id % 64

/-- The devices of a member mask. -/
def membersOf (mask : Nat) : List Nat := (List.range 64).filter (fun d => bitSet mask d)

/-- The fabric_compat of the image a preparation would start. -/
def targetCompat (s : State) (mask : Nat) : Nat :=
  if bitSet mask 0 then
    let g := imageSlot s (inactiveSlot s 0)
    Manifest.compat (manifestOf g.header g.body)
  else rd s Reg.TF_COMPAT.compat

/-- A member prepares (R463, R467): its answer's status and compat. A PREPARE's status byte carries the kind mask, and at bit 2
whether the previous slots are the target (assumption 43). -/
def memberPrepare (s : State) (m : FabMsg) : State × Nat × Nat :=
  let mask := bitsOf m.status 0 2
  if s.bt.record.fabPrepared && s.bt.record.fabId == m.id then (s, stOk, targetCompat s s.bt.preparing)
  else if s.bt.record.state ≠ 0 then (s, stBusy, 0)
  else if mask = 0 ∨ kindsReady s mask = false ∨ (bitSet m.status 2 = true ∧ s.bt.record.prevValid = false) then (s, stNotFound, 0)
  else
    let c := targetCompat s mask
    let s := prepare s mask
    (modRecord (modBt s (fun b => { b with told := false })) (fun r => { r with
      fabPrepared := true
      fabId := m.id
      commitAt := m.at_ }), stOk, c)

/-- The outcome reported at a member (event 0x000B). -/
def fabOutcome (s : State) (id verdict failing : Nat) : State :=
  btEvent s 11 (if failing = 0 then 0xFFFF else failing) (leBytes 4 id ++ leBytes 1 verdict ++ leBytes 1 failing)

/-- COMMIT at a prepared member: it activates, and restarts at once where commit_at has passed. -/
def memberCommit (s : State) (id : Nat) : State :=
  if s.bt.record.fabPrepared && s.bt.record.fabId == id then
    let s := fabOutcome (activate s false) id 1 0
    let s := modBt s (fun b => { b with told := true })
    if s.bt.record.commitAt ≤ dtNow s then restartFor s 1 0 else s
  else s

/-- ABORT at a prepared member: it returns to STABLE. -/
def memberAbort (s : State) (id failing : Nat) : State :=
  if s.bt.record.fabPrepared && s.bt.record.fabId == id then
    fabOutcome (modRecord s (fun r => { r with
      state := 0
      fabPrepared := false })) id 2 failing
  else s

/-- The commit at its initiator changed. -/
def modFab (s : State) (f : FabCommit → Option FabCommit) : State := modBt s (fun b => { b with fab := b.fab.bind f })

/-- An acknowledgement noted; the last one ends the commit. -/
def fabAcked (s : State) (d : Nat) : State :=
  let s := modFab s (fun f => some { f with acked := d :: f.acked })
  match s.bt.fab with
  | some f =>
    if f.decided && (membersOf s.bt.record.fabMembers).all (fun m => f.acked.contains m) then
      modRecord (modBt s (fun b => { b with fab := none })) (fun r => { r with fabDecision := 0 })
    else s
  | none => s

/-- The decision written and told to every member; the initiator's own part comes last (R467). -/
def fabDecide (s : State) (commit : Bool) (failing : Nat) : State :=
  let id := s.bt.record.fabId
  let verdict := if commit then 1 else 2
  let s := modRecord s (fun r => { r with fabDecision := verdict })
  let s := modFab s (fun f => some { f with
    decided := true
    failing := failing })
  let members := membersOf s.bt.record.fabMembers
  let own := ownId s
  let s := (members.filter (fun d => d != own)).foldl (fun s d =>
    fabTell s d ⟨if commit then 3 else 4, stOk, 0, id, s.bt.record.commitAt⟩) s
  if members.contains own then
    let s := fabAcked s own
    if commit then memberCommit s id else memberAbort s id failing
  else s

/-- The compat major versions of the devices present outside the member mask. -/
def outsideMajors (s : State) : List Nat :=
  ((present s).filter (fun r => !bitSet s.bt.record.fabMembers r.hello.id)).map (fun r => r.hello.compat / 256)

/-- PREPARED at the initiator: a failure aborts; the last member decides. -/
def fabPreparedBy (s : State) (d st compat : Nat) : State :=
  match s.bt.fab with
  | some f =>
    if f.decided ∨ bitSet s.bt.record.fabMembers d = false then s
    else if st ≠ stOk then fabDecide s false d
    else
      let s := modFab s (fun f => some { f with prepared := Tab.put f.prepared d compat })
      let ready := (s.bt.fab.map (fun f => f.prepared)).getD []
      if (membersOf s.bt.record.fabMembers).all (fun m => (Tab.find ready m).isSome) then
        let bad := ready.find? (fun x => (outsideMajors s).any (fun v => v != x.2 / 256))
        match bad with
        | some x => fabDecide s false x.1
        | none => fabDecide s true 0
      else s
  | none => s

/-- UPD_FAB_BEGIN: this device becomes the initiator. -/
def opFabBegin (p : Bytes) (s : State) : CmdAnswer :=
  let members := leAt p 0 8
  let at_ := leAt p 8 8
  let target := byteAt p 16
  let mask := byteAt p 17
  let own := ownId s
  let absent := (membersOf members).any (fun d => d == 0 || (d != own && !(present s).any (fun r => r.hello.id == d)))
  if p.length ≠ 20 then fail s stBadLength
  else if (s.bt.fab.map (fun f => !f.decided)).getD false then fail s stBusy
  else if 1 < target ∨ mask = 0 ∨ 3 < mask ∨ leAt p 18 2 ≠ 0 ∨ members = 0 ∨ absent = true ∨ at_ < dtNow s + 100 * ms then
    fail s stBadParam
  else
    let id := own + 256 * ((s.bt.record.fabId / 256 + 1) % 2 ^ 24)
    let s := modRecord s (fun r => { r with
      fabDecision := 0
      fabMembers := members
      fabId := if r.fabPrepared then r.fabId else id
      commitAt := if r.fabPrepared then r.commitAt else at_ })
    let s := modBt s (fun b => { b with fab := some ⟨s.now, none, [], 0, [], false⟩ })
    let m : FabMsg := ⟨1, mask + 4 * target, 0, id, at_⟩
    let s := ((membersOf members).filter (fun d => d != own)).foldl (fun s d => fabTell s d m) s
    let s := if bitSet members own then
        let (s, st, c) := memberPrepare s m
        fabPreparedBy s own st c
      else s
    okay s (leBytes 4 id)

/-- UPD_FAB_MSG from device `d` (R467). -/
def fabMessage (d : Nat) (m : FabMsg) (s : State) : State :=
  match m.phase with
  | 1 =>
    let (s, st, c) := memberPrepare s m
    fabTell s d ⟨2, st, c, m.id, m.at_⟩
  | 2 => if m.id = s.bt.record.fabId then fabPreparedBy s d m.status m.compat else s
  | 3 => memberCommit (fabTell s d ⟨6, stOk, 0, m.id, m.at_⟩) m.id
  | 4 => memberAbort (fabTell s d ⟨6, stOk, 0, m.id, m.at_⟩) m.id 0
  | 5 =>
    if m.id = s.bt.record.fabId ∧ (s.bt.fab.map (fun f => !f.decided)).getD false = true then s
    else
      let commit := m.id = s.bt.record.fabId ∧ s.bt.record.fabDecision = 1
      fabTell s d ⟨if commit then 3 else 4, stOk, 0, m.id, s.bt.record.commitAt⟩
  | 6 => if m.id = s.bt.record.fabId then fabAcked s d else s
  | _ => s

/-- UPD_FAB_MSG: accepted from the fabric only. -/
def opFabMsg (c : Call) (p : Bytes) (s : State) : CmdAnswer :=
  match c.via with
  | .fabric d =>
    if p.length ≠ 16 then fail s stBadLength
    else
      let s := sendReply s 0x7011 c stOk []
      (fabMessage d (fabMsgOf p) s, none)
  | _ => fail s stDenied

/-- FAB_COMMIT_TIMEOUT: a member has not replied within BT_FAB_TO. -/
def fabTimeout (s : State) : State :=
  match s.bt.fab with
  | some f =>
    if !f.decided && decide (f.started + rd s Reg.BT_FAB_TO.ms * ms ≤ s.now) then
      fabDecide s false (((membersOf s.bt.record.fabMembers).find? (fun m => (Tab.find f.prepared m).isNone)).getD 0)
    else s
  | none => s

/-- FAB_QUERY_TIMER: a prepared member that has not been told asks every 1 s while a route exists. -/
def fabQuery (s : State) : State :=
  let d := fabInitiator s.bt.record.fabId
  if s.bt.record.fabPrepared && !s.bt.told && reachable s d && decide (s.bt.lastQuery + sec ≤ s.now) then
    fabTell (modBt s (fun b => { b with lastQuery := s.now })) d ⟨5, stOk, 0, s.bt.record.fabId, s.bt.record.commitAt⟩
  else s

/-- COMMIT_AT_RESTART: a member told COMMIT restarts at commit_at. -/
def commitRestart (s : State) : State :=
  if s.bt.told && s.bt.record.state == 2 && decide (s.bt.record.commitAt ≤ dtNow s) then
    restartFor (modBt s (fun b => { b with told := false })) 1 0
  else s

/-! ### The rows -/

/-- SLOT_ERASE_COMPLETE (R460). -/
def execSlotEraseComplete (t : Nat) (slot : Fin 4) (offset : Nat) (s : State) : Host.Outcome State Fault Refusal :=
  powered t s <|
  done (slotErased slot offset (arrive t s))

/-- UPD_OPEN (R459). -/
def execUpdOpen (t : Nat) (c : Call) (p : Bytes) (s : State) : Host.Outcome State Fault Refusal :=
  commandRow t 0x7001 c p s (fun s => answer 0x7001 c (opUpdOpen c p s))

/-- UPD_WRITE (R460). -/
def execUpdWrite (t : Nat) (c : Call) (p : Bytes) (s : State) : Host.Outcome State Fault Refusal :=
  commandRow t 0x7002 c p s (fun s => answer 0x7002 c (opUpdWrite p s))

/-- UPD_CLOSE (R461). -/
def execUpdClose (t : Nat) (c : Call) (p : Bytes) (s : State) : Host.Outcome State Fault Refusal :=
  commandRow t 0x7003 c p s (fun s => answer 0x7003 c (opUpdClose p s))

/-- UPD_PREPARE (R463). -/
def execUpdPrepare (t : Nat) (c : Call) (p : Bytes) (s : State) : Host.Outcome State Fault Refusal :=
  commandRow t 0x7004 c p s (fun s => answer 0x7004 c (opUpdPrepare p s))

/-- UPD_ACTIVATE (R464). -/
def execUpdActivate (t : Nat) (c : Call) (p : Bytes) (s : State) : Host.Outcome State Fault Refusal :=
  commandRow t 0x7005 c p s (fun s => ownAnswer 0x7005 c (opUpdActivate c p s))

/-- UPD_ABORT (R463). -/
def execUpdAbort (t : Nat) (c : Call) (p : Bytes) (s : State) : Host.Outcome State Fault Refusal :=
  commandRow t 0x7006 c p s (fun s => answer 0x7006 c (opUpdAbort p s))

/-- UPD_CONFIRM (R465). -/
def execUpdConfirm (t : Nat) (c : Call) (p : Bytes) (s : State) : Host.Outcome State Fault Refusal :=
  commandRow t 0x7007 c p s (fun s => answer 0x7007 c (opUpdConfirm p s))

/-- UPD_REVERT (R465). -/
def execUpdRevert (t : Nat) (c : Call) (p : Bytes) (s : State) : Host.Outcome State Fault Refusal :=
  commandRow t 0x7008 c p s (fun s => ownAnswer 0x7008 c (opUpdRevert c p s))

/-- UPD_STATUS (R472). -/
def execUpdStatus (t : Nat) (c : Call) (p : Bytes) (s : State) : Host.Outcome State Fault Refusal :=
  commandRow t 0x7009 c p s (fun s => answer 0x7009 c (opUpdStatus p s))

/-- UPD_FAB_BEGIN (R467). -/
def execUpdFabBegin (t : Nat) (c : Call) (p : Bytes) (s : State) : Host.Outcome State Fault Refusal :=
  commandRow t 0x7010 c p s (fun s => answer 0x7010 c (opFabBegin p s))

/-- UPD_FAB_MSG (R467). -/
def execUpdFabMsg (t : Nat) (c : Call) (p : Bytes) (s : State) : Host.Outcome State Fault Refusal :=
  commandRow t 0x7011 c p s (fun s => ownAnswer 0x7011 c (opFabMsg c p s))

/-- FAB_COMMIT_TIMEOUT (R467). -/
def execFabCommitTimeout (t : Nat) (s : State) : Host.Outcome State Fault Refusal :=
  powered t s <|
  done (fabTimeout (arrive t s))

/-- FAB_QUERY_TIMER (R467). -/
def execFabQueryTimer (t : Nat) (s : State) : Host.Outcome State Fault Refusal :=
  powered t s <|
  done (fabQuery (arrive t s))

/-- COMMIT_AT_RESTART (R467). -/
def execCommitAtRestart (t : Nat) (s : State) : Host.Outcome State Fault Refusal :=
  powered t s <|
  done (commitRestart (arrive t s))

/-- BT_ALT_CLEAR (R453). -/
def execBtAltClear (t : Nat) (c : Call) (p : Bytes) (s : State) : Host.Outcome State Fault Refusal :=
  commandRow t 0x7020 c p s (fun s => answer 0x7020 c (opAltClear p s))

/-- BT_ALT_WRITE (R453). -/
def execBtAltWrite (t : Nat) (data : BitVec 32) (s : State) : Host.Outcome State Fault Refusal :=
  powered t s <|
  done (clearAlternatives (data.toNat &&& 0x3FFE) (arrive t s))

end Sys2Proof.Machine
end

