-- ==== Sys2Proof/Machine/Lifecycle.lean ====
section
/-! DEFINITION. The lifecycle (R474–R477), debug sessions and unlock (R483–R485), alarms (R487–R489) and the lifecycle commands
(R491). -/

namespace Sys2Proof.Machine

/-- An LC event (Table 19.9): raised, or held for delivery while the core die cannot report it. -/
def lcEvent (s : State) (code : Nat) (data : Bytes) : State :=
  if coreOn s then raiseIn s Reg.LC_INT_STATUS.event 0 17 code 0xFFFF data else holdEvent s 17 code 0xFFFF data

/-- The lifecycle code in force. -/
def lifecycle (s : State) : Nat := rd s Reg.LC_STATUS.state

/-- The lifecycle and debug state changed by `f`. -/
def modLc (s : State) (f : LcState → LcState) : State := { s with lc := f s.lc }

/-! ### Control processors (R481) -/

/-- Control processor `p`: 0 CP0, 1 CP1, 2 the SP. -/
def cpAt (s : State) (p : Nat) : CpDebug := Tab.get s.lc.cps p ⟨false, 0, 0, 0, 0, [], []⟩

/-- Control processor `p` changed. -/
def modCp (s : State) (p : Nat) (f : CpDebug → CpDebug) : State :=
  modLc s (fun l => { l with cps := Tab.put l.cps p (f (Tab.get l.cps p ⟨false, 0, 0, 0, 0, [], []⟩)) })

/-- A processor halted for `cause`; where its program counter stands is a free value. -/
def cpHalt (p cause : Nat) (s : State) : State :=
  let s := if anyHalted s then s else modLc s (fun l => { l with haltedAt := s.now })
  modCp (drawn s) p (fun c => { c with halted := true, cause := cause, bp := 0, pc := freeIn s 0 0xFFFFFFFF })

/-- A processor that runs again; what its memory holds from then on is not known. The budget of a start step that hangs has
paused while a processor was halted (R481). -/
def cpResume (p : Nat) (s : State) : State :=
  let was := anyHalted s
  let s := modCp s p (fun c => { c with halted := false, words := [] })
  if was && !anyHalted s then
    modBt s (fun b => { b with hung := b.hung.map (fun h => (h.1, h.2 + (s.now - s.lc.haltedAt))) })
  else s

/-! ### Sessions (R484, R485) -/

/-- Whether a session is in progress. -/
def inSession (s : State) : Bool := lifecycle s == 3

/-- The session ends: halted processors and engines resume, breakpoints are cleared, FIELD with level none (R485). -/
def endSession (cause : Nat) (s : State) : State :=
  if inSession s then
    let s := (List.range 3).foldl (fun s p => cpResume p s) s
    let s := modLc s (fun l => { l with cps := Tab.mapAll (fun _ c => { c with bps := [] }) l.cps })
    let s := (List.range 24).foldl (fun s e => resumeEngine e s) s
    let s := modPe s (fun q => { q with engines := Tab.mapAll (fun _ g => { g with bps := [0, 0, 0, 0] }) q.engines })
    let s := wr (wr s Reg.LC_STATUS.state 2) Reg.LC_STATUS.level 0
    lcEvent (modLc s (fun l => { l with sessionEnd := 0, asked := 0 })) 3 (leBytes 1 cause)
  else s

/-- The key slots of the classes `gone` tells erased; a request that runs keeps its generation to its end (R321). -/
def eraseSlots (gone : Nat → Bool) (s : State) : State :=
  (Tab.keys s.cx.slots).foldl (fun s n =>
    let k := keySlot s n
    if gone k.cls && k.state != 0 then setKeySlot s n ⟨0, 0, 0, k.gen, 2, [], supersede s n⟩ else s) s

/-- The 32 bytes of a challenge with this nonce (R483). -/
def challengeBytes (s : State) (nonce : Bytes) : Bytes :=
  leBytes 12 (ownUid s) ++ nonce ++ leBytes 1 (lifecycle s) ++ zeros 3

/-- A capture of UNLOCK_CHAL: a new challenge replaces the one before; all zeros while the lockout runs. -/
def newChallenge (s : State) : Bytes × State :=
  if s.now < s.lc.lockoutEnd then (zeros 32, s)
  else
    let n := freeBytes s 16
    (challengeBytes s n, modLc (drawn s) (fun l => { l with chal := some (n, s.now) }))

/-- Whether an unlock response is granted: its challenge stands, its fields are in range, its key serves and its signature
verifies (R483, Table 19.4b). -/
def responseOk (s : State) (r : Bytes) : Bool :=
  let key := byteAt r 0
  let level := byteAt r 1
  let minutes := leAt r 2 2
  match s.lc.chal with
  | none => false
  | some (n, at_) =>
    r.length == 112 && decide (s.now ≤ at_ + 60 * sec) && (level == 1 || level == 2) && decide (1 ≤ minutes) &&
      decide (minutes ≤ 1440) && zeroAt r 4 12 && keyServes s key 2 &&
      signatureOk s key ([0x44#8, 0x42#8, 0x55#8, 0x4C#8] ++ challengeBytes s n ++ r.take 16) (sliceBytes r 16 96)

/-- A response to the challenge (R484): FIELD_DEBUG, or a failure with its lockout. The challenge is used up. -/
def unlock (r : Bytes) (s : State) : State :=
  let ok := responseOk s r
  let s := modLc s (fun l => { l with chal := none })
  if ok then
    let s := eraseSlots (fun c => c == 2) s
    let s := wr (wr s Reg.LC_STATUS.state 3) Reg.LC_STATUS.level (byteAt r 1)
    let s := modLc (wr s Reg.LC_STATUS.unlock_fails 0) (fun l => { l with
      sessionEnd := s.now + leAt r 2 2 * 60 * sec
      asked := byteAt r 1 })
    lcEvent s 2 (leBytes 1 (byteAt r 1) ++ leBytes 1 (byteAt r 0) ++ leBytes 2 (leAt r 2 2))
  else
    let s := bump s Reg.LC_STATUS.unlock_fails
    let f := rd s Reg.LC_STATUS.unlock_fails
    let s := modLc s (fun l => { l with lockoutEnd := s.now + lockoutSeconds f * sec })
    signatureFailed (lcEvent s 5 (leBytes 1 f ++ leBytes 4 (lockoutSeconds f))) (byteAt r 0) 2

/-- A debug session ended at its time (R485). -/
def sessionExpired (s : State) : State := if inSession s && decide (s.lc.sessionEnd ≤ s.now) then endSession 0 s else s

/-- DEBUG_SESSION_EXPIRED (R485). -/
def execDebugSessionExpired (t : Nat) (s : State) : Host.Outcome State Fault Refusal :=
  powered t s <|
  done (sessionExpired (arrive t s))

/-! ### Alarms (R487–R489) -/

/-- Whether an alarm erases keys in this lifecycle state, and whether it latches tamper (Table 19.8). -/
def alarmErases (lc : Nat) : Bool := decide (1 ≤ lc) && decide (lc ≤ 4)
def alarmTampers (lc kind : Nat) : Bool := decide (3 ≤ kind) && decide (1 ≤ lc) && decide (lc ≤ 3)

/-- Alarm `kind` while the core die has power (R488). -/
def alarmNow (kind : Nat) (s : State) : State :=
  let lc := lifecycle s
  let s := setBitF (lifeCount s Life.alarms kind) Reg.LC_ALARM.latched kind
  let s := if alarmErases lc then eraseAll s kind else s
  let s := endSession 3 s
  let s := if alarmTampers lc kind then wr s Reg.LC_STATUS.tamper 1 else s
  let s := lcEvent s 4 (leBytes 1 kind ++ leBytes 1 (b2n (alarmErases lc)) ++ leBytes 1 (b2n (alarmTampers lc kind)))
  let s := checkpoint s 5
  if kind < 2 then modLc s (fun l => { l with resetAt := some (s.now + ms) }) else s

/-- The package mesh found open or shorted in Standby: the latch, the checkpoint (R64, R488), and the event after the return (R489). -/
def meshInStandby (s : State) : State :=
  let tampered := alarmTampers (lifecycle s) 4
  let s := lifeCount s Life.alarms 4
  let s := if tampered then wr s Reg.LC_STATUS.tamper 1 else s
  checkpoint (holdEvent s 17 4 0xFFFF (leBytes 1 4 ++ leBytes 1 (b2n (alarmErases (lifecycle s))) ++ leBytes 1 (b2n tampered))) 5

/-- An alarm detector's output (R487): below Doze only the package mesh is watched, in Standby. -/
def alarmOp (kind : Nat) (present : Bool) (s : State) : State :=
  let st := powerState s
  if s.bt.vbatLow || st == 4 || (st == 3 && kind != 4) then s
  else if st = 3 then if present then meshInStandby s else s
  else
    let was := bitSet (rd s Reg.LC_ALARM.active) kind
    let s := if present then setBitF s Reg.LC_ALARM.active kind else clrBitF s Reg.LC_ALARM.active kind
    if present && !was then alarmNow kind s else s

/-- ALARM (R488). -/
def execAlarm (t : Nat) (kind : Fin 5) (present : Bool) (s : State) : Host.Outcome State Fault Refusal :=
  done (alarmOp kind.val present (arrive t s))

/-- The reset that a voltage or clock alarm brings about (R488). -/
def alarmReset (s : State) : State :=
  match s.lc.resetAt with
  | some d => if d ≤ s.now then coreStops (modLc s (fun l => { l with resetAt := none })) 4 else s
  | none => s

/-- ALARM_RESET (R488). -/
def execAlarmReset (t : Nat) (s : State) : Host.Outcome State Fault Refusal := done (alarmReset (arrive t s))

/-! ### Lifecycle commands (R475, R491) -/

/-- The transition to `new` done and reported: event 0x0001 follows the reply. -/
def advanced (op : Nat) (c : Call) (old new : Nat) (s : State) : CmdAnswer :=
  (lcEvent (sendReply (wr s Reg.LC_STATUS.state new) op c stOk []) 1 (leBytes 1 old ++ leBytes 1 new), none)

/-- Whether a verification key is ACTIVE with the firmware-image purpose, key `but` aside. -/
def imageKeyBut (s : State) (but : Nat) : Bool := (List.range 8).any (fun k => k != but && keyServes s k 0)

/-- LC_ADVANCE. -/
def opLcAdvance (c : Call) (p : Bytes) (s : State) : CmdAnswer :=
  let new := byteAt p 0
  if p.length ≠ 4 then fail s stBadLength
  else if !((lifecycle s == 0 && new == 1) || (lifecycle s == 1 && new == 2)) then fail s stDenied
  else if !s.lc.secret || !imageKeyBut s 8 then fail s stDenied
  else if new = 2 ∧ s.bt.record.state ≠ 0 then fail s stBusy
  else advanced 0x4051 c (lifecycle s) new (if new = 2 then wr s Reg.LC_STATUS.level 0 else s)

/-- The effects of RETURNED (Table 19.2). -/
def returnEffects (s : State) : State :=
  let s := eraseSlots (fun c => c == 1 || c == 2) s
  modLc { s with cx := { s.cx with
    stored := []
    secPdus := Tab.mapAll (fun _ (e : SecPdu) => { e with recorded := 0 }) s.cx.secPdus } } (fun l => { l with returned := true })

/-- LC_RETURN. -/
def opLcReturn (c : Call) (p : Bytes) (s : State) : CmdAnswer :=
  if p.length ≠ 0 then fail s stBadLength
  else if lifecycle s ≠ 2 ∧ lifecycle s ≠ 3 then fail s stDenied
  else advanced 0x4052 c (lifecycle s) 4 (returnEffects s)

/-- LC_SCRAP: every slot erased, ROOT never derived again; a SCRAPPED device refuses level full. -/
def opLcScrap (c : Call) (p : Bytes) (s : State) : CmdAnswer :=
  if p.length ≠ 0 then fail s stBadLength
  else if lifecycle s = 5 then fail s stDenied
  else
    let old := lifecycle s
    let s := eraseSlots (fun _ => true) (returnEffects s)
    let s := modLc s (fun l => { l with blown := true })
    advanced 0x4053 c old 5 (wr s Reg.LC_STATUS.level (min 1 (rd s Reg.LC_STATUS.level)))

/-- LC_RELOCK. -/
def opLcRelock (p : Bytes) (s : State) : CmdAnswer :=
  if p.length ≠ 0 then fail s stBadLength
  else if !inSession s then fail s stNotFound
  else okay (endSession 1 s) []

/-- LC_INFO. -/
def opLcInfo (p : Bytes) (s : State) : CmdAnswer :=
  if p.length ≠ 0 then fail s stBadLength
  else
    let left := if inSession s then ceilDiv (s.lc.sessionEnd - s.now) sec else 0
    let count := fun (k : Nat) => min 255 (Tab.get s.lr.counts (Life.alarms + 4 * k) 0)
    okay s (leBytes 1 (lifecycle s) ++ leBytes 1 (rd s Reg.LC_STATUS.level) ++ leBytes 1 (rd s Reg.LC_STATUS.tamper) ++
      leBytes 1 (rd s Reg.LC_STATUS.unlock_fails) ++ leBytes 4 left ++ ((List.range 5).map (fun k => leBytes 1 (count k))).flatten ++
      zeros 3)

/-- The prime of curve 0 (P-256) or 1 (P-384), and its coefficient b (FIPS 186-5; PRESUMED, assumption 44). -/
def curvePrime (curve : Nat) : Nat :=
  if curve = 0 then 2 ^ 256 - 2 ^ 224 + 2 ^ 192 + 2 ^ 96 - 1 else 2 ^ 384 - 2 ^ 128 - 2 ^ 96 + 2 ^ 32 - 1
def curveB (curve : Nat) : Nat :=
  if curve = 0 then 0x5AC635D8AA3A93E7B3EBBD55769886BC651D06B0CC53B0F63BCE3C3E27D2604B
  else 0xB3312FA7E23EE7E4988E056BE3F82D19181D9C6EFE8141120314088F5013875AC656398D8A2ED19D2A85C8EDD3EC2AEF

/-- Whether bytes are an uncompressed point of the curve (R339): y² = x³ − 3x + b. -/
def pointOk (curve : Nat) (pt : Bytes) : Bool :=
  let n := if curve = 0 then 32 else 48
  let x := beAt pt 1 n
  let y := beAt pt (1 + n) n
  let q := curvePrime curve
  byteAt pt 0 == 4 && decide (x < q) && decide (y < q) && y * y % q == (x * x * x + (q - 3) * x + curveB curve) % q

/-- LC_VKEY_WRITE; a revoked key stays revoked (R339). -/
def opVkeyWrite (p : Bytes) (s : State) : CmdAnswer :=
  let k := byteAt p 0
  let curve := byteAt p 1
  let purpose := byteAt p 2
  let point := sliceBytes p 7 (if curve = 0 then 65 else 97)
  if p.length ≠ 104 then fail s stBadLength
  else if 7 < k || sealed s || (verifKey s k).state == 2 then fail s stDenied
  else if 1 < curve || !pointOk curve point then fail s stIntegrity
  else okay { s with cx := { s.cx with verifKeys := Tab.put s.cx.verifKeys k ⟨curve, purpose % 8, 1, point⟩ } } []

/-- LC_VKEY_REVOKE. -/
def opVkeyRevoke (p : Bytes) (s : State) : CmdAnswer :=
  let k := byteAt p 0
  if p.length ≠ 4 then fail s stBadLength
  else if 7 < k || !imageKeyBut s k then fail s stDenied
  else okay { s with cx := { s.cx with verifKeys := Tab.put s.cx.verifKeys k { verifKey s k with state := 2 } } } []

/-- LC_TAMPER_CLEAR (R489). -/
def opTamperClear (p : Bytes) (s : State) : CmdAnswer :=
  if p.length ≠ 0 then fail s stBadLength
  else if !rdB s Reg.LC_STATUS.tamper then fail s stNotFound
  else okay (lcEvent (wr s Reg.LC_STATUS.tamper 0) 6 []) []

/-! ### The rows -/

/-- LC_INFO (R491). -/
def execLcInfo (t : Nat) (c : Call) (p : Bytes) (s : State) : Host.Outcome State Fault Refusal :=
  commandRow t 0x4050 c p s (fun s => answer 0x4050 c (opLcInfo p s))

/-- LC_ADVANCE (R475). -/
def execLcAdvance (t : Nat) (c : Call) (p : Bytes) (s : State) : Host.Outcome State Fault Refusal :=
  commandRow t 0x4051 c p s (fun s => ownAnswer 0x4051 c (opLcAdvance c p s))

/-- LC_RETURN (R475). -/
def execLcReturn (t : Nat) (c : Call) (p : Bytes) (s : State) : Host.Outcome State Fault Refusal :=
  commandRow t 0x4052 c p s (fun s => ownAnswer 0x4052 c (opLcReturn c p s))

/-- LC_SCRAP (R475). -/
def execLcScrap (t : Nat) (c : Call) (p : Bytes) (s : State) : Host.Outcome State Fault Refusal :=
  commandRow t 0x4053 c p s (fun s => ownAnswer 0x4053 c (opLcScrap c p s))

/-- LC_RELOCK (R485). -/
def execLcRelock (t : Nat) (c : Call) (p : Bytes) (s : State) : Host.Outcome State Fault Refusal :=
  commandRow t 0x4054 c p s (fun s => answer 0x4054 c (opLcRelock p s))

/-- LC_VKEY_WRITE (R491). -/
def execLcVkeyWrite (t : Nat) (c : Call) (p : Bytes) (s : State) : Host.Outcome State Fault Refusal :=
  commandRow t 0x4055 c p s (fun s => answer 0x4055 c (opVkeyWrite p s))

/-- LC_VKEY_REVOKE (R491). -/
def execLcVkeyRevoke (t : Nat) (c : Call) (p : Bytes) (s : State) : Host.Outcome State Fault Refusal :=
  commandRow t 0x4056 c p s (fun s => answer 0x4056 c (opVkeyRevoke p s))

/-- LC_TAMPER_CLEAR (R489). -/
def execLcTamperClear (t : Nat) (c : Call) (p : Bytes) (s : State) : Host.Outcome State Fault Refusal :=
  commandRow t 0x4057 c p s (fun s => answer 0x4057 c (opTamperClear p s))

end Sys2Proof.Machine
end

