-- ==== Sys2Proof/Machine/Space.lean ====
section
/-! DEFINITION. The local address map (R380, R381, Table 15.2): what lies at an offset, and accesses to it from PCIe, from SPI
and from the ports that access in units of 4 or 8 bytes. -/

namespace Sys2Proof.Machine

/-- What lies at an offset. -/
inductive Area where
  | registers
  | debug
  | canMem
  | slots
  | byteArrays
  | unmapped
  deriving DecidableEq, Repr

/-- Table 15.2. -/
def areaOf (a : Nat) : Area :=
  if a < 0x160000 then .registers
  else if 0x300000 ≤ a ∧ a < 0x400000 then .debug
  else if 0x2000000 ≤ a ∧ a < 0x2400000 then .canMem
  else if 0x2800000 ≤ a ∧ a < 0x2A00000 then .slots
  else if 0x2A00000 ≤ a ∧ a < 0x2B00000 then .byteArrays
  else .unmapped

/-! ### Registers -/

/-- Whether an access to a register has the form R381 allows. -/
def regForm (a len : Nat) : Bool := (len == 4 || len == 8) && a % len == 0

/-- A register read of 4 or 8 bytes. -/
def regBytes (s : State) (a len : Nat) (speculative : Bool) : Bytes × State :=
  let r := if len = 4 then regRead s a speculative else regReadWide s a speculative
  (leBytes len r.1, r.2)

/-- A register write of 4 or 8 bytes. -/
def regStore (s : State) (a : Nat) (d : Bytes) : State :=
  if d.length = 8 then regWriteWide s a (leNat d) else regWrite s a (leAt d 0 4)

/-! ### Memory, one aligned access at a time -/

/-- A memory read of 1, 2, 4 or 8 bytes: unaligned it returns 0 in CAN message memory (R99); in the areas for which the spec
states no value the bytes are free. -/
def unitRead (s : State) (a len : Nat) : Bytes :=
  match areaOf a with
  | .canMem => if a % len = 0 then mmRead s ((a - 0x2000000) / 65536) (a % 65536) len else zeros len
  | .slots =>
    if a % len = 0 then sliceBytes (slotImage (slotOf s ((a - 0x2800000) / 32))) (a % 32) len else freeBytes s len
  | .byteArrays => if a % len = 0 then Memory.readBytes s.ba (a - 0x2A00000) len else freeBytes s len
  | _ => zeros len

/-- A memory write of 1, 2, 4 or 8 bytes; only CAN message memory takes it (R99, R129). -/
def unitWrite (s : State) (a : Nat) (d : Bytes) : State :=
  match areaOf a with
  | .canMem => hostMemWrite s ((a - 0x2000000) / 65536) (a % 65536) d
  | _ => s

/-- The widest naturally aligned access that begins at `a` and takes at most `n` bytes. -/
def alignedLen (a n : Nat) : Nat :=
  if a % 8 = 0 ∧ 8 ≤ n then 8 else if a % 4 = 0 ∧ 4 ≤ n then 4 else if a % 2 = 0 ∧ 2 ≤ n then 2 else 1

/-- `n` bytes of memory from `a`, read in ascending aligned accesses (R381). -/
def spanRead (s : State) : Nat → Nat → Nat → Bytes
  | 0, _, _ => []
  | fuel + 1, a, n =>
    if n = 0 then [] else unitRead s a (alignedLen a n) ++ spanRead s fuel (a + alignedLen a n) (n - alignedLen a n)

/-- Bytes stored from `a` in ascending aligned accesses. -/
def spanWrite : Nat → Nat → Bytes → State → State
  | 0, _, _, s => s
  | fuel + 1, a, d, s =>
    if d.isEmpty then s
    else spanWrite fuel (a + alignedLen a d.length) (d.drop (alignedLen a d.length)) (unitWrite s a (d.take (alignedLen a d.length)))

/-- The memory errors that a host read of `len` bytes at `a` meets in CAN message memory, each once, by word (R117); an
unaligned SPI or fabric read is none. -/
def hostMeets (errors : List MmErr) (a len : Nat) (s : State) : State :=
  let base := 0x2000000
  let met := errors.filter (fun e => decide (a < base + e.offset / 4 * 4 + 4) && decide (base + e.offset / 4 * 4 < a + len) &&
    decide (e.offset < 0x400000))
  met.foldl (fun s e => mmError (e.offset / 65536) 1 s { e with offset := e.offset % 65536 / 4 * 4 }) s

/-! ### Access from PCIe and SPI -/

/-- An access refused: HB_STAT_REFUSED and event 0x0006 with its reason: 0 width, 1 unmapped, 2 beyond a window; `inst` is the
window, or 0xFFFF (R380–R382). -/
def refuseAccess (s : State) (inst reason a : Nat) : State :=
  hbEventLimited (bump s Reg.HB_STAT_REFUSED.value) 6 inst 1 (fun _ => leBytes 1 reason ++ leBytes 4 a)

/-- The refusal of an access to `len` bytes at `a`, none where it is performed; the reason for debug space is free. -/
def refusal (s : State) (inst a len : Nat) : Option State :=
  match areaOf a with
  | .registers => if regForm a len then none else some (refuseAccess s inst 0 a)
  | .debug => some (refuseAccess (drawn s) inst (freeIn s 0 2) a)
  | .unmapped => some (refuseAccess s inst 1 a)
  | .canMem | .slots | .byteArrays =>
    if areaOf (a + len - 1) = .unmapped then some (refuseAccess s inst 1 (a + len - 1)) else none

/-- A read of `len` bytes at `a` by PCIe or SPI. -/
def localRead (s : State) (inst a len : Nat) (speculative : Bool) : Bytes × State :=
  match refusal s inst a len with
  | some s' => (if areaOf a = .registers ∨ areaOf a = .debug then zeros len else spanRead s len a len, s')
  | none => if areaOf a = .registers then regBytes s a len speculative else (spanRead s len a len, s)

/-- A write at `a` by PCIe or SPI. -/
def localWrite (s : State) (inst a : Nat) (d : Bytes) : State :=
  match refusal s inst a d.length with
  | some s' => if areaOf a = .registers ∨ areaOf a = .debug then s' else spanWrite d.length a d s'
  | none => if areaOf a = .registers then regStore s a d else spanWrite d.length a d s

/-! ### Access in units of 4 or 8 bytes: the fabric and the debug port -/

/-- Whether an access of `width` bytes with these byte enables may be performed at `a`: OK, DENIED for the space of the SP, LC
and debug, BAD_PARAM for an offset that is not mapped or a width not allowed there (R369). -/
def unitCheck (a width be : Nat) : Nat :=
  if areaOf a = .debug ∨ a / 0x10000 = 0x15 then stDenied
  else if width ≠ 4 ∧ width ≠ 8 then stBadParam
  else
    match areaOf a with
    | .registers => if a % width = 0 ∧ be = 2 ^ width - 1 then stOk else stBadParam
    | .debug | .unmapped => stBadParam
    | _ => stOk

/-- The bytes a read of `width` bytes shows; in memory those not enabled are free. -/
def enabledRead (s : State) (a width be : Nat) (speculative : Bool) : Bytes × State :=
  if areaOf a = .registers then regBytes s a width speculative
  else
    let v := if be % 2 ^ width = 2 ^ width - 1 then unitRead s a width else spanRead s width a width
    let x := freeBytes s width
    ((List.range width).map (fun k => if bitSet be k then v.getD k 0#8 else x.getD k 0#8), drawn s)

/-- The enabled bytes of a write; all of them in one access, a part of them in aligned accesses of its runs. -/
def enabledWrite (s : State) (a width be : Nat) (d : Bytes) : State :=
  if areaOf a = .registers then regStore s a d
  else if be % 2 ^ width = 2 ^ width - 1 then unitWrite s a d
  else
    (((List.range width).filter (fun k => bitSet be k && !(decide (0 < k) && bitSet be (k - 1)))).foldl (fun s k =>
      let n := ((List.range (width - k)).takeWhile (fun j => bitSet be (k + j))).length
      spanWrite width (a + k) (sliceBytes d k n) s) s)

end Sys2Proof.Machine
end

