-- ==== Sys2Proof/Machine/Debug.lean ====
section
/-! DEFINITION. The debug port (R478–R482): its TAP, debug levels (Tables 19.5 and 19.6), accesses to the address map, and the debug
registers of the control processors. -/

namespace Sys2Proof.Machine

/-- Whether the debug port is powered, clocked and out of reset: in Run and Idle (Table 19.6). -/
def tapOn (s : State) : Bool := decide (powerState s < 2) && s.bt.due.isNone && s.bt.holds == 0 && !s.bt.vbatLow

/-- A row of the debug port: while the TAP is gated or unpowered its balls are high-impedance and nothing is served. -/
def tap (t : Nat) (s : State) (f : State → State) : Host.Outcome State Fault Refusal :=
  let s := arrive t s
  done (if tapOn s then serveAll (f s) else s)

/-- TDO while `len` bits shift through the one-bit bypass register. -/
def bypassBits (bits len : Nat) : Nat := bits * 2 % 2 ^ len

/-- A scan under an instruction that behaves as BYPASS. -/
def bypassScan (bits len : Nat) (s : State) : State := emit s (.tdo (bypassBits bits len) len)

/-- The instruction register set; boundary scan drives pins under EXTEST alone. -/
def setIr (s : State) (ir : Nat) : State := modLc s (fun l => { l with ir := ir, driving := false })

/-! ### Control processor registers (Table 19.5b) -/

/-- The debug register page at an offset: the processor and the offset in its page. -/
def cpRegAt (a : Nat) : Option (Nat × Nat) :=
  if 0x300000 ≤ a ∧ a < 0x303000 then some ((a - 0x300000) / 0x1000, a % 0x1000) else none

/-- The word at the memory address of processor `p`, as far as it is known; otherwise a free value. No layout is given for key
slots in that window. -/
def cpWord (s : State) (p : Nat) : Nat := Tab.get (cpAt s p).words (cpAt s p).maddr (freeIn s 0 0xFFFFFFFF)

/-- CPDBG_MADDR advanced by 4. -/
def cpNext (p : Nat) (s : State) : State := modCp s p (fun c => { c with maddr := (c.maddr + 4) % 2 ^ 32 })

/-- A word noted as held at CPDBG_MADDR: it stays there while the processor is halted. -/
def cpNote (p v : Nat) (s : State) : State :=
  if (cpAt s p).halted then modCp s p (fun c => { c with words := Tab.put c.words c.maddr v }) else s

/-- A read of a debug register; `advance` tells that CPDBG_MDATA moves on. -/
def cpRead (p off : Nat) (advance : Bool) (s : State) : Nat × State :=
  let c := cpAt s p
  if off = 4 then (b2n c.halted + 2 * c.cause + 8 * c.bp, s)
  else if off = 8 then if c.halted then (c.pc, s) else (freeIn s 0 0xFFFFFFFF, drawn s)
  else if off = 0x10 then (c.maddr, s)
  else if off = 0x14 then
    let v := cpWord s p
    let s := cpNote p v (drawn s)
    (v, if advance then cpNext p s else s)
  else if 0x40 ≤ off ∧ off < 0x60 ∧ off % 4 = 0 then (Tab.get c.bps ((off - 0x40) / 4) 0, s)
  else (0, s)

/-- CPDBG_CTRL written. A step executes one instruction of a halted processor; what it leaves in memory and in the program
counter is free. -/
def cpControl (p w : Nat) (s : State) : State :=
  let s := if bitSet w 0 && !(cpAt s p).halted then cpHalt p 0 s else s
  let s := if bitSet w 1 then cpResume p s else s
  if bitSet w 2 && (cpAt s p).halted then cpHalt p 2 (cpResume p s) else s

/-- A write of a debug register. -/
def cpWrite (p off w : Nat) (s : State) : State :=
  if off = 0 then cpControl p w s
  else if off = 0x10 then modCp s p (fun c => { c with maddr := w })
  else if off = 0x14 then cpNext p (cpNote p w s)
  else if 0x40 ≤ off ∧ off < 0x60 ∧ off % 4 = 0 then
    modCp s p (fun c => { c with bps := Tab.put c.bps ((off - 0x40) / 4) (w &&& 0xFFFFFFFE) })
  else s

/-! ### Accesses (R479, R480) -/

/-- What the next capture of DBG_ACCESS shows: bits [3:0] with the state, the status, and the data read where there is some. -/
def dbgShow (s : State) (bits st : Nat) (data : Option Nat) : State :=
  modLc s (fun l => { l with dbgState := bits, dbgStatus := st, dbgData := data.getD l.dbgData })

/-- Whether the level does not allow an access: writes and clearing reads need full; debug space outside the pages of the control
processors is reached at no level; the SP is halted in BLANK alone (R480, R482). -/
def dbgDenied (s : State) (write : Bool) (a : Nat) (clr : Bool) (data : Nat) : Bool :=
  ((write || clr) && !debugLevel s 2) || (areaOf a == .debug && (cpRegAt a).isNone) ||
    (write && a == 0x302000 && bitSet data 0 && lifecycle s != 0)

/-- The bytes of a halted engine's window a read at `a` of debug space shows (R279): that of the engine PE_DBG_SEL names, from
an address the spec leaves open (assumption 102). -/
def engineWindowRead (s : State) (a width : Nat) : Option Bytes :=
  let g := engineAt s (dbgEngine s)
  let at_ := a - Config.engineWindow
  if areaOf a == .debug && (cpRegAt a).isNone && g.halted && decide (Config.engineWindow ≤ a) && decide (at_ + width ≤ 256)
  then some (sliceBytes g.window at_ width) else none

/-- One access performed: `low` is bits [3:2] of the scan. -/
def dbgPerform (write : Bool) (a width : Nat) (clr : Bool) (data : Nat) (s : State) : State :=
  let low := 4 * b2n (decide (width = 8)) + 8 * b2n clr
  let window := if write || (clr && !debugLevel s 2) then none else engineWindowRead s a width
  if window.isSome then dbgShow s (low + 2) stOk (window.map leNat)
  else if dbgDenied s write a clr data then dbgShow s (low + 3) stDenied none
  else
    match cpRegAt a with
    | some (p, off) =>
      if a % width ≠ 0 then dbgShow (refuseAccess s 0xFFFF 0 a) (low + 3) stBadParam none
      else if write then
        let s := cpWrite p off (data % 2 ^ 32) s
        dbgShow (if width = 8 then cpWrite p (off + 4) (data / 2 ^ 32 % 2 ^ 32) s else s) (low + 2) stOk none
      else
        let (v, s) := cpRead p off clr s
        let (h, s) := if width = 8 then cpRead p (off + 4) clr s else (0, s)
        dbgShow s (low + 2) stOk (some (v + 2 ^ 32 * h))
    | none =>
      match areaOf a with
      | .unmapped | .debug => dbgShow s (low + 3) stBadParam none
      | .registers =>
        if !regForm a width then dbgShow (refuseAccess s 0xFFFF 0 a) (low + 3) stBadParam none
        else if write then dbgShow (regStore s a (leBytes width data)) (low + 2) stOk none
        else
          let (v, s) := regBytes s a width (!clr)
          dbgShow s (low + 2) stOk (some (leNat v))
      | .canMem | .slots | .byteArrays =>
        if write then dbgShow (unitWrite s a (leBytes width data)) (low + 2) stOk none
        else dbgShow (drawn s) (low + 2) stOk (some (leNat (unitRead s a width)))

/-- An access begun: one to the register space waits while the bus is locked (R374). -/
def dbgAccess (write : Bool) (a width : Nat) (clr : Bool) (data : Nat) (s : State) : State :=
  if s.tf.lock.isSome && areaOf a == .registers then
    let s := dbgShow s (4 * b2n (decide (width = 8)) + 8 * b2n clr + 1) stOk none
    { s with tf := { s.tf with lockQueue := s.tf.lockQueue ++ [.debug write a width clr data] } }
  else dbgPerform write a width clr data s

/-- The 104 bits a capture of DBG_ACCESS shows. -/
def dbgCapture (s : State) : Nat := s.lc.dbgState + 2 ^ 8 * s.lc.dbgStatus + 2 ^ 40 * s.lc.dbgData

/-- One scan of DBG_ACCESS: the capture, then the access shifted in, discarded while one is busy. -/
def dbgScan (dr : Nat) (s : State) : State :=
  let op := bitsOf dr 0 2
  let s := emit s (.tdo (dbgCapture s) 104)
  if s.lc.dbgState % 4 = 1 then s
  else if op = 0 then modLc s (fun l => { l with dbgState := bitsOf dr 2 2 * 4 })
  else if op = 3 then dbgShow s (bitsOf dr 2 2 * 4 + 3) stBadParam none
  else dbgAccess (op == 2) (bitsOf dr 8 32) (if bitSet dr 2 then 8 else 4) (bitSet dr 3) (bitsOf dr 40 64) s

/-! ### Levels (R478, R486) -/

/-- Whether level `l` is granted without unlock (Table 19.5); in FIELD_DEBUG up to what the unlock asked for. -/
def levelAllowed (s : State) (l : Nat) : Bool :=
  if lifecycle s = 2 then l == 0
  else if lifecycle s = 3 then decide (l ≤ s.lc.asked)
  else if lifecycle s = 5 then decide (l ≤ 1)
  else decide (l ≤ 2)

/-- A level requested: a lower one is always granted; in FIELD_DEBUG none ends the session (R485). -/
def requestLevel (l : Nat) (s : State) : State :=
  if l = 0 ∧ inSession s then endSession 1 s
  else if l < 3 ∧ (l < rd s Reg.LC_STATUS.level ∨ levelAllowed s l) then wr s Reg.LC_STATUS.level l
  else s

/-! ### The rows -/

/-- The pins captured, then driven as shifted in; elsewhere it behaves as BYPASS. The length of the boundary scan register is not
stated: the 0 beside the bits shown stands for it. -/
def extestOp (pins bits : Nat) (s : State) : State :=
  let s := setIr s 0
  if debugLevel s 2 && (lifecycle s == 0 || lifecycle s == 1 || lifecycle s == 4) then
    modLc (emit s (.tdo pins 0)) (fun l => { l with bscan := bits, driving := true })
  else emit s (.tdo (bits * 2) 0)

/-- EXTEST (R478). -/
def execExtest (t : Nat) (pins bits : Nat) (s : State) : Host.Outcome State Fault Refusal := tap t s (extestOp pins bits)

/-- The pins captured, and the boundary scan register loaded. -/
def samplePreloadOp (pins bits : Nat) (s : State) : State :=
  modLc (emit (setIr s 1) (.tdo pins 0)) (fun l => { l with bscan := bits })

/-- SAMPLE_PRELOAD (R478). -/
def execSamplePreload (t : Nat) (pins bits : Nat) (s : State) : Host.Outcome State Fault Refusal :=
  tap t s (samplePreloadOp pins bits)

/-- The IDCODE shown. -/
def idcodeOp (s : State) : State := emit (setIr s 2) (.tdo 0x17264A3D 32)

/-- IDCODE (R478). -/
def execIdcode (t : Nat) (s : State) : Host.Outcome State Fault Refusal := tap t s idcodeOp

/-- A scan under BYPASS. -/
def bypassOp (bits len : Nat) (s : State) : State := bypassScan (bits % 2 ^ len) len (setIr s 0x1F)

/-- BYPASS (R478). -/
def execBypass (t : Nat) (bits len : Nat) (s : State) : Host.Outcome State Fault Refusal := tap t s (bypassOp bits len)

/-- TAP_RESET (R478): the TAP alone. -/
def execTapReset (t : Nat) (s : State) : Host.Outcome State Fault Refusal := tap t s (fun s => setIr s 2)

/-- A scan of DBG_ACCESS; at level none it behaves as BYPASS. -/
def dbgAccessOp (dr : Nat) (s : State) : State :=
  let s := setIr s 0x10
  if debugLevel s 1 then dbgScan dr (leaveIdle s) else bypassScan dr 104 s

/-- DBG_ACCESS (R479). -/
def execDbgAccess (t : Nat) (dr : BitVec 104) (s : State) : Host.Outcome State Fault Refusal := tap t s (dbgAccessOp dr.toNat)

/-- A scan of DBG_LEVEL: the level in force shown, then the one asked for. -/
def dbgLevelOp (dr : Nat) (s : State) : State :=
  let s := emit (setIr s 0x11) (.tdo (rd s Reg.LC_STATUS.level + 4 * lifecycle s) 8)
  requestLevel (bitsOf dr 0 2) (leaveIdle s)

/-- DBG_LEVEL (R478). -/
def execDbgLevel (t : Nat) (dr : BitVec 8) (s : State) : Host.Outcome State Fault Refusal := tap t s (dbgLevelOp dr.toNat)

/-- A capture of a challenge, in FIELD. -/
def unlockChalOp (s : State) : State :=
  let s := setIr s 0x12
  if lifecycle s = 2 then
    let (x, s) := newChallenge (leaveIdle s)
    emit s (.tdo (leNat x) 256)
  else bypassScan 0 256 s

/-- UNLOCK_CHAL (R483). -/
def execUnlockChal (t : Nat) (s : State) : Host.Outcome State Fault Refusal := tap t s unlockChalOp

/-- A response, in FIELD. -/
def unlockRespOp (r : Bytes) (s : State) : State :=
  let s := setIr s 0x13
  if lifecycle s = 2 then unlock r (leaveIdle s) else bypassScan (leNat r) 896 s

/-- UNLOCK_RESP (R484). -/
def execUnlockResp (t : Nat) (r : Bytes) (s : State) : Host.Outcome State Fault Refusal := tap t s (unlockRespOp r)

/-- An access by the debug port outside a scan, where a level is granted (R479). -/
def debugAccess (write : Bool) (a : Nat) (clr : Bool) (data : Nat) (s : State) : State :=
  if debugLevel s 1 then dbgAccess write a 4 clr data (leaveIdle s) else s

/-- CPDBG_HALT (R481). -/
def execCpdbgHalt (t : Nat) (p : Fin 3) (s : State) : Host.Outcome State Fault Refusal :=
  tap t s (debugAccess true (0x300000 + 0x1000 * p.val) false 1)

/-- CPDBG_RESUME (R481). -/
def execCpdbgResume (t : Nat) (p : Fin 3) (s : State) : Host.Outcome State Fault Refusal :=
  tap t s (debugAccess true (0x300000 + 0x1000 * p.val) false 2)

/-- CPDBG_STEP (R481). -/
def execCpdbgStep (t : Nat) (p : Fin 3) (s : State) : Host.Outcome State Fault Refusal :=
  tap t s (debugAccess true (0x300000 + 0x1000 * p.val) false 4)

/-- A word written through CPDBG_MDATA, or read: a read clears, which here advances the address, where the level is full (R480). -/
def mdataAccess (p : Nat) (write : Option (BitVec 32)) (s : State) : State :=
  match write with
  | some w => debugAccess true (0x300014 + 0x1000 * p) false w.toNat s
  | none => debugAccess false (0x300014 + 0x1000 * p) (debugLevel s 2) 0 s

/-- CPDBG_MDATA_ACCESS (R481). -/
def execCpdbgMdataAccess (t : Nat) (p : Fin 3) (write : Option (BitVec 32)) (s : State) : Host.Outcome State Fault Refusal :=
  tap t s (mdataAccess p.val write)

end Sys2Proof.Machine
end

