-- ==== Sys2Proof/Machine/Electrical.lean ====
section
/-! DEFINITION. Supply monitors, the reset of the wake die, and RESET_N (R499, R500). -/

namespace Sys2Proof.Machine

/-- The core die held in reset for `cause` (SYS_RESET_CAUSE): what ran stops, what was due or failed is superseded by the start
that follows the release. In Standby and Hibernate it has no power to lose. -/
def coreHeld (cause : Nat) (s : State) : State :=
  if 3 ≤ powerState s then s
  else
    let s := coreStops s cause
    let s := wr (lifeSettle s) Reg.WK_STATUS.state 0
    modWk (modBt s (fun b => { b with retryAt := none, hung := none })) (fun w => { w with entry := none, ret := none })

/-- What holds the core die in reset gains or loses bit `k`. -/
def holdBit (k : Nat) (on : Bool) (s : State) : State :=
  modBt (lifeSettle s) (fun b => { b with holds := if on then orBit b.holds k else clrBit b.holds k })

/-- A rail falls below, or rises past, its threshold (R499). -/
def supplyOp (rail : Nat) (below : Bool) (s : State) : State :=
  if !below then holdBit rail false s
  else if bitSet s.bt.holds rail then s
  else holdBit rail true (if s.bt.vbatLow then s else coreHeld 7 s)

/-- RESET_N low, or rising (R500). -/
def resetPinOp (low : Bool) (s : State) : State :=
  if !low then holdBit 3 false s
  else if bitSet s.bt.holds 3 then s
  else holdBit 3 true (if s.bt.vbatLow then s else coreHeld 1 s)

/-- VBAT below 3.5 V: the wake die's state is lost, the core die held in reset (R499). -/
def wakeDieLostOp (s : State) : State :=
  let s := if powerState s < 3 then sleevesUnpowered s else s
  let s := emit (lifeSettle s) (.reset 0)
  let s := { s with
    regs := Tab.keep (fun k _ => k / 32 / 0x10000 != 0x13) s.regs
    wk := WkState.reset
    dt := { s.dt with captured := none }
    lr := { s.lr with cleanSwitchOff := false, wakeDieLost := true } }
  modBt s (fun b => { b with
    vbatLow := true
    due := none
    retryAt := none
    hung := none
    digest := none
    record := { b.record with fails := Tab.keep (fun k _ => decide (4 < k)) b.record.fails } })

/-- WAKE_DIE_RESET: VBAT past 3.9 V again, the device restarts as from Off. -/
def vbatOp (below : Bool) (s : State) : State :=
  if below then (if s.bt.vbatLow then s else wakeDieLostOp s)
  else if s.bt.vbatLow then modBt (lifeSettle s) (fun b => { b with vbatLow := false, due := some 0 })
  else s

/-- SUPPLY_MONITOR_CROSSING (R499). -/
def execSupplyMonitorCrossing (t : Nat) (rail : Fin 3) (below : Bool) (s : State) : Host.Outcome State Fault Refusal :=
  done (supplyOp rail.val below (arrive t s))

/-- WAKE_DIE_RESET (R499). -/
def execWakeDieReset (t : Nat) (below : Bool) (s : State) : Host.Outcome State Fault Refusal := done (vbatOp below (arrive t s))

/-- RESET_N (R500). -/
def execResetN (t : Nat) (low : Bool) (s : State) : Host.Outcome State Fault Refusal := done (resetPinOp low (arrive t s))

end Sys2Proof.Machine
end

