-- ==== Sys2Proof/Machine/Instructions.lean ====
section
/-! DEFINITION. The instruction rows of the parse engines (R266): each runs its effect as the next instruction of an engine. -/

namespace Sys2Proof.Machine

/-- NOP: nothing. -/
def execNop (e : Fin 24) (mem : Fin 5) (s : State) : Host.Outcome State Fault Refusal :=
  runningNow s <|
  done (runInstr e mem noWord (Pe.nop) s)

/-- ADD: g[d] from g[a] and g[b]. -/
def execAdd (e : Fin 24) (mem : Fin 5) (d : Fin 16) (a : Fin 16) (b : Fin 16) (s : State) : Host.Outcome State Fault Refusal :=
  runningNow s <|
  done (runInstr e mem noWord (Pe.add d a b) s)

/-- SUB: g[d] from g[a] and g[b]. -/
def execSub (e : Fin 24) (mem : Fin 5) (d : Fin 16) (a : Fin 16) (b : Fin 16) (s : State) : Host.Outcome State Fault Refusal :=
  runningNow s <|
  done (runInstr e mem noWord (Pe.sub d a b) s)

/-- AND: g[d] from g[a] and g[b]. -/
def execAnd (e : Fin 24) (mem : Fin 5) (d : Fin 16) (a : Fin 16) (b : Fin 16) (s : State) : Host.Outcome State Fault Refusal :=
  runningNow s <|
  done (runInstr e mem noWord (Pe.and d a b) s)

/-- OR: g[d] from g[a] and g[b]. -/
def execOr (e : Fin 24) (mem : Fin 5) (d : Fin 16) (a : Fin 16) (b : Fin 16) (s : State) : Host.Outcome State Fault Refusal :=
  runningNow s <|
  done (runInstr e mem noWord (Pe.or d a b) s)

/-- XOR: g[d] from g[a] and g[b]. -/
def execXor (e : Fin 24) (mem : Fin 5) (d : Fin 16) (a : Fin 16) (b : Fin 16) (s : State) : Host.Outcome State Fault Refusal :=
  runningNow s <|
  done (runInstr e mem noWord (Pe.xor d a b) s)

/-- SHL: g[d] from g[a] and g[b]. -/
def execShl (e : Fin 24) (mem : Fin 5) (d : Fin 16) (a : Fin 16) (b : Fin 16) (s : State) : Host.Outcome State Fault Refusal :=
  runningNow s <|
  done (runInstr e mem noWord (Pe.shl d a b) s)

/-- SHR: g[d] from g[a] and g[b]. -/
def execShr (e : Fin 24) (mem : Fin 5) (d : Fin 16) (a : Fin 16) (b : Fin 16) (s : State) : Host.Outcome State Fault Refusal :=
  runningNow s <|
  done (runInstr e mem noWord (Pe.shr d a b) s)

/-- ADDI: g[d] from g[a] and an immediate. -/
def execAddi (e : Fin 24) (mem : Fin 5) (d : Fin 16) (a : Fin 16) (imm : BitVec 18) (s : State) : Host.Outcome State Fault Refusal :=
  runningNow s <|
  done (runInstr e mem noWord (Pe.addi d a imm.toNat) s)

/-- ANDI: g[d] from g[a] and an immediate. -/
def execAndi (e : Fin 24) (mem : Fin 5) (d : Fin 16) (a : Fin 16) (imm : BitVec 18) (s : State) : Host.Outcome State Fault Refusal :=
  runningNow s <|
  done (runInstr e mem noWord (Pe.andi d a imm.toNat) s)

/-- ORI: g[d] from g[a] and an immediate. -/
def execOri (e : Fin 24) (mem : Fin 5) (d : Fin 16) (a : Fin 16) (imm : BitVec 18) (s : State) : Host.Outcome State Fault Refusal :=
  runningNow s <|
  done (runInstr e mem noWord (Pe.ori d a imm.toNat) s)

/-- XORI: g[d] from g[a] and an immediate. -/
def execXori (e : Fin 24) (mem : Fin 5) (d : Fin 16) (a : Fin 16) (imm : BitVec 18) (s : State) : Host.Outcome State Fault Refusal :=
  runningNow s <|
  done (runInstr e mem noWord (Pe.xori d a imm.toNat) s)

/-- MOVI: g[d] is the immediate. -/
def execMovi (e : Fin 24) (mem : Fin 5) (d : Fin 16) (imm : BitVec 18) (s : State) : Host.Outcome State Fault Refusal :=
  runningNow s <|
  done (runInstr e mem noWord (Pe.movi d imm.toNat) s)

/-- MOVHI: the immediate above the low half of g[a]. -/
def execMovhi (e : Fin 24) (mem : Fin 5) (d : Fin 16) (a : Fin 16) (imm : BitVec 16) (s : State) : Host.Outcome State Fault Refusal :=
  runningNow s <|
  done (runInstr e mem noWord (Pe.movhi d a imm.toNat) s)

/-- SHLI: g[a] shifted by `pos`. -/
def execShli (e : Fin 24) (mem : Fin 5) (d : Fin 16) (a : Fin 16) (pos : Fin 32) (s : State) : Host.Outcome State Fault Refusal :=
  runningNow s <|
  done (runInstr e mem noWord (Pe.shli d a pos) s)

/-- SHRI: g[a] shifted by `pos`. -/
def execShri (e : Fin 24) (mem : Fin 5) (d : Fin 16) (a : Fin 16) (pos : Fin 32) (s : State) : Host.Outcome State Fault Refusal :=
  runningNow s <|
  done (runInstr e mem noWord (Pe.shri d a pos) s)

/-- EXT: a field of g[a]. -/
def execExt (e : Fin 24) (mem : Fin 5) (d : Fin 16) (a : Fin 16) (pos : Fin 32) (len1 : Fin 32) (s : State) : Host.Outcome State Fault Refusal :=
  runningNow s <|
  done (runInstr e mem noWord (Pe.ext d a pos (len1 + 1)) s)

/-- INS: a field of g[d] replaced. -/
def execIns (e : Fin 24) (mem : Fin 5) (d : Fin 16) (a : Fin 16) (pos : Fin 32) (len1 : Fin 32) (s : State) : Host.Outcome State Fault Refusal :=
  runningNow s <|
  done (runInstr e mem noWord (Pe.ins d a pos (len1 + 1)) s)

/-- LDW: bytes of the window (R261). -/
def execLdw (e : Fin 24) (mem : Fin 5) (d : Fin 16) (a : Fin 16) (size : Fin 3) (off : Fin 1024) (s : State) : Host.Outcome State Fault Refusal :=
  runningNow s <|
  done (runInstr e mem noWord (Pe.ldw d a size off) s)

/-- SETC: the cursor set. -/
def execSetc (e : Fin 24) (mem : Fin 5) (a : Fin 16) (off : Fin 1024) (s : State) : Host.Outcome State Fault Refusal :=
  runningNow s <|
  done (runInstr e mem noWord (Pe.setc a off) s)

/-- ADVC: the cursor advanced. -/
def execAdvc (e : Fin 24) (mem : Fin 5) (a : Fin 16) (off : Fin 1024) (s : State) : Host.Outcome State Fault Refusal :=
  runningNow s <|
  done (runInstr e mem noWord (Pe.advc a off) s)

/-- GETC: g[d] is the cursor. -/
def execGetc (e : Fin 24) (mem : Fin 5) (d : Fin 16) (s : State) : Host.Outcome State Fault Refusal :=
  runningNow s <|
  done (runInstr e mem noWord (Pe.getc d) s)

/-- LDM: g[d] is m[m]. -/
def execLdm (e : Fin 24) (mem : Fin 5) (d : Fin 16) (m : Fin 16) (s : State) : Host.Outcome State Fault Refusal :=
  runningNow s <|
  done (runInstr e mem noWord (Pe.ldm d m) s)

/-- EMIT: m[m] is g[a]. -/
def execEmit (e : Fin 24) (mem : Fin 5) (m : Fin 16) (a : Fin 16) (s : State) : Host.Outcome State Fault Refusal :=
  runningNow s <|
  done (runInstr e mem noWord (Pe.emit m a) s)

/-- EMITF: a field of m[m] replaced. -/
def execEmitf (e : Fin 24) (mem : Fin 5) (m : Fin 16) (a : Fin 16) (pos : Fin 32) (len1 : Fin 32) (s : State) : Host.Outcome State Fault Refusal :=
  runningNow s <|
  done (runInstr e mem noWord (Pe.emitf m a pos (len1 + 1)) s)

/-- LKT: a parse table word (R264). -/
def execLkt (e : Fin 24) (mem : Fin 5) (d : Fin 16) (a : Fin 16) (tbl : Fin 16) (s : State) : Host.Outcome State Fault Refusal :=
  runningNow s <|
  done (runInstr e mem (lktWord a tbl) (Pe.lkt d a tbl) s)

/-- BEQ: a branch on g[a] and g[b]. -/
def execBeq (e : Fin 24) (mem : Fin 5) (a : Fin 16) (b : Fin 16) (target : Fin 16384) (s : State) : Host.Outcome State Fault Refusal :=
  runningNow s <|
  done (runInstr e mem noWord (Pe.beq a b target) s)

/-- BNE: a branch on g[a] and g[b]. -/
def execBne (e : Fin 24) (mem : Fin 5) (a : Fin 16) (b : Fin 16) (target : Fin 16384) (s : State) : Host.Outcome State Fault Refusal :=
  runningNow s <|
  done (runInstr e mem noWord (Pe.bne a b target) s)

/-- BLTU: a branch on g[a] and g[b]. -/
def execBltu (e : Fin 24) (mem : Fin 5) (a : Fin 16) (b : Fin 16) (target : Fin 16384) (s : State) : Host.Outcome State Fault Refusal :=
  runningNow s <|
  done (runInstr e mem noWord (Pe.bltu a b target) s)

/-- BGEU: a branch on g[a] and g[b]. -/
def execBgeu (e : Fin 24) (mem : Fin 5) (a : Fin 16) (b : Fin 16) (target : Fin 16384) (s : State) : Host.Outcome State Fault Refusal :=
  runningNow s <|
  done (runInstr e mem noWord (Pe.bgeu a b target) s)

/-- BEQI: a branch on g[a] and an immediate. -/
def execBeqi (e : Fin 24) (mem : Fin 5) (a : Fin 16) (imm : Fin 256) (target : Fin 16384) (s : State) : Host.Outcome State Fault Refusal :=
  runningNow s <|
  done (runInstr e mem noWord (Pe.beqi a imm target) s)

/-- BNEI: a branch on g[a] and an immediate. -/
def execBnei (e : Fin 24) (mem : Fin 5) (a : Fin 16) (imm : Fin 256) (target : Fin 16384) (s : State) : Host.Outcome State Fault Refusal :=
  runningNow s <|
  done (runInstr e mem noWord (Pe.bnei a imm target) s)

/-- BBS: a branch on a bit of g[a]. -/
def execBbs (e : Fin 24) (mem : Fin 5) (a : Fin 16) (bit : Fin 32) (target : Fin 16384) (s : State) : Host.Outcome State Fault Refusal :=
  runningNow s <|
  done (runInstr e mem noWord (Pe.bbs a bit target) s)

/-- BBC: a branch on a bit of g[a]. -/
def execBbc (e : Fin 24) (mem : Fin 5) (a : Fin 16) (bit : Fin 32) (target : Fin 16384) (s : State) : Host.Outcome State Fault Refusal :=
  runningNow s <|
  done (runInstr e mem noWord (Pe.bbc a bit target) s)

/-- JMP: a branch always. -/
def execJmp (e : Fin 24) (mem : Fin 5) (target : Fin 16384) (s : State) : Host.Outcome State Fault Refusal :=
  runningNow s <|
  done (runInstr e mem noWord (Pe.jmp target) s)

/-- END: the pass ends with its result (R267). -/
def execEnd (e : Fin 24) (mem : Fin 5) (s : State) : Host.Outcome State Fault Refusal :=
  runningNow s <|
  done (runInstr e mem noWord (Pe.ended) s)

/-- DROP: the pass ends and its frame is discarded (R267). -/
def execDrop (e : Fin 24) (mem : Fin 5) (code : Fin 256) (s : State) : Host.Outcome State Fault Refusal :=
  runningNow s <|
  done (runInstr e mem noWord (Pe.drop code) s)

/-- RCIRC: the pass ends and its frame is sent round (R270). -/
def execRcirc (e : Fin 24) (mem : Fin 5) (a : Fin 16) (off : Fin 1024) (s : State) : Host.Outcome State Fault Refusal :=
  runningNow s <|
  done (runInstr e mem noWord (Pe.rcirc a off) s)

end Sys2Proof.Machine
end

