-- ==== Sys2Proof/Machine/Sweep.lean ====
section
/-! DEFINITION. STEP_APPLIED (R25, R26): the sweep of every stored origin as old as the epoch the step opens. -/

namespace Sys2Proof.Machine

/-- An origin marked unknown where it is of epoch `e`. -/
def Origin.swept (e : Nat) (o : Origin) : Origin := if o.epoch = e then { o with unknown := true } else o

/-- How many of the origins a sweep for epoch `e` marks. -/
def sweepCount (e : Nat) (os : List Origin) : Nat := (os.filter (fun o => o.epoch == e && !o.unknown)).length

/-- A slot's origin marked. -/
def Slot.swept (e : Nat) (x : Slot) : Slot := if x.written && x.epoch == e then { x with ageUnknown := true } else x

/-- Whether the sweep marks a slot. -/
def Slot.marks (e : Nat) (x : Slot) : Bool := x.written && x.epoch == e && !x.ageUnknown

/-- The origins of a gateway element marked. -/
def GwRec.swept (e : Nat) (g : GwRec) : GwRec :=
  { g with
    routes := g.routes.map (fun r => { r with origin := r.origin.swept e })
    copy := g.copy.map (fun x => (x.1.swept e, x.2)) }

/-- The origins a gateway element holds. -/
def GwRec.origins (g : GwRec) : List Origin :=
  g.routes.map (fun r => r.origin) ++ (match g.copy with
    | some x => [x.1]
    | none => [])

/-- The origins of an optional gateway record. -/
def gwOrigins (g : Option GwRec) : List Origin :=
  match g with
  | some g => g.origins
  | none => []

/-- The origin a host element of channel `n` stores itself (R115). -/
def hostOrigins (s : State) (n : Nat) (p : Pend) : List Origin :=
  if p.gw.isNone then [elemOrigin s n p.unknown (elemBytes s n p.idx)] else []

/-- Every origin outside the slots that a sweep reaches: transmit frames, open bundles (R25). -/
def storedOrigins (s : State) : List Origin :=
  s.can.flatMap (fun c => c.2.pends.flatMap (fun p => hostOrigins s c.1 p ++ gwOrigins p.gw)) ++
    s.sg.streamTx.flatMap (fun x => x.2.items.flatMap (fun i => i.origin :: gwOrigins i.gw))

/-- The origins a sweep for epoch `e` marks. -/
def sweepMarks (s : State) (e : Nat) : Nat :=
  sweepCount e (storedOrigins s) + (s.sg.slots.filter (fun x => x.2.marks e)).length +
    (s.sg.records.flatMap (fun x => x.2.filter (fun r => r.slot.marks e))).length

/-- Every stored origin of epoch `e` marked unknown (R26). -/
def sweepEpoch (s : State) (e : Nat) : State :=
  let s := { s with can := Tab.mapAll (fun n c => { c with
    pends := c.pends.map (fun p => { p with
      gw := p.gw.map (GwRec.swept e)
      unknown := p.unknown || (hostOrigins s n p).any (fun o => o.epoch == e) }) }) s.can }
  modSg s (fun g => { g with
    slots := Tab.mapAll (fun _ x => x.swept e) g.slots
    records := Tab.mapAll (fun _ l => l.map (fun (r : SigRec) => { r with slot := r.slot.swept e })) g.records
    streamTx := Tab.mapAll (fun _ (x : StreamTx) => { x with
      items := x.items.map (fun i => { i with
        origin := i.origin.swept e
        gw := i.gw.map (GwRec.swept e) }) }) g.streamTx })

/-- STEP_APPLIED: nothing where no step is pending. -/
def stepAppliedOp (s : State) : State :=
  match s.dt.pending with
  | none => s
  | some p => (List.range 12).foldl (fun s port => configChange port s) (applyStep (sweepEpoch s p.epoch) p (sweepMarks s p.epoch))

/-- STEP_APPLIED (R26). -/
def execStepApplied (t : Nat) (s : State) : Host.Outcome State Fault Refusal :=
  running t s <|
  done (stepAppliedOp (arrive t s))

end Sys2Proof.Machine
end

