-- ==== Sys2Proof/Machine/Target.lean ====
section
/-! DEFINITION. Remote register access at the target (R368, R369, R373) and the lock of the register bus with what waits for it
(R374, R381, R390). -/

namespace Sys2Proof.Machine

/-! ### Requests from other devices -/

/-- The response to a request (Table 14.9): it acknowledges the one tag. -/
def rraAnswer (s : State) (device : Nat) (r : Rra) (st v : Nat) : State :=
  let x : Rra := { r with width := 1, be := 0, data := v, status := st }
  (fabSend s { rraFrame s 9 device x with incarnation := r.incarnation }).1

/-- Whether a request's tag may be performed (R368). -/
def rraTagOk (s : State) (device : Nat) (r : Rra) : Bool :=
  match Tab.find s.tf.lastTag (device * 4 + r.init) with
  | none => true
  | some (inc, last) =>
    let d := (r.tag + 65536 - last % 65536) % 65536
    inc != r.incarnation || (decide (1 ≤ d) && decide (d ≤ 32767))

/-- The tag noted as the last one performed. -/
def noteTag (s : State) (device : Nat) (r : Rra) : State :=
  modTf s (fun g => { g with lastTag := Tab.put g.lastTag (device * 4 + r.init) (r.incarnation, r.tag) })

/-- Whether the lock is held by this request's initiator. -/
def holdsLock (s : State) (device : Nat) (r : Rra) : Bool :=
  match s.tf.lock with
  | some l => l.device == device && l.init == r.init
  | none => false

/-- The lock taken by a lock read. -/
def takeLock (s : State) (device : Nat) (r : Rra) : State :=
  modTf s (fun g => { g with lock := some ⟨device, r.init, r.offset, s.now⟩ })

/-- The lock released. -/
def releaseLock (s : State) : State := modTf s (fun g => { g with lock := none })

/-- A request performed or refused (R368, R369, R373, R374). -/
def rraNow (device : Nat) (r : Rra) (s : State) : State :=
  let check := unitCheck r.offset r.width r.be
  if !rdB s Reg.TF_CTRL.rra_en then rraAnswer s device r stDenied 0
  else if !rraTagOk s device r then rraAnswer s device r stTooLate 0
  else if r.op = 4 ∨ r.op = 5 then
    if !holdsLock s device r then rraAnswer s device r stTimeout 0
    else if r.op = 4 ∧ check ≠ stOk then rraAnswer (releaseLock s) device r check 0
    else
      let s := noteTag (releaseLock s) device r
      let s := if r.op = 4 then enabledWrite s r.offset r.width r.be (leBytes r.width r.data) else s
      rraAnswer s device r stOk 0
  else if check ≠ stOk then rraAnswer s device r check 0
  else if r.op = 0 then
    rraAnswer (enabledWrite (noteTag s device r) r.offset r.width r.be (leBytes r.width r.data)) device r stOk 0
  else if r.op ≤ 3 then
    let s := noteTag s device r
    let s := if r.op = 3 then takeLock s device r else s
    let (d, s) := enabledRead s r.offset r.width r.be (r.op == 2)
    rraAnswer s device r stOk (leNat d)
  else rraAnswer s device r stBadParam 0

/-! ### Local accesses that wait for the lock -/

/-- The instance events of a window's accesses carry: the window, or 0xFFFF for BAR0 (window 16). -/
def eventWindow (w : Nat) : Nat := if w < 16 then w else 0xFFFF

/-- A read of the local address map through a window, or through BAR0, completed (R380–R384). -/
def windowReadNow (window a len : Nat) (lane speculative : Bool) (s : State) : State :=
  let (d, s) := localRead s (eventWindow window) a len speculative
  completeRead s window a lane 0 d

/-- An AtomicOp on the local address map: 0 FetchAdd, 1 Swap, 2 CAS (R390). -/
def atomicNow (window a width : Nat) (lane : Bool) (op oper compare : Nat) (s : State) : State :=
  match refusal s (eventWindow window) a width with
  | some s => completeRead s window a lane 0 (zeros width)
  | none =>
    let (d, s) := localRead s (eventWindow window) a width false
    let s := match atomicValue (op + 2) width (leNat d) oper compare with
      | some v => localWrite s (eventWindow window) a (leBytes width v)
      | none => s
    completeRead s window a lane 0 d

/-- Words read one after the other by SPI (R393). -/
def spiWords : Nat → Nat → State → Bytes × State
  | 0, _, s => ([], s)
  | n + 1, a, s =>
    let (d, s) := if areaOf a = .registers then localRead s 0xFFFF a 4 false
      else match refusal s 0xFFFF a 4 with
        | some s => (zeros 4, s)
        | none => (unitRead s a 4, drawn s)
    let (rest, s) := spiWords n (a + 4) s
    (d ++ rest, s)

/-- What SPI_MISO shows of a read once its data is there: 0xA5, then the words. -/
def spiReadNow (a words : Nat) (s : State) : State :=
  let (d, s) := spiWords words a s
  emit s (.spi (leBytes 1 0xA5 ++ d))

/-- Words written one after the other by SPI; an incomplete last word is discarded. -/
def spiStore : Nat → Nat → Bytes → State → State
  | 0, _, _, s => s
  | n + 1, a, d, s =>
    let w := d.take 4
    let s := if areaOf a = .registers then localWrite s 0xFFFF a w
      else match refusal s 0xFFFF a 4 with
        | some s => s
        | none => unitWrite s a w
    spiStore n (a + 4) (d.drop 4) s

/-- What waited for the lock performed. -/
def performWait (w : LockWait) (s : State) : State :=
  match w with
  | .remote device r => rraNow device r s
  | .write a d => regStore s a d
  | .barRead a speculative => windowReadNow 16 a 4 false speculative s
  | .windowRead window a width lane speculative => windowReadNow window a width lane speculative s
  | .atomic window a width lane op oper compare => atomicNow window a width lane op oper compare s
  | .spiRead a words => spiReadNow a words s
  | .spiWrite a d => spiStore (d.length / 4) a d s
  | .debug write a width clr data => dbgPerform write a width clr data s

/-- Those that wait performed in order, until one takes the lock. -/
def drainLock : Nat → State → State
  | 0, s => s
  | n + 1, s =>
    match s.tf.lock, s.tf.lockQueue with
    | none, w :: rest => drainLock n (performWait w (modTf s (fun g => { g with lockQueue := rest })))
    | _, _ => s

/-- Everything the lock's release lets go on. -/
def afterLock (s : State) : State := drainLock s.tf.lockQueue.length s

/-- An access performed, or put among those that wait for the lock. -/
def unlessLocked (w : LockWait) (s : State) : State :=
  if s.tf.lock.isSome then modTf s (fun g => { g with lockQueue := g.lockQueue ++ [w] }) else performWait w s

/-- Whether a request waits: for the register space or another lock while the bus is locked, and behind what waits of the same
initiator (R368, R374). -/
def rraWaits (s : State) (device : Nat) (r : Rra) : Bool :=
  s.tf.lock.isSome && decide (r.op ≤ 3) && (areaOf r.offset == .registers || r.op == 3 ||
    s.tf.lockQueue.any (fun w => match w with
      | .remote d q => d == device && q.init == r.init
      | _ => false))

/-- RRA_REQUEST (R368). -/
def rraRequestOp (device : Nat) (r : Rra) (s : State) : State :=
  if rraWaits s device r then modTf s (fun g => { g with lockQueue := g.lockQueue ++ [.remote device r] })
  else afterLock (rraNow device r s)

/-- LOCK_RELEASE_TIMEOUT (R374). -/
def lockTimeoutOp (s : State) : State :=
  match s.tf.lock with
  | none => s
  | some l =>
    if l.taken + 10 * us ≤ s.now then
      let s := bump (releaseLock s) Reg.TF_STAT_LOCK_TO.value
      afterLock (raiseIn s Reg.TF_INT_STATUS.event 0 12 11 l.device (leBytes 1 l.init ++ leBytes 4 l.offset))
    else s

/-- RRA_REQUEST. -/
def execRraRequest (t : Nat) (device : Fin 64) (r : Rra) (s : State) : Host.Outcome State Fault Refusal :=
  receiving t s <|
  done (serveAll (rraRequestOp device.val r (arrive t s)))

/-- LOCK_RELEASE_TIMEOUT. -/
def execLockReleaseTimeout (t : Nat) (s : State) : Host.Outcome State Fault Refusal :=
  running t s <|
  done (serveAll (lockTimeoutOp (arrive t s)))

end Sys2Proof.Machine
end

