-- ==== Sys2Proof/Machine/Windows.lean ====
section
/-! DEFINITION. What the host does through the bridge (chapter 15): the PCIe link and the bridge's reset, fabric windows and BAR0,
AtomicOps, host rings, and SPI's accesses to the address map. -/

namespace Sys2Proof.Machine

/-! ### The link and the bridge's reset (R378, R379, R404) -/

/-- PCIE_LINK_UP (R378). -/
def pcieUp (width speed : Nat) (s : State) : State :=
  if (width = 1 ∨ width = 2 ∨ width = 4) ∧ 1 ≤ speed ∧ speed ≤ 4 then
    let s := wr (wr (wr s Reg.HB_STATUS.link 1) Reg.HB_STATUS.width width) Reg.HB_STATUS.speed speed
    raiseIn s Reg.HB_INT_STATUS.event 0 13 1 0xFFFF (leBytes 1 width ++ leBytes 1 speed)
  else s

/-- Whether a register is part of the bridge: windows, host rings, queue pairs. -/
def bridgeReg (a : Nat) : Bool :=
  (decide (0x110100 ≤ a) && decide (a < 0x110180)) || (decide (0x110400 ≤ a) && decide (a < 0x110500)) ||
    (decide (0x120100 ≤ a) && decide (a < 0x120200))

/-- Whether a waiting access belongs to the host behind the bridge and expects an answer. -/
def hostWaits (w : LockWait) : Bool :=
  match w with
  | .barRead .. | .windowRead .. | .atomic .. => true
  | _ => false

/-- The bridge reset (R379, R404): cause 0 PERST_N, 1 hot reset, 2 link down, 3 FLR. The first three take the link down
(PRESUMED, assumption 45). -/
def bridgeReset (cause : Nat) (s : State) : State :=
  let held := s.tf.held.filter (fun r => r.init == 0 && r.np)
  let discarded := s.hb.reads.countP (fun h => h.attached) + s.hb.atomics.length + s.tf.lockQueue.countP hostWaits
  let frames := sumBelow (fun r => (ringOf s r).length) 4
  let s := bumpBy s Reg.HB_STAT_RING_DROP.value frames
  let s := { s with
    regs := Tab.keep (fun k _ => !bridgeReg (k / 32)) s.regs
    hb := { HbState.reset with nextId := s.hb.nextId }
    tf := { s.tf with
      held := s.tf.held.filter (fun r => !held.contains r)
      lockQueue := s.tf.lockQueue.filter (fun w => !hostWaits w) }
    cmd := { s.cmd with
      enabling := s.cmd.enabling + 1
      subs := []
      held := s.cmd.held.filter (fun h => h.passed || (match h.via with
        | .queue .. => false
        | _ => true)) } }
  let s := wr s Reg.HB_STATUS.bme 0
  let s := if cause < 3 then wr (wr (wr s Reg.HB_STATUS.link 0) Reg.HB_STATUS.width 0) Reg.HB_STATUS.speed 0 else s
  raiseIn s Reg.HB_INT_STATUS.event 0 13 2 0xFFFF (leBytes 1 cause ++ leBytes 3 discarded)

/-- HOST_BRIDGE_RESET. -/
def execHostBridgeReset (t : Nat) (cause : Fin 4) (s : State) : Host.Outcome State Fault Refusal :=
  powered t s <|
  done (bridgeReset cause.val (arrive t s))

/-- PCIE_LINK_UP. -/
def execPcieLinkUp (t : Nat) (width speed : Fin 8) (s : State) : Host.Outcome State Fault Refusal :=
  powered t s <|
  done (pcieUp width.val speed.val (arrive t s))

/-! ### Windows (R382–R387) -/

/-- A window as a TLP finds it: whether its reads are speculative, its lane rule, its device and its base; and its whole
configuration as one number. -/
structure Window where
  prefetch : Bool
  lane : Bool
  device : Nat
  base : Nat
  config : Nat
  deriving DecidableEq, Repr

/-- Window `w` for an access of `len` bytes at aperture offset `x`; none where it is disabled or the access is beyond it. -/
def windowFor (s : State) (w x len : Nat) : Option Window :=
  let size := rd s Reg.HB_WIN_CFG.size_log2 w
  if !rdB s Reg.HB_WIN_CFG.en w || 2 ^ size < x + len then none
  else
    let device := rd s Reg.HB_WIN_CFG.device w
    let prefetch := rdB s Reg.HB_WIN_CFG.prefetch w
    let lane := rdB s Reg.HB_WIN_CFG.lane w
    let base := rd s Reg.HB_WIN_BASE.base w
    some ⟨prefetch, lane, device, base, b2n prefetch + 2 * b2n lane + 4 * device + 256 * size + 8192 * base⟩

/-- One piece of a remote access: the request's offset, width and byte enables, and where the piece begins in the access. -/
structure RraPiece where
  offset : Nat
  width : Nat
  be : Nat
  at_ : Int
  deriving DecidableEq, Repr

/-- The pieces of an access to `n` bytes at `a`, which begins at `first`: 8 bytes or 4, or a part of 4. -/
def rraPieces (first : Nat) : Nat → Nat → Nat → List RraPiece
  | 0, _, _ => []
  | fuel + 1, a, n =>
    if n = 0 then []
    else
      let l := alignedLen a n
      let width := if l = 8 then 8 else 4
      let off := a - a % width
      ⟨off, width, (2 ^ l - 1) * 2 ^ (a % width), (off : Int) - first⟩ :: rraPieces first fuel (a + l) (n - l)

/-- A new read of a remote device issued: its pieces, and the entry that waits for them. -/
def remoteRead (w a len : Nat) (win : Window) (s : State) : State :=
  let pieces := rraPieces a len a len
  let id := s.hb.nextId
  let h : HeldRead := {
    id := id
    window := w
    offset := a
    width := len
    config := win.config
    lane := win.lane
    attached := true
    deferred := false
    speculative := win.prefetch
    discard := false
    since := s.now
    waiting := pieces.length
    status := 0
    bytes := zeros len
    arrived := none }
  let s := modHb s (fun b => { b with reads := b.reads ++ [h], nextId := id + 1 })
  pieces.foldl (fun s p =>
    issue s (request 0 win.device (if win.prefetch then 2 else 1) p.width p.be p.offset 0 (.windowRead id p.at_))) s

/-- A read that collects a held entry (R387). -/
def collect (h : HeldRead) (s : State) : State :=
  if h.waiting = 0 then setHeld (completeRead s h.window h.offset h.lane h.status h.bytes) h.id (fun _ => none)
  else setHeld s h.id (fun h => some { h with attached := true, since := s.now })

/-- The entry a read matches: held, with no read waiting for it, of the same window, offset, width and configuration. -/
def matching (s : State) (w a len : Nat) (win : Window) : Option HeldRead :=
  s.hb.reads.find? (fun h =>
    h.deferred && !h.attached && h.window == w && h.offset == a && h.width == len && h.config == win.config)

/-- WINDOW_READ: `errors` are those it meets in CAN message memory. -/
def windowReadOp (w x len : Nat) (errors : List MmErr) (s : State) : State :=
  match windowFor s w x len with
  | none => emit (refuseAccess s w 2 x) (.pcieCompletion w 1 [])
  | some win =>
    let a := win.base + x
    if win.device = 0 then
      if areaOf a = .registers ∧ regForm a len = true then unlessLocked (.windowRead w a len win.lane win.prefetch) s
      else windowReadNow w a len win.lane win.prefetch (hostMeets errors a len s)
    else if areaOf a = .registers ∧ regForm a len = false then completeRead (refuseAccess s w 0 a) w a win.lane 0 (zeros len)
    else
      match (if win.prefetch then none else matching s w a len win) with
      | some h => collect h s
      | none => remoteRead w a len win s

/-- WINDOW_WRITE: bytes `d` in TLP order. -/
def windowWriteOp (w x : Nat) (d : Bytes) (s : State) : State :=
  match windowFor s w x d.length with
  | none => refuseAccess s w 2 x
  | some win =>
    let a := win.base + x
    let d := laneSwap win.lane a d
    if win.device = 0 then
      if areaOf a = .registers ∧ regForm a d.length = true then unlessLocked (.write a d) s else localWrite s w a d
    else if areaOf a = .registers ∧ regForm a d.length = false then refuseAccess s w 0 a
    else
      (rraPieces a d.length a d.length).foldl (fun s p =>
        let v := leNat ((List.range p.width).map (fun (k : Nat) =>
          if bitSet p.be k && decide (0 ≤ p.at_ + (k : Int)) then d.getD (p.at_ + (k : Int)).toNat 0#8 else 0#8))
        issue s (request 0 win.device 0 p.width p.be p.offset v .nothing)) s

/-- WINDOW_READ. -/
def execWindowRead (r : MmAt) (window : Fin 16) (offset len : Nat) (s : State) : Host.Outcome State Fault Refusal :=
  powered r.t s <|
  done (windowReadOp window.val offset len r.errors (arrive r.t s))

/-- WINDOW_WRITE. -/
def execWindowWrite (t : Nat) (window : Fin 16) (offset : Nat) (data : Bytes) (s : State) :
    Host.Outcome State Fault Refusal :=
  powered t s <|
  done (serveAll (windowWriteOp window.val offset data (arrive t s)))

/-- READ_DEFERRED. -/
def execReadDeferred (t : Nat) (id : Nat) (s : State) : Host.Outcome State Fault Refusal :=
  powered t s <|
  done (readWaitOver id (arrive t s))

/-- HELD_READ_EXPIRED (R387). -/
def execHeldReadExpired (t : Nat) (id : Nat) (s : State) : Host.Outcome State Fault Refusal :=
  powered t s <|
  done (heldExpired id (arrive t s))

/-! ### AtomicOps (R390) -/

/-- An AtomicOp at `a` of the target: 4 or 8 bytes, naturally aligned; locally under the lock of the register bus, remotely as the
locked sequence. -/
def atomicAt (w a device : Nat) (lane : Bool) (op : Nat) (operand compare : Bytes) (s : State) : State :=
  let width := operand.length
  let good := (width == 4 || width == 8) && a % width == 0 && (op != 2 || compare.length == width)
  let x := leNat (laneSwap lane a operand)
  let y := leNat (laneSwap lane a compare)
  if !good then emit s (.pcieCompletion w 1 [])
  else if device = 0 then unlessLocked (.atomic w a width lane op x y) s
  else
    let id := s.hb.nextId
    let s := modHb s (fun b => { b with atomics := b.atomics ++ [⟨id, w, a, width, lane, s.now⟩], nextId := id + 1 })
    issue s { request 0 device 3 width (2 ^ width - 1) a 0 (.atomicOp id) with atomic := op + 2, oper := x, compare := y }

/-- ATOMIC_OP. -/
def atomicOp (window : Option Nat) (x op : Nat) (operand compare : Bytes) (s : State) : State :=
  match window with
  | none => atomicAt 16 x 0 false op operand compare s
  | some w =>
    match windowFor s w x operand.length with
    | none => emit (refuseAccess s w 2 x) (.pcieCompletion w 1 [])
    | some win => atomicAt w (win.base + x) win.device win.lane op operand compare s

/-- ATOMIC_OP (R390). -/
def execAtomicOp (t : Nat) (window : Option (Fin 16)) (offset : Nat) (op : Fin 3) (operand compare : Bytes) (s : State) :
    Host.Outcome State Fault Refusal :=
  powered t s <|
  done (serveAll (atomicOp (window.map (fun w => w.val)) offset op.val operand compare (arrive t s)))

/-! ### BAR0 (R380, R381) -/

/-- REGISTER_WRITE: 4 bytes through BAR0. -/
def barWrite (a w : Nat) (s : State) : State :=
  if areaOf a = .registers ∧ a % 4 = 0 then unlessLocked (.write a (leBytes 4 w)) s else localWrite s 0xFFFF a (leBytes 4 w)

/-- RC_COUNTER_READ: 4 bytes through BAR0. -/
def barRead (a : Nat) (speculative : Bool) (s : State) : State :=
  if areaOf a = .registers ∧ a % 4 = 0 then unlessLocked (.barRead a speculative) s
  else windowReadNow 16 a 4 false speculative s

/-- REGISTER_WRITE (R4, R5). -/
def execRegisterWrite (t : Nat) (addr : Nat) (data : BitVec 32) (s : State) : Host.Outcome State Fault Refusal :=
  powered t s <|
  done (serveAll (barWrite addr data.toNat (arrive t s)))

/-- RC_COUNTER_READ (R4). -/
def execRcCounterRead (t : Nat) (addr : Nat) (speculative : Bool) (s : State) : Host.Outcome State Fault Refusal :=
  powered t s <|
  done (barRead addr speculative (arrive t s))

/-! ### Host rings (R391, R395) -/

/-- A transmit descriptor carried out: a frame of its length, padded to 60, enters the switch core as input HOST; one above
9,212 bytes completes BAD_PARAM, one of length 0 sends nothing. -/
def hostSend (s : State) (d : HostDesc) : State × Nat :=
  let len := leAt d.desc 8 2
  if 9212 < len then (s, stBadParam)
  else if len = 0 then (s, stOk)
  else
    let data := padTo (max len 60) (padTo len d.frame)
    let tag := leAt d.desc 12 2
    let s := mirrorRx s 16 data (dtNow s)
    let f := { CoreFrame.entering data (fcsOf data) 16 (byteAt d.desc 11 % 8) with
      stamp := dtNow s
      start := s.now
      vid := tag % 4096
      pcp := tag / 4096 % 8
      dei := bitSet tag 15 }
    match enterFrame s f with
    | (s, some id) => (pushArrived s 16 id, stOk)
    | (s, none) => (s, stOk)

/-- Every descriptor a transmit ring holds, in ring order. -/
def ringSend (r : Nat) (ds : List HostDesc) (s : State) : State :=
  ds.foldl (fun s d =>
    let (s, st) := hostSend s d
    completeDesc s r (putBytes d.desc 24 (leBytes 2 st))) s

/-- HB_RING_TAIL_WRITE: the descriptors between the old tail and the new are the ring's. -/
def ringTail (r tail : Nat) (descs : List HostDesc) (s : State) : State :=
  let size := 2 ^ rd s Reg.HB_RING_SIZE.log2 r
  if size ≤ tail then s
  else
    let s := modHb (wr s Reg.HB_RING_TAIL.tail tail r) (fun b => { b with ringIrq := clrBit b.ringIrq r })
    if !rdB s Reg.HB_RING_SIZE.en r then s
    else
      let taken := (rd s Reg.HB_RING_HEAD.head r + (ringOf s r).length) % size
      let new := descs.take ((tail + size - taken) % size)
      let s := modHb s (fun b => { b with rings := Tab.put b.rings r (ringOf s r ++ new) })
      if r < 4 then ringSend r (ringOf s r) s else s

/-- HB_RING_TAIL_WRITE (R391). -/
def execHbRingTailWrite (t : Nat) (ring : Fin 8) (tail : Nat) (descs : List HostDesc) (s : State) :
    Host.Outcome State Fault Refusal :=
  powered t s <|
  done (ringTail ring.val tail descs (leaveIdle (arrive t s)))

/-- HB_RING_SIZE_WRITE (R395). -/
def execHbRingSizeWrite (t : Nat) (ring : Fin 8) (data : BitVec 32) (s : State) : Host.Outcome State Fault Refusal :=
  powered t s <|
  done (ringSizeWrite ring.val data.toNat (arrive t s))

/-! ### SPI (R393) -/

/-- The first opcode byte of a transaction other than 0x05: it wakes a gated or unpowered core die, and abandons an entry in
progress (R429, R443). While the core die has no power, is gated or is held in reset, the transaction shows `zero` bytes 0x00
(R393). -/
def spi (t : Nat) (s : State) (zero : Nat) (f : State → State) : Host.Outcome State Fault Refusal :=
  let s := arrive t s
  let s := if s.bt.vbatLow then s
    else if wakesDevice s 3 then recognise s 8 none true none
    else s
  done (if tapOn s then serveAll (f s) else if zero = 0 ∨ s.bt.vbatLow then s else emit s (.spi (zeros zero)))

/-- Words written over SPI; the register space waits for the lock. -/
def spiWriteOp (a : Nat) (data : Bytes) (s : State) : State :=
  if areaOf a = .registers then unlessLocked (.spiWrite a data) s else spiStore (data.length / 4) a data s

/-- SPI_REGISTER_WRITE (R393). -/
def execSpiRegisterWrite (t : Nat) (addr : BitVec 32) (data : Bytes) (s : State) : Host.Outcome State Fault Refusal :=
  spi t s 0 (spiWriteOp addr.toNat data)

/-- Words read over SPI; the register space waits for the lock. `errors` are those met in CAN message memory. -/
def spiReadOp (a words : Nat) (errors : List MmErr) (s : State) : State :=
  if areaOf a = .registers then unlessLocked (.spiRead a words) s
  else spiReadNow a words (if a % 4 = 0 then hostMeets errors a (4 * words) s else s)

/-- SPI_REGISTER_READ (R393). -/
def execSpiRegisterRead (r : MmAt) (addr : BitVec 32) (words : Nat) (s : State) : Host.Outcome State Fault Refusal :=
  spi r.t s (1 + 4 * words) (spiReadOp addr.toNat words r.errors)

/-- The status byte on MISO, in every state but a wake die in reset (R393). -/
def spiStatusOp (s : State) : State :=
  let on := tapOn s
  let pin := (List.range 4).any (pinAsserted s)
  let x := b2n (decide (powerState s < 3) && s.bt.holds == 0) + 2 * b2n (on && rdB s Reg.HB_STATUS.link) + 4 * b2n (on && pin) +
    8 * rd s Reg.BT_STATUS.step
  if s.bt.vbatLow then s else emit s (.spi (leBytes 1 x))

/-- SPI_STATUS (R393). -/
def execSpiStatus (t : Nat) (s : State) : Host.Outcome State Fault Refusal := done (spiStatusOp (arrive t s))

end Sys2Proof.Machine
end

