-- ==== Sys2Proof/Machine/Transport.lean ====
section
/-! DEFINITION. The transports of command packets (chapter 16): acceptance (R398–R402), authority (R410–R412), PCIe queue pairs
(R403), SPI (R405), in-band Ethernet (R406–R408) and fabric forwarding (R409). -/

namespace Sys2Proof.Machine

/-! ### Opcodes and their classes (R412) -/

/-- The row of an opcode, run on a call and its parameters at the present instant; none for an opcode not defined. A command that
comes as a packet meets no error of the gateway's memory (assumption 97). -/
def opcodeRow (op : Nat) (c : Call) (p : Bytes) (s : State) : Option (Host.Outcome State Fault Refusal) :=
  match op with
  | 0x0001 => some (execSysInfo s.now c p s)
  | 0x0002 => some (execSysEcho s.now c p s)
  | 0x0003 => some (execSysNonce s.now c p s)
  | 0x0004 => some (execSysShutdown s.now c p s)
  | 0x0005 => some (execSysRestart s.now c p s)
  | 0x0006 => some (execSysEventRead s.now c p s)
  | 0x0020 => some (execSysEventPush s.now c p s)
  | 0x1001 => some (execFtTableWrite s.now c p s)
  | 0x1002 => some (execFtTableRead s.now c p s)
  | 0x1010 => some (execFtL2Add s.now c p s)
  | 0x1011 => some (execFtL2Del s.now c p s)
  | 0x1012 => some (execFtL2Find s.now c p s)
  | 0x1013 => some (execFtL2Flush s.now c p s)
  | 0x1020 => some (execFtLpmAdd s.now c p s)
  | 0x1021 => some (execFtLpmDel s.now c p s)
  | 0x1022 => some (execFtLpmFind s.now c p s)
  | 0x1400 => some (execEthGclWrite s.now c p s)
  | 0x1401 => some (execEthGclRead s.now c p s)
  | 0x1420 => some (execSwTableWrite s.now c p s)
  | 0x1421 => some (execSwTableRead s.now c p s)
  | 0x1500 => some (execPeLoadOpen s.now c p s)
  | 0x1501 => some (execPeLoadChunk s.now c p s)
  | 0x1502 => some (execPeLoadClose s.now c p s)
  | 0x1503 => some (execPeBankSwitch s.now c p s)
  | 0x1600 => some (execClTurnOpen s.now c p s)
  | 0x1601 => some (execClRuleAdd s.now c p s)
  | 0x1602 => some (execClRuleDel s.now c p s)
  | 0x1603 => some (execClTurnCommit s.now c p s)
  | 0x1604 => some (execClTurnAbort s.now c p s)
  | 0x1605 => some (execClRuleRead s.now c p s)
  | 0x2001 => some (execCanSetMode s.now c p s)
  | 0x2010 => some (execCanTxEnqueue s.now c p s)
  | 0x2011 => some (execCanTxCancel s.now c p s)
  | 0x2020 => some (execCanGetState s.now c p s)
  | 0x2030 => some (execCanFltWrite s.now c p s)
  | 0x2031 => some (execCanFltRead s.now c p s)
  | 0x3001 => some (execSgTableWrite s.now c p s)
  | 0x3002 => some (execSgTableRead s.now c p s)
  | 0x3010 => some (execSgCanrtAdd s.now c p s)
  | 0x3011 => some (execSgCanrtDel s.now c p s)
  | 0x3012 => some (execSgCanrtFind s.now c p s)
  | 0x3020 => some (execSgSlotRead ⟨s.now, []⟩ c p s)
  | 0x3021 => some (execSgSlotWrite ⟨s.now, []⟩ c p s)
  | 0x3022 => some (execSgSlotConfig s.now c p s)
  | 0x3030 => some (execSgTplTrigger ⟨s.now, []⟩ c p s)
  | 0x3031 => some (execSgTplExt s.now c p s)
  | 0x3032 => some (execSgAgeQuery ⟨s.now, []⟩ c p s)
  | 0x3040 => some (execCkChWrite s.now c p s)
  | 0x3041 => some (execCkChRead s.now c p s)
  | 0x3042 => some (execCkChResync s.now c p s)
  | 0x4001 => some (execCxKeyLoad s.now c p s)
  | 0x4002 => some (execCxKeyErase s.now c p s)
  | 0x4003 => some (execCxKeyInfo s.now c p s)
  | 0x4010 => some (execCxRequest s.now c p s)
  | 0x4011 => some (execCxVoidReg s.now c p s)
  | 0x4012 => some (execCxVoidUnreg s.now c p s)
  | 0x4020 => some (execCxSecpduWrite s.now c p s)
  | 0x4021 => some (execCxFvRead s.now c p s)
  | 0x4022 => some (execCxFvSet s.now c p s)
  | 0x4030 => some (execCxProfileWrite s.now c p s)
  | 0x4040 => some (execMacsecPortCfg s.now c p s)
  | 0x4041 => some (execMacsecSaInstall s.now c p s)
  | 0x4042 => some (execMacsecSaCtrl s.now c p s)
  | 0x4050 => some (execLcInfo s.now c p s)
  | 0x4051 => some (execLcAdvance s.now c p s)
  | 0x4052 => some (execLcReturn s.now c p s)
  | 0x4053 => some (execLcScrap s.now c p s)
  | 0x4054 => some (execLcRelock s.now c p s)
  | 0x4055 => some (execLcVkeyWrite s.now c p s)
  | 0x4056 => some (execLcVkeyRevoke s.now c p s)
  | 0x4057 => some (execLcTamperClear s.now c p s)
  | 0x5001 => some (execTfTopoRead s.now c p s)
  | 0x5002 => some (execTfIdRelease s.now c p s)
  | 0x5003 => some (execTfRouteRead s.now c p s)
  | 0x5010 => some (execTfFence s.now c p s)
  | 0x5011 => some (execTfRra s.now c p s)
  | 0x5020 => some (execTfRekey s.now c p s)
  | 0x6001 => some (execPwrGrpRequest s.now c p s)
  | 0x6002 => some (execPwrGrpState s.now c p s)
  | 0x6003 => some (execPwrNodesRead s.now c p s)
  | 0x6010 => some (execPwrSchedWrite s.now c p s)
  | 0x6011 => some (execPwrSchedRead s.now c p s)
  | 0x7001 => some (execUpdOpen s.now c p s)
  | 0x7002 => some (execUpdWrite s.now c p s)
  | 0x7003 => some (execUpdClose s.now c p s)
  | 0x7004 => some (execUpdPrepare s.now c p s)
  | 0x7005 => some (execUpdActivate s.now c p s)
  | 0x7006 => some (execUpdAbort s.now c p s)
  | 0x7007 => some (execUpdConfirm s.now c p s)
  | 0x7008 => some (execUpdRevert s.now c p s)
  | 0x7009 => some (execUpdStatus s.now c p s)
  | 0x7010 => some (execUpdFabBegin s.now c p s)
  | 0x7011 => some (execUpdFabMsg s.now c p s)
  | 0x7020 => some (execBtAltClear s.now c p s)
  | 0x7030 => some (execSettingsSave s.now c p s)
  | 0x7031 => some (execSettingsInfo s.now c p s)
  | 0x8010 => some (execLrReadPage s.now c p s)
  | 0x8011 => some (execLrCheckpoint s.now c p s)
  | _ => none

/-- The opcodes of class R, O and S (Table 16.9 and the command tables); SYS_EVENT_PUSH, which has no class, is permitted as R is. -/
def classR : List Nat :=
  [0x0001, 0x0002, 0x0003, 0x0006, 0x0020, 0x1002, 0x1012, 0x1022, 0x1401, 0x1421, 0x1605, 0x2020, 0x2031, 0x3002,
    0x3012, 0x3020, 0x3032, 0x3041, 0x4003, 0x4021, 0x4050, 0x5001, 0x5003, 0x6002, 0x6003, 0x6011, 0x7009, 0x7031,
    0x8010, 0x8011]
def classO : List Nat :=
  [0x0004, 0x2010, 0x2011, 0x3021, 0x3030, 0x3042, 0x4010, 0x4011, 0x4012, 0x4054, 0x5010, 0x5020, 0x6001]
def classS : List Nat :=
  [0x4022, 0x4051, 0x4052, 0x4053, 0x4055, 0x4056, 0x4057]

/-- The opcodes of class C. -/
def classC : List Nat :=
  [0x0005, 0x1001, 0x1010, 0x1011, 0x1013, 0x1020, 0x1021, 0x1400, 0x1420, 0x1500, 0x1501, 0x1502, 0x1503, 0x1600,
    0x1601, 0x1602, 0x1603, 0x1604, 0x2001, 0x2030, 0x3001, 0x3010, 0x3011, 0x3022, 0x3031, 0x3040, 0x4002, 0x4020,
    0x4030, 0x4040, 0x4041, 0x4042, 0x5002, 0x6010, 0x7001, 0x7002, 0x7003, 0x7004, 0x7005, 0x7006, 0x7007, 0x7008,
    0x7010, 0x7011, 0x7020, 0x7030]

/-- The authority class of an opcode with parameters `p`: 0 R, 1 O, 2 C, 3 S; none for an opcode not defined. CX_KEY_LOAD is of
class S for a FIXED key and C otherwise, TF_RRA of class R for a read and C otherwise. -/
def classOf (op : Nat) (p : Bytes) : Option Nat :=
  if op = 0x4001 then some (if byteAt p 2 = 1 then 3 else 2)
  else if op = 0x5011 then some (if byteAt p 1 = 1 then 0 else 2)
  else if classR.contains op then some 0
  else if classO.contains op then some 1
  else if classC.contains op then some 2
  else if classS.contains op then some 3
  else none

/-! ### Packets and transport instances -/

/-- The transport instance: 0–3 a queue pair, 4 SPI, 5 in-band, 6 the fabric. -/
def instanceOf (v : Via) : Nat :=
  match v with
  | .queue q .. => q.val
  | .spi => 4
  | .inband .. => 5
  | .fabric _ => 6

/-- The call a packet makes: its header, with the origin transport that the device which first accepts it writes (Table 16.1). -/
def callOf (v : Via) (pkt : Bytes) : Call where
  via := v
  flags := match v with
    | .queue .. => setBits (byteAt pkt 1) 3 2 0
    | .spi => setBits (byteAt pkt 1) 3 2 1
    | .inband .. => setBits (byteAt pkt 1) 3 2 2
    | .fabric _ => byteAt pkt 1
  tag := leAt pkt 4 2
  dst := byteAt pkt 8
  src := byteAt pkt 9
  seq := leAt pkt 12 4

/-- A packet's opcode. -/
def packetOp (pkt : Bytes) : Nat := leAt pkt 2 2

/-- A packet's parameters. -/
def packetParams (pkt : Bytes) : Bytes := sliceBytes pkt 16 (leAt pkt 6 2)

/-- Event 0x0001: a packet discarded for `cause` (Table 16.11). -/
def discardEvent (s : State) (inst cause : Nat) : State :=
  raiseInLimited s Reg.CMD_INT_STATUS.event 0 14 1 inst inst 1 (fun n => leBytes 1 cause ++ leBytes 4 n)

/-- A packet discarded in steps 1, 2 or 5 of R398. -/
def discardPacket (s : State) (inst cause : Nat) : State := discardEvent (bump s Reg.CMD_STAT_DISCARD.value) inst cause

/-- A duplicate tag discarded without reply (R398 step 5). The entry of a queue pair it came by has its one completion entry all
the same (R403), with no reply packet and a status the spec does not state (free). -/
def discardDuplicate (v : Via) (tag : Nat) (s : State) : State :=
  let s := discardPacket (bump s Reg.CMD_STAT_DUP_TAG.value) (instanceOf v) 3
  match v with
  | .queue q slot size addr _ => queueReply (drawn s) q slot size addr tag (freeIn s 0 0xFFFF) []
  | _ => s

/-- A command refused for want of authority (R398 step 8). -/
def refuseAuthority (s : State) (op cls : Nat) (c : Call) : State :=
  let inst := instanceOf c.via
  let s := bump s Reg.CMD_STAT_DENIED.value
  let s := raiseInLimited s Reg.CMD_INT_STATUS.event 0 14 2 inst inst 1
    (fun _ => leBytes 2 op ++ leBytes 1 cls ++ leBytes 1 (lifecycle s))
  sendReply s op c stDenied []

/-- Whether a tag is outstanding on an instance: of a long command, or of one that executes or waits for its processor (R400). -/
def tagOutstanding (s : State) (inst tag : Nat) : Bool :=
  s.cmd.long.any (fun l => callLive s l.call && instanceOf l.call.via == inst && l.call.tag == tag) ||
    s.cmd.held.any (fun h => h.passed && instanceOf h.via == inst && leAt h.packet 4 2 == tag)

/-! ### Authority (R410, R411) -/

/-- What RETURNED and SCRAPPED permit beyond class R (R477). -/
def returnedOps : List Nat :=
  [0x0004, 0x0005, 0x7001, 0x7002, 0x7003, 0x7004, 0x7005, 0x7006, 0x7007, 0x7008, 0x7009, 0x4053]

/-- Whether the lifecycle state permits a class (Table 16.8), signed or not. -/
def lifecyclePermits (s : State) (op cls : Nat) (signed : Bool) : Bool :=
  match lifecycle s with
  | 0 | 1 => true
  | 2 | 3 => decide (cls < 3) || signed
  | 4 => cls == 0 || (returnedOps.contains op && (op != 0x4053 || signed))
  | _ => cls == 0 || op == 0x0005

/-- Whether CMD_ACL permits a class on a transport. -/
def aclPermits (s : State) (v : Via) (cls : Nat) : Bool :=
  match v with
  | .queue .. => decide (cls ≤ rd s Reg.CMD_ACL.pcie)
  | .spi => decide (cls ≤ rd s Reg.CMD_ACL.spi)
  | .inband .. => decide (cls ≤ rd s Reg.CMD_ACL.inb)
  | .fabric _ => decide (cls ≤ rd s Reg.CMD_ACL.fabric)

/-- The authority block of a signed packet checked (R411): its nonce used up, and OK, DENIED or INTEGRITY. -/
def checkBlock (pkt : Bytes) (s : State) : State × Nat :=
  let p := packetParams pkt
  let b := p.drop (p.length - 112)
  let k := byteAt b 0
  let issued := s.cmd.nonces.find? (fun n => n.value == leAt b 4 8)
  let s := { s with cmd := { s.cmd with nonces := s.cmd.nonces.filter (fun n => n.value != leAt b 4 8) } }
  let fresh := match issued with
    | some n => decide (s.now ≤ n.issued + 60 * sec)
    | none => false
  if !fresh || !keyServes s k 1 || !zeroAt b 1 3 || !zeroAt b 12 4 then (s, stDenied)
  else if signatureOk s k (pkt.take 16 ++ p.take (p.length - 112) ++ b.take 16) (sliceBytes b 16 96) then (s, stOk)
  else (signatureFailed s k 1, stIntegrity)

/-! ### Forwarding (R409) -/

/-- A packet as the relay sends it on: src and, where this device accepted it first, the origin transport written. -/
def relayed (s : State) (c : Call) (pkt : Bytes) : Bytes :=
  packet c.flags (packetOp pkt) c.tag c.dst (ownId s) 0 c.seq (packetParams pkt)

/-- A command whose dst names another device: refused for want of the relay's authority, too long or without a route, or
forwarded, and long here from then on. -/
def forward (c : Call) (pkt : Bytes) (s : State) : State :=
  let op := packetOp pkt
  let d := c.dst % 64
  match classOf op (packetParams pkt) with
  | some k =>
    if !aclPermits s c.via k then refuseAuthority s op k c else go op d
  | none => go op d
where
  /-- The command sent on. -/
  go (op d : Nat) : State :=
    if 9232 < pkt.length then sendReply s op c stBadLength []
    else if transitFull s || !reachable s d then sendReply s op c stUnreachable []
    else
      let s := bump s Reg.CMD_STAT_ACCEPT.value
      let s := { s with cmd := { s.cmd with
        long := s.cmd.long ++ [⟨op, c, s.now⟩]
        forwards := s.cmd.forwards ++ [⟨c, op, d, s.now + rd s Reg.CMD_FWD_TO.ms * ms⟩] } }
      (fabSend s (fabHeader s 7 (rd s Reg.TF_CTRL.rra_class) d (relayed s c pkt))).1

/-! ### Acceptance (R398) -/

/-- The state a row leaves. -/
def afterRow (s : State) (r : Host.Outcome State Fault Refusal) : State :=
  match r with
  | .next s => s
  | _ => s

/-- Whether a command has just been refused by steps 10 and 11 of R398: a reply of another status than OK at once. -/
def refusedAtOnce (before after : State) (op : Nat) (c : Call) : Bool :=
  (after.out.drop before.out.length).any (fun o => match o with
    | .reply op' c' st _ => op' == op && c' == c && st != stOk
    | _ => false)

/-- A command executed, and counted as accepted unless a check of its own refuses it; one that waits for its processor is counted
when it runs. -/
def runOpcode (op : Nat) (c : Call) (p : Bytes) (s : State) : State :=
  match opcodeRow op c p s with
  | some r =>
    let s' := afterRow s r
    if refusedAtOnce s s' op c || decide (s.cmd.held.length < s'.cmd.held.length) then s' else bump s' Reg.CMD_STAT_ACCEPT.value
  | none => sendReply s op c stBadOpcode []

/-- Steps 7–11 of R398: the opcode, its authority, its block, and its own checks. -/
def acceptHere (c : Call) (pkt : Bytes) (s : State) : State :=
  let op := packetOp pkt
  let p := packetParams pkt
  let signed := bitSet c.flags 1
  match classOf op p with
  | none => sendReply s op c stBadOpcode []
  | some k =>
    if !lifecyclePermits s op k signed || !aclPermits s c.via k then refuseAuthority s op k c
    else if !signed then runOpcode op c p s
    else if p.length < 112 then sendReply s op c stBadLength []
    else
      match checkBlock pkt s with
      | (s, 0) => runOpcode op c (p.take (p.length - 112)) s
      | (s, st) =>
        let s := if st = stDenied then bump s Reg.CMD_STAT_DENIED.value else s
        sendReply s op c st []

/-- Steps 3–6 of R398. -/
def acceptHeader (v : Via) (pkt : Bytes) (s : State) : State :=
  let c := callOf v pkt
  let op := packetOp pkt
  let reserved := bitSet (byteAt pkt 1) 0 || bitsOf (byteAt pkt 1) 5 3 != 0 || 63 < byteAt pkt 8 || 63 < byteAt pkt 9 ||
    leAt pkt 10 2 != 0
  if byteAt pkt 0 ≠ 1 then sendReply s op c stBadOpcode []
  else if reserved then sendReply s op c stBadParam []
  else if tagOutstanding s (instanceOf v) c.tag then
    discardDuplicate v c.tag s
  else if c.dst ≠ 0 ∧ c.dst ≠ ownId s then forward c pkt s
  else acceptHere c pkt s

/-- The replay check of an in-band packet (R408): S_k takes its sequence, recorded at every 4,096th; none where it is not above
S_k. -/
def takeSequence (k seq : Nat) (s : State) : Option State :=
  if seq ≤ rd s Reg.CMD_INB_SEQ.seq k then none
  else
    let n := Tab.get s.cmd.seqAccepted k 0 + 1
    let s := wr s Reg.CMD_INB_SEQ.seq seq k
    some { s with cmd := { s.cmd with
      seqAccepted := Tab.put s.cmd.seqAccepted k n
      seqRecorded := if n % 4096 = 0 then Tab.put s.cmd.seqRecorded k seq else s.cmd.seqRecorded } }

/-- Steps 1 and 2 of R398, and what an in-band packet is checked for besides. -/
def accept (v : Via) (pkt : Bytes) (s : State) : State :=
  let op := packetOp pkt
  let quiet := 5 ≤ instanceOf v
  if pkt.length ≠ 20 + leAt pkt 6 2 then
    if quiet then discardPacket s (instanceOf v) 1 else sendReply s op (callOf v pkt) stBadLength []
  else if leAt pkt (pkt.length - 4) 4 ≠ crc32c (pkt.take (pkt.length - 4)) then
    if quiet then discardPacket s (instanceOf v) 2 else sendReply s op (callOf v pkt) stIntegrity []
  else
    match v with
    | .inband _ k .. =>
      match takeSequence k (leAt pkt 12 4) s with
      | none => discardEvent (bump s Reg.CMD_STAT_INB_REPLAY.value) 5 5
      | some s => acceptHeader v pkt s
    | _ => acceptHeader v pkt s

/-! ### Order (R401, R402, R481) -/

/-- Commands of an instance that have been accepted and have not replied. -/
def longOut (s : State) (inst : Nat) : Nat :=
  s.cmd.long.countP (fun l => callLive s l.call && instanceOf l.call.via == inst)

/-- Whether a packet waits: at the limit of long commands, for every earlier reply where it says so, or, once accepted, for the
processor that executes it. -/
def mustWait (s : State) (h : HeldPacket) : Bool :=
  let inst := instanceOf h.via
  if h.passed then
    cpHalted s (packetOp h.packet) || (needsSp (packetOp h.packet) (callOf h.via h.packet) && halted s 2)
  else
    decide ((if inst = 4 then 1 else 64) ≤ longOut s inst) || (bitSet (byteAt h.packet 1) 2 && decide (0 < longOut s inst))

/-- A packet accepted, or executed where it has been; behind a waiting one of its instance it waits. -/
def submit (h : HeldPacket) (s : State) : State :=
  if s.cmd.held.any (fun x => instanceOf x.via == instanceOf h.via) || mustWait s h then
    { s with cmd := { s.cmd with held := s.cmd.held ++ [h] } }
  else if h.passed then
    runOpcode (packetOp h.packet) { callOf h.via h.packet with flags := byteAt h.packet 1 } (packetParams h.packet) s
  else accept h.via h.packet s

/-- Every waiting packet offered again, in order. -/
def pumpHeld (s : State) : State :=
  s.cmd.held.foldl (fun s h => submit h s) { s with cmd := { s.cmd with held := [] } }

/-! ### Queue pairs (R403) -/

/-- Whether a submission entry is one that is fetched further: lengths, alignment, reserved bytes (Table 16.3). -/
def entryOk (e : Bytes) : Bool :=
  decide (20 ≤ leAt e 8 4) && decide (leAt e 8 4 ≤ 65555) && leAt e 0 8 % 4 == 0 && leAt e 16 8 % 4 == 0 && zeroAt e 24 8

/-- Whether queue pair `q` fetches another entry. -/
def mayFetch (s : State) (q : Nat) : Bool :=
  let head := rd s Reg.CMD_QP_SQ_HEAD.head q
  rdB s Reg.CMD_QP_CTRL.en q && rdB s Reg.CMD_CTRL.pcie_en && (!s.bt.record.recovery || q == 0) &&
    decide ((head + 256 - rd s Reg.CMD_QP_CQ_HEAD.head q) % 256 < 255) &&
    !s.cmd.held.any (fun h => instanceOf h.via == q)

/-- Entries of queue pair `q` fetched in ring order. -/
def fetchQueue (q : Fin 4) : Nat → State → State
  | 0, s => s
  | fuel + 1, s =>
    match Tab.get s.cmd.subs q.val [] with
    | [] => s
    | x :: rest =>
      if !mayFetch s q.val then s
      else
        let slot := rd s Reg.CMD_QP_SQ_HEAD.head q.val
        let s := { s with cmd := { s.cmd with subs := Tab.set s.cmd.subs q.val [] rest } }
        let s := wr s Reg.CMD_QP_SQ_HEAD.head ((slot + 1) % 256) q.val
        let size := leAt x.entry 12 4
        let addr := leAt x.entry 16 8
        let s := if entryOk x.entry then
            submit ⟨.queue q slot size addr s.cmd.enabling, padTo (leAt x.entry 8 4) x.packet, false⟩ s
          else queueReply s q.val slot size addr 0 stBadParam []
        fetchQueue q fuel s

/-- Everything the transports can go on with: waiting packets, then submission entries. -/
def pump (s : State) : State :=
  if coreOn s then
    let s := pumpHeld s
    [0, 1, 2, 3].foldl (fun s q => fetchQueue q (Tab.get s.cmd.subs q.val []).length s) s
  else s

/-- An entry into a low-power state abandoned by a command (R439). -/
def commandWakes (s : State) : State := if s.wk.entry.isSome then recognise s 8 none true none else s

/-- CMD_QP_SQ_TAIL_WRITE: the entries between the old tail and the new are submitted. -/
def sqTail (q : Fin 4) (tail : Nat) (subs : List Submission) (s : State) : State :=
  let s := wr (commandWakes s) Reg.CMD_QP_SQ_TAIL.tail tail q.val
  if !rdB s Reg.CMD_QP_CTRL.en q.val then s
  else
    let old := Tab.get s.cmd.subs q.val []
    let taken := rd s Reg.CMD_QP_SQ_HEAD.head q.val + old.length
    let new := subs.take ((tail + 512 - taken) % 256)
    pump { s with cmd := { s.cmd with subs := Tab.set s.cmd.subs q.val [] (old ++ new) } }

/-- CMD_QP_SQ_TAIL_WRITE (R403). -/
def execCmdQpSqTailWrite (t : Nat) (q : Fin 4) (tail : Fin 256) (subs : List Submission) (s : State) :
    Host.Outcome State Fault Refusal :=
  powered t s <|
  done (sqTail q tail.val subs (arrive t s))

/-- CMD_QP_CQ_HEAD_WRITE (R403). -/
def execCmdQpCqHeadWrite (t : Nat) (q : Fin 4) (head : Fin 256) (s : State) : Host.Outcome State Fault Refusal :=
  powered t s <|
  done (pump (wr (arrive t s) Reg.CMD_QP_CQ_HEAD.head head.val q.val))

/-- CMD_QP_CTRL_WRITE (R403). -/
def execCmdQpCtrlWrite (t : Nat) (q : Fin 4) (en : Bool) (s : State) : Host.Outcome State Fault Refusal :=
  powered t s <|
  done (pump (queueControl q.val en (arrive t s)))

/-- CMD_EVR_CFG_WRITE (R417). -/
def execCmdEvrCfgWrite (t : Nat) (r : Fin 2) (data : BitVec 32) (s : State) : Host.Outcome State Fault Refusal :=
  powered t s <|
  done (eventRingControl r.val data.toNat (arrive t s))

/-! ### SPI (R405) -/

/-- SPI_COMMAND_WRITE: the packet taken, or discarded while a command or an unread reply is held or below 20 bytes; nothing is
accepted while spi_en is 0. -/
def spiCommand (d : Bytes) (s : State) : State :=
  if !rdB s Reg.CMD_CTRL.spi_en then s
  else if s.cmd.spiBusy || s.cmd.spiReply.isSome || decide (d.length < 20) then
    bump { s with cmd := { s.cmd with spiDiscarded := true } } Reg.CMD_STAT_SPI_DISCARD.value
  else pump (submit ⟨.spi, d, false⟩ { s with cmd := { s.cmd with spiBusy := true, spiDiscarded := false } })

/-- The packet of an SPI 0x30 transaction; nothing while the core die does not run. -/
def spiCommandOp (d : Bytes) (s : State) : State := if coreOn s then spiCommand d s else s

/-- SPI_REPLY_READ: 0xA5 and the reply, freed once every byte of it has been clocked out; 0x5A where none is ready. -/
def spiReply (clocked : Nat) (s : State) : State :=
  match s.cmd.spiReply with
  | none => emit s (.spi (leBytes 1 0x5A))
  | some r =>
    let s := emit s (.spi (leBytes 1 0xA5 ++ r.take clocked))
    if r.length ≤ clocked then pump { s with cmd := { s.cmd with spiReply := none } } else s

/-- SPI_COMMAND_WRITE. -/
def execSpiCommandWrite (t : Nat) (data : Bytes) (s : State) : Host.Outcome State Fault Refusal :=
  spi t s (data.length - 1) (spiCommandOp data)

/-- SPI_REPLY_READ. -/
def execSpiReplyRead (t : Nat) (clocked : Nat) (s : State) : Host.Outcome State Fault Refusal :=
  spi t s clocked (spiReply clocked)

/-- The command status byte: busy, reply ready, discarded. -/
def spiCommandByte (s : State) : State :=
  emit s (.spi (leBytes 1 (b2n s.cmd.spiBusy + 2 * b2n s.cmd.spiReply.isSome + 4 * b2n s.cmd.spiDiscarded)))

/-- SPI_COMMAND_STATUS. -/
def execSpiCommandStatus (t : Nat) (s : State) : Host.Outcome State Fault Refusal :=
  spi t s 1 spiCommandByte

/-! ### In-band Ethernet (R406–R408) -/

/-- The packet of an in-band payload, where its subtype, key and MAC are right (Table 16.7, R407). -/
def inbandPacket (s : State) (x : Bytes) : Option Bytes :=
  let k := byteAt x 1
  let n := 24 + leAt x 10 2
  let slot := inbandSlot s k
  if byteAt x 0 = 0x43 ∧ k < 2 ∧ slot ≠ 0 ∧ keyCheck s slot 4 = stOk ∧ n + 16 ≤ x.length ∧
      sliceBytes x n 16 = cmac (keyOf s slot) (x.take n) then some (sliceBytes x 4 (n - 4))
  else none

/-- The command of an in-band frame the device has consumed. -/
def inbandCommand (port : Fin 12) (frame : Bytes) (s : State) : State :=
  let tagged := isTagged frame
  let x := frame.drop (if tagged then 18 else 14)
  match inbandPacket s x with
  | none => discardEvent (bump s Reg.CMD_STAT_INB_AUTH.value) 5 4
  | some pkt =>
    let v : Via := .inband port (Fin.ofNat 2 (byteAt x 1)) (leAt frame 6 6) tagged (tci frame % 4096)
    pump (submit ⟨v, pkt, false⟩ s)

/-- INBAND_COMMAND_FRAME: a frame without its FCS, received whole; nothing for one that R406 does not consume, or on a port without
a link. -/
def inbandFrame (port : Fin 12) (frame : Bytes) (s : State) : State :=
  if !isInband s port.val frame || !rdB s Reg.ETH_STATUS.link port.val then s
  else inbandCommand port frame (countRx (mirrorRx s port.val frame (ethStamp s port.val s.now)) port.val frame)

/-- ETH_FRAME_RECEIVED (R206, R406). -/
def execEthFrameReceived (t : Nat) (port : Fin 12) (rx : EthRx) (s : State) : Host.Outcome State Fault Refusal :=
  receiving t s <|
  done (ethReceive port rx (inbandCommand port) (arrive t s))

/-- INBAND_COMMAND_FRAME. -/
def execInbandCommandFrame (t : Nat) (port : Fin 12) (frame : Bytes) (s : State) : Host.Outcome State Fault Refusal :=
  receiving t s <|
  done (inbandFrame port frame (arrive t s))

/-! ### Fabric (R409) -/

/-- FORWARDED_COMMAND, at the target. -/
def forwardedCommand (device : Fin 64) (pkt : Bytes) (s : State) : State :=
  if rdB s Reg.CMD_CTRL.fabric_en then pump (submit ⟨.fabric device, pkt, false⟩ s) else s

/-- The forwarded command a reply from a device answers: its tag, and its origin transport where this device wrote it. -/
def forwardFor (fs : List Forward) (device : Nat) (pkt : Bytes) : Option Forward :=
  fs.find? (fun f => f.target == device && f.call.tag == leAt pkt 4 2 && f.opcode == packetOp pkt &&
    bitsOf f.call.flags 3 2 == bitsOf (byteAt pkt 1) 3 2)

/-- A list without one forward. -/
def withoutForward (f : Forward) (fs : List Forward) : List Forward := fs.filter (fun g => g != f)

/-- FORWARDED_REPLY, at the relay: returned on the command's own transport, or late and discarded. -/
def forwardedReply (device : Nat) (pkt : Bytes) (s : State) : State :=
  let good := pkt.length == 20 + leAt pkt 6 2 && leAt pkt (pkt.length - 4) 4 == crc32c (pkt.take (pkt.length - 4))
  if !good then s
  else
    match forwardFor s.cmd.forwards device pkt with
    | some f =>
      let s := { s with cmd := { s.cmd with forwards := withoutForward f s.cmd.forwards } }
      pump (sendReplyFrom s (byteAt pkt 9) f.opcode f.call (leAt pkt 10 2) (packetParams pkt))
    | none =>
      match forwardFor s.cmd.late device pkt with
      | some f => bump { s with cmd := { s.cmd with late := withoutForward f s.cmd.late } } Reg.CMD_STAT_FWD_LATE.value
      | none => s

/-- The end of a forwarded command without its reply: TIMEOUT after CMD_FWD_TO, FATE_UNKNOWN where the target has stayed unreachable
for TF_LINK_TO since it was forwarded. -/
def forwardTimeout (device tag : Nat) (s : State) : State :=
  match s.cmd.forwards.find? (fun f => f.target == device && f.call.tag == tag) with
  | none => s
  | some f =>
    let gone := { s with cmd := { s.cmd with forwards := withoutForward f s.cmd.forwards } }
    let lost := match Tab.find s.tf.unreachableSince device with
      | some since => !reachable s device && decide (since + rd s Reg.TF_LINK_TO.ms * ms ≤ s.now)
      | none => false
    if f.deadline ≤ s.now then
      let s := { gone with cmd := { gone.cmd with late := gone.cmd.late ++ [f] } }
      let s := raiseIn s Reg.CMD_INT_STATUS.event 0 14 4 (instanceOf f.call.via)
        (leBytes 2 f.opcode ++ leBytes 2 tag ++ leBytes 1 device)
      pump (sendReply s f.opcode f.call stTimeout [])
    else if lost then pump (sendReply gone f.opcode f.call stFateUnknown [])
    else s

/-- FORWARDED_COMMAND (R409). -/
def execForwardedCommand (t : Nat) (device : Fin 64) (packet : Bytes) (s : State) : Host.Outcome State Fault Refusal :=
  receiving t s <|
  done (forwardedCommand device packet (arrive t s))

/-- FORWARDED_REPLY (R409). -/
def execForwardedReply (t : Nat) (device : Fin 64) (packet : Bytes) (s : State) : Host.Outcome State Fault Refusal :=
  receiving t s <|
  done (forwardedReply device.val packet (arrive t s))

/-- FORWARD_TIMEOUT (R409). -/
def execForwardTimeout (t : Nat) (device : Fin 64) (tag : Nat) (s : State) : Host.Outcome State Fault Refusal :=
  running t s <|
  done (forwardTimeout device.val tag (arrive t s))

end Sys2Proof.Machine
end

