-- ==== Sys2Proof/Machine/Dispatch.lean ====
section
/-! DEFINITION. The command dispatched to its meaning, arm by arm. -/

namespace Sys2Proof.Machine

/-- The effect of a command on everything but the queue. -/
def exec (i : Instr) (s : State) : Host.Outcome State Fault Refusal :=
  match i with
  | .registerWrite t addr data => Sys2Proof.Machine.execRegisterWrite t addr data s
  | .rcCounterRead t addr speculative => Sys2Proof.Machine.execRcCounterRead t addr speculative s
  | .syncReceived t port gm offset stepsRemoved => Sys2Proof.Machine.execSyncReceived t port gm offset stepsRemoved s
  | .stepApplied t => Sys2Proof.Machine.execStepApplied t s
  | .residualWithin1us t => Sys2Proof.Machine.execResidualWithin1us t s
  | .syncLoss t => Sys2Proof.Machine.execSyncLoss t s
  | .holdoverLimitExpired t => Sys2Proof.Machine.execHoldoverLimitExpired t s
  | .uncertaintySaturated t => Sys2Proof.Machine.execUncertaintySaturated t s
  | .announceReceived t port a => Sys2Proof.Machine.execAnnounceReceived t port a s
  | .announceReceiptTimeout t port => Sys2Proof.Machine.execAnnounceReceiptTimeout t port s
  | .peerDelayMessage t port m => Sys2Proof.Machine.execPeerDelayMessage t port m s
  | .syncTransmission t port => Sys2Proof.Machine.execSyncTransmission t port s
  | .siSample t si => Sys2Proof.Machine.execSiSample t si s
  | .derateRecompute t => Sys2Proof.Machine.execDerateRecompute t s
  | .plannerLower t => Sys2Proof.Machine.execPlannerLower t s
  | .avsReadback t writes mv status => Sys2Proof.Machine.execAvsReadback t writes mv status s
  | .avsRetry t wrote mv status => Sys2Proof.Machine.execAvsRetry t wrote mv status s
  | .temperatureReading t tenths => Sys2Proof.Machine.execTemperatureReading t tenths s
  | .vreq125Record t microvolts => Sys2Proof.Machine.execVreq125Record t microvolts s
  | .hemReplan t sigma sensitivity microvolts => Sys2Proof.Machine.execHemReplan t sigma sensitivity microvolts s
  | .lifeRecordCheckpoint t cause worn => Sys2Proof.Machine.execLifeRecordCheckpoint t cause worn s
  | .checkpointPeriod t => Sys2Proof.Machine.execCheckpointPeriod t s
  | .lrCtrlCheckpoint t => Sys2Proof.Machine.execLrCtrlCheckpoint t s
  | .lrSnapTake t => Sys2Proof.Machine.execLrSnapTake t s
  | .lrReadPage t c p => Sys2Proof.Machine.execLrReadPage t c p s
  | .lrCheckpoint t c p => Sys2Proof.Machine.execLrCheckpoint t c p s
  | .canCtrlModeWrite t ch mode => Sys2Proof.Machine.execCanCtrlModeWrite t ch mode s
  | .modeChangeAtIdle t ch => Sys2Proof.Machine.execModeChangeAtIdle t ch s
  | .integrationComplete t ch => Sys2Proof.Machine.execIntegrationComplete t ch s
  | .canFrameAccepted t ch rx => Sys2Proof.Machine.execCanFrameAccepted t ch rx s
  | .rxStoreComplete t ch => Sys2Proof.Machine.execRxStoreComplete t ch s
  | .protocolException t ch xl => Sys2Proof.Machine.execProtocolException t ch xl s
  | .selectionPoint g ch intermission taken errors => Sys2Proof.Machine.execSelectionPoint g ch intermission taken errors s
  | .rebuildComplete g ch => Sys2Proof.Machine.execRebuildComplete g ch s
  | .canTransmitComplete t ch sof delay => Sys2Proof.Machine.execCanTransmitComplete t ch sof delay s
  | .arbitrationLost t ch => Sys2Proof.Machine.execArbitrationLost t ch s
  | .canErrorDetected t ch e => Sys2Proof.Machine.execCanErrorDetected t ch e s
  | .busoffHoldoffExpired t ch => Sys2Proof.Machine.execBusoffHoldoffExpired t ch s
  | .busoffRecovery t ch => Sys2Proof.Machine.execBusoffRecovery t ch s
  | .canTxbufReq t ch bits => Sys2Proof.Machine.execCanTxbufReq t ch bits s
  | .canTxqPut t ch slot => Sys2Proof.Machine.execCanTxqPut t ch slot s
  | .canTxbufCancel t ch bits => Sys2Proof.Machine.execCanTxbufCancel t ch bits s
  | .canTxqCancel t ch slot => Sys2Proof.Machine.execCanTxqCancel t ch slot s
  | .canSetMode t c p => Sys2Proof.Machine.execCanSetMode t c p s
  | .canTxEnqueue t c p => Sys2Proof.Machine.execCanTxEnqueue t c p s
  | .canTxCancel t c p => Sys2Proof.Machine.execCanTxCancel t c p s
  | .canGetState t c p => Sys2Proof.Machine.execCanGetState t c p s
  | .canRxfAck t ch fifo index uc => Sys2Proof.Machine.execCanRxfAck t ch fifo index uc s
  | .canTxefAck t ch index uc => Sys2Proof.Machine.execCanTxefAck t ch index uc s
  | .canMbNdClear t ch bits => Sys2Proof.Machine.execCanMbNdClear t ch bits s
  | .hostTxElementWrite t ch offset data => Sys2Proof.Machine.execHostTxElementWrite t ch offset data s
  | .canFltWrite t c p => Sys2Proof.Machine.execCanFltWrite t c p s
  | .canFltRead t c p => Sys2Proof.Machine.execCanFltRead t c p s
  | .cloakIgnoredFrame t ch => Sys2Proof.Machine.execCloakIgnoredFrame t ch s
  | .signalRecordSend t device => Sys2Proof.Machine.execSignalRecordSend t device s
  | .signalRecordReceived g device record => Sys2Proof.Machine.execSignalRecordReceived g device record s
  | .canCopyReceived g device payload => Sys2Proof.Machine.execCanCopyReceived g device payload s
  | .sgTableWrite t c p => Sys2Proof.Machine.execSgTableWrite t c p s
  | .sgTableRead t c p => Sys2Proof.Machine.execSgTableRead t c p s
  | .sgCanrtAdd t c p => Sys2Proof.Machine.execSgCanrtAdd t c p s
  | .sgCanrtDel t c p => Sys2Proof.Machine.execSgCanrtDel t c p s
  | .sgCanrtFind t c p => Sys2Proof.Machine.execSgCanrtFind t c p s
  | .sgSlotRead g c p => Sys2Proof.Machine.execSgSlotRead g c p s
  | .sgSlotWrite g c p => Sys2Proof.Machine.execSgSlotWrite g c p s
  | .sgSlotConfig t c p => Sys2Proof.Machine.execSgSlotConfig t c p s
  | .sgNdClr t slot => Sys2Proof.Machine.execSgNdClr t slot s
  | .cycleInstant t tpl gateway => Sys2Proof.Machine.execCycleInstant t tpl gateway s
  | .minIntervalExpired g tpl => Sys2Proof.Machine.execMinIntervalExpired g tpl s
  | .tokenRefill g ch => Sys2Proof.Machine.execTokenRefill g ch s
  | .sgChrateWrite t ch data => Sys2Proof.Machine.execSgChrateWrite t ch data s
  | .sgTplTrigger g c p => Sys2Proof.Machine.execSgTplTrigger g c p s
  | .sgTplExt t c p => Sys2Proof.Machine.execSgTplExt t c p s
  | .sgAgeQuery g c p => Sys2Proof.Machine.execSgAgeQuery g c p s
  | .acfPduSeal g stream => Sys2Proof.Machine.execAcfPduSeal g stream s
  | .sgMirrorNWrite t ch data => Sys2Proof.Machine.execSgMirrorNWrite t ch data s
  | .ethCfgWrite t port data => Sys2Proof.Machine.execEthCfgWrite t port data s
  | .ethLinkUp t port speed => Sys2Proof.Machine.execEthLinkUp t port speed s
  | .ethLinkDown t port cause receiving => Sys2Proof.Machine.execEthLinkDown t port cause receiving s
  | .ethFrameReceived t port rx => Sys2Proof.Machine.execEthFrameReceived t port rx s
  | .outputFrameStart t out queue2 => Sys2Proof.Machine.execOutputFrameStart t out queue2 s
  | .outputFrameEnd t out underrun => Sys2Proof.Machine.execOutputFrameEnd t out underrun s
  | .gateEntryChange t port => Sys2Proof.Machine.execGateEntryChange t port s
  | .configChangeTime t port => Sys2Proof.Machine.execConfigChangeTime t port s
  | .recoveryResetTimer t fn => Sys2Proof.Machine.execRecoveryResetTimer t fn s
  | .swMirrorNWrite t session data => Sys2Proof.Machine.execSwMirrorNWrite t session data s
  | .octetCounterLoRead t addr wide speculative => Sys2Proof.Machine.execOctetCounterLoRead t addr wide speculative s
  | .ethGclWrite t c p => Sys2Proof.Machine.execEthGclWrite t c p s
  | .ethGclRead t c p => Sys2Proof.Machine.execEthGclRead t c p s
  | .swTableWrite t c p => Sys2Proof.Machine.execSwTableWrite t c p s
  | .swTableRead t c p => Sys2Proof.Machine.execSwTableRead t c p s
  | .learnEngineOperation t => Sys2Proof.Machine.execLearnEngineOperation t s
  | .ageingSweep t => Sys2Proof.Machine.execAgeingSweep t s
  | .quarantineExpired t port => Sys2Proof.Machine.execQuarantineExpired t port s
  | .ftPortQuarRelease t port => Sys2Proof.Machine.execFtPortQuarRelease t port s
  | .ftLockWrite t data => Sys2Proof.Machine.execFtLockWrite t data s
  | .lockHeld t => Sys2Proof.Machine.execLockHeld t s
  | .lockExpired t table => Sys2Proof.Machine.execLockExpired t table s
  | .ftDmaTailWrite t tail => Sys2Proof.Machine.execFtDmaTailWrite t tail s
  | .ftDmaCtrlWrite t en => Sys2Proof.Machine.execFtDmaCtrlWrite t en s
  | .dmaDescriptorComplete t desc data => Sys2Proof.Machine.execDmaDescriptorComplete t desc data s
  | .lpmNodeFree t => Sys2Proof.Machine.execLpmNodeFree t s
  | .ftTableWrite t c p => Sys2Proof.Machine.execFtTableWrite t c p s
  | .ftTableRead t c p => Sys2Proof.Machine.execFtTableRead t c p s
  | .ftL2Add t c p => Sys2Proof.Machine.execFtL2Add t c p s
  | .ftL2Del t c p => Sys2Proof.Machine.execFtL2Del t c p s
  | .ftL2Find t c p => Sys2Proof.Machine.execFtL2Find t c p s
  | .ftL2Flush t c p => Sys2Proof.Machine.execFtL2Flush t c p s
  | .ftLpmAdd t c p => Sys2Proof.Machine.execFtLpmAdd t c p s
  | .ftLpmDel t c p => Sys2Proof.Machine.execFtLpmDel t c p s
  | .ftLpmFind t c p => Sys2Proof.Machine.execFtLpmFind t c p s
  | .frameReady t input early => Sys2Proof.Machine.execFrameReady t input early s
  | .parseDispatch t e mem => Sys2Proof.Machine.execParseDispatch t e mem s
  | .nop e mem => Sys2Proof.Machine.execNop e mem s
  | .add e mem d a b => Sys2Proof.Machine.execAdd e mem d a b s
  | .sub e mem d a b => Sys2Proof.Machine.execSub e mem d a b s
  | .and e mem d a b => Sys2Proof.Machine.execAnd e mem d a b s
  | .or e mem d a b => Sys2Proof.Machine.execOr e mem d a b s
  | .xor e mem d a b => Sys2Proof.Machine.execXor e mem d a b s
  | .shl e mem d a b => Sys2Proof.Machine.execShl e mem d a b s
  | .shr e mem d a b => Sys2Proof.Machine.execShr e mem d a b s
  | .addi e mem d a imm => Sys2Proof.Machine.execAddi e mem d a imm s
  | .andi e mem d a imm => Sys2Proof.Machine.execAndi e mem d a imm s
  | .ori e mem d a imm => Sys2Proof.Machine.execOri e mem d a imm s
  | .xori e mem d a imm => Sys2Proof.Machine.execXori e mem d a imm s
  | .movi e mem d imm => Sys2Proof.Machine.execMovi e mem d imm s
  | .movhi e mem d a imm => Sys2Proof.Machine.execMovhi e mem d a imm s
  | .shli e mem d a pos => Sys2Proof.Machine.execShli e mem d a pos s
  | .shri e mem d a pos => Sys2Proof.Machine.execShri e mem d a pos s
  | .ext e mem d a pos len1 => Sys2Proof.Machine.execExt e mem d a pos len1 s
  | .ins e mem d a pos len1 => Sys2Proof.Machine.execIns e mem d a pos len1 s
  | .ldw e mem d a size off => Sys2Proof.Machine.execLdw e mem d a size off s
  | .setc e mem a off => Sys2Proof.Machine.execSetc e mem a off s
  | .advc e mem a off => Sys2Proof.Machine.execAdvc e mem a off s
  | .getc e mem d => Sys2Proof.Machine.execGetc e mem d s
  | .ldm e mem d m => Sys2Proof.Machine.execLdm e mem d m s
  | .emit e mem m a => Sys2Proof.Machine.execEmit e mem m a s
  | .emitf e mem m a pos len1 => Sys2Proof.Machine.execEmitf e mem m a pos len1 s
  | .lkt e mem d a tbl => Sys2Proof.Machine.execLkt e mem d a tbl s
  | .beq e mem a b target => Sys2Proof.Machine.execBeq e mem a b target s
  | .bne e mem a b target => Sys2Proof.Machine.execBne e mem a b target s
  | .bltu e mem a b target => Sys2Proof.Machine.execBltu e mem a b target s
  | .bgeu e mem a b target => Sys2Proof.Machine.execBgeu e mem a b target s
  | .beqi e mem a imm target => Sys2Proof.Machine.execBeqi e mem a imm target s
  | .bnei e mem a imm target => Sys2Proof.Machine.execBnei e mem a imm target s
  | .bbs e mem a bit target => Sys2Proof.Machine.execBbs e mem a bit target s
  | .bbc e mem a bit target => Sys2Proof.Machine.execBbc e mem a bit target s
  | .jmp e mem target => Sys2Proof.Machine.execJmp e mem target s
  | .end_ e mem => Sys2Proof.Machine.execEnd e mem s
  | .drop e mem code => Sys2Proof.Machine.execDrop e mem code s
  | .rcirc e mem a off => Sys2Proof.Machine.execRcirc e mem a off s
  | .peDbgHalt t => Sys2Proof.Machine.execPeDbgHalt t s
  | .peDbgResume t => Sys2Proof.Machine.execPeDbgResume t s
  | .peDbgStep t mem => Sys2Proof.Machine.execPeDbgStep t mem s
  | .peLoadOpen t c p => Sys2Proof.Machine.execPeLoadOpen t c p s
  | .peLoadChunk t c p => Sys2Proof.Machine.execPeLoadChunk t c p s
  | .peLoadClose t c p => Sys2Proof.Machine.execPeLoadClose t c p s
  | .peBankSwitch t c p => Sys2Proof.Machine.execPeBankSwitch t c p s
  | .bankDrained t bank => Sys2Proof.Machine.execBankDrained t bank s
  | .classificationDecision t input errors => Sys2Proof.Machine.execClassificationDecision t input errors s
  | .clTurnOpen t c p => Sys2Proof.Machine.execClTurnOpen t c p s
  | .clRuleAdd t c p => Sys2Proof.Machine.execClRuleAdd t c p s
  | .clRuleDel t c p => Sys2Proof.Machine.execClRuleDel t c p s
  | .clTurnCommit t c p => Sys2Proof.Machine.execClTurnCommit t c p s
  | .commitInstant t => Sys2Proof.Machine.execCommitInstant t s
  | .drainTimeout t => Sys2Proof.Machine.execDrainTimeout t s
  | .clTurnAbort t c p => Sys2Proof.Machine.execClTurnAbort t c p s
  | .clRuleRead t c p => Sys2Proof.Machine.execClRuleRead t c p s
  | .clMissActWrite t high data => Sys2Proof.Machine.execClMissActWrite t high data s
  | .ternaryScrub t entry uncorrectable => Sys2Proof.Machine.execTernaryScrub t entry uncorrectable s
  | .ckChWrite t c p => Sys2Proof.Machine.execCkChWrite t c p s
  | .ckChRead t c p => Sys2Proof.Machine.execCkChRead t c p s
  | .ckChResync t c p => Sys2Proof.Machine.execCkChResync t c p s
  | .cipherTagVerified t request aad data hold => Sys2Proof.Machine.execCipherTagVerified t request aad data hold s
  | .streamingChunkRelease t request data => Sys2Proof.Machine.execStreamingChunkRelease t request data s
  | .cxKeyLoad t c p => Sys2Proof.Machine.execCxKeyLoad t c p s
  | .cxKeyErase t c p => Sys2Proof.Machine.execCxKeyErase t c p s
  | .cxKeyInfo t c p => Sys2Proof.Machine.execCxKeyInfo t c p s
  | .cxRequest t c p => Sys2Proof.Machine.execCxRequest t c p s
  | .cxVoidReg t c p => Sys2Proof.Machine.execCxVoidReg t c p s
  | .cxVoidUnreg t c p => Sys2Proof.Machine.execCxVoidUnreg t c p s
  | .cxSecpduWrite t c p => Sys2Proof.Machine.execCxSecpduWrite t c p s
  | .cxFvRead t c p => Sys2Proof.Machine.execCxFvRead t c p s
  | .cxFvSet t c p => Sys2Proof.Machine.execCxFvSet t c p s
  | .cxProfileWrite t c p => Sys2Proof.Machine.execCxProfileWrite t c p s
  | .macsecPortCfg t c p => Sys2Proof.Machine.execMacsecPortCfg t c p s
  | .macsecSaInstall t c p => Sys2Proof.Machine.execMacsecSaInstall t c p s
  | .macsecSaCtrl t c p => Sys2Proof.Machine.execMacsecSaCtrl t c p s
  | .tlLinkUp t link => Sys2Proof.Machine.execTlLinkUp t link s
  | .tlLinkDown t link cause => Sys2Proof.Machine.execTlLinkDown t link cause s
  | .protectionApplied t link => Sys2Proof.Machine.execProtectionApplied t link s
  | .destinationUnreachableTimeout t device => Sys2Proof.Machine.execDestinationUnreachableTimeout t device s
  | .fabricFrameReceived t link f crcOk mac => Sys2Proof.Machine.execFabricFrameReceived t link f crcOk mac s
  | .helloTimer t link => Sys2Proof.Machine.execHelloTimer t link s
  | .helloReceived t link h => Sys2Proof.Machine.execHelloReceived t link h s
  | .deviceRecordTimer t => Sys2Proof.Machine.execDeviceRecordTimer t s
  | .deviceRecordReceived t r => Sys2Proof.Machine.execDeviceRecordReceived t r s
  | .deviceRecordExpired t uid => Sys2Proof.Machine.execDeviceRecordExpired t uid s
  | .electionSettled t => Sys2Proof.Machine.execElectionSettled t s
  | .idAssign t uid id status => Sys2Proof.Machine.execIdAssign t uid id status s
  | .routeUpdate t generation flood entries uids => Sys2Proof.Machine.execRouteUpdate t generation flood entries uids s
  | .routeActivate t generation => Sys2Proof.Machine.execRouteActivate t generation s
  | .acknowledge t device code generation status => Sys2Proof.Machine.execAcknowledge t device code generation status s
  | .sleeveClose t pair cause => Sys2Proof.Machine.execSleeveClose t pair cause s
  | .sleeveOpen t pair => Sys2Proof.Machine.execSleeveOpen t pair s
  | .linkKeyOffer t link nonce index refused => Sys2Proof.Machine.execLinkKeyOffer t link nonce index refused s
  | .linkRekeyTimer t link => Sys2Proof.Machine.execLinkRekeyTimer t link s
  | .rraRequest t device r => Sys2Proof.Machine.execRraRequest t device r s
  | .rraResponse t device r => Sys2Proof.Machine.execRraResponse t device r s
  | .postedWriteTimeout t init target tag => Sys2Proof.Machine.execPostedWriteTimeout t init target tag s
  | .npTimeout t init target tag => Sys2Proof.Machine.execNpTimeout t init target tag s
  | .lockReleaseTimeout t => Sys2Proof.Machine.execLockReleaseTimeout t s
  | .tfTopoRead t c p => Sys2Proof.Machine.execTfTopoRead t c p s
  | .tfIdRelease t c p => Sys2Proof.Machine.execTfIdRelease t c p s
  | .tfRouteRead t c p => Sys2Proof.Machine.execTfRouteRead t c p s
  | .tfFence t c p => Sys2Proof.Machine.execTfFence t c p s
  | .tfRra t c p => Sys2Proof.Machine.execTfRra t c p s
  | .tfRekey t c p => Sys2Proof.Machine.execTfRekey t c p s
  | .hostBridgeReset t cause => Sys2Proof.Machine.execHostBridgeReset t cause s
  | .pcieLinkUp t width speed => Sys2Proof.Machine.execPcieLinkUp t width speed s
  | .windowRead r window offset len => Sys2Proof.Machine.execWindowRead r window offset len s
  | .windowWrite t window offset data => Sys2Proof.Machine.execWindowWrite t window offset data s
  | .atomicOp t window offset op operand compare => Sys2Proof.Machine.execAtomicOp t window offset op operand compare s
  | .deferredResultArrival t device r => Sys2Proof.Machine.execDeferredResultArrival t device r s
  | .heldReadExpired t id => Sys2Proof.Machine.execHeldReadExpired t id s
  | .hbRingTailWrite t ring tail descs => Sys2Proof.Machine.execHbRingTailWrite t ring tail descs s
  | .hbRingSizeWrite t ring data => Sys2Proof.Machine.execHbRingSizeWrite t ring data s
  | .spiRegisterWrite t addr data => Sys2Proof.Machine.execSpiRegisterWrite t addr data s
  | .spiRegisterRead r addr words => Sys2Proof.Machine.execSpiRegisterRead r addr words s
  | .spiStatus t => Sys2Proof.Machine.execSpiStatus t s
  | .spiCommandWrite t data => Sys2Proof.Machine.execSpiCommandWrite t data s
  | .spiReplyRead t clocked => Sys2Proof.Machine.execSpiReplyRead t clocked s
  | .spiCommandStatus t => Sys2Proof.Machine.execSpiCommandStatus t s
  | .cmdQpSqTailWrite t q tail subs => Sys2Proof.Machine.execCmdQpSqTailWrite t q tail subs s
  | .cmdQpCqHeadWrite t q head => Sys2Proof.Machine.execCmdQpCqHeadWrite t q head s
  | .cmdQpCtrlWrite t q en => Sys2Proof.Machine.execCmdQpCtrlWrite t q en s
  | .cmdEvrCfgWrite t r data => Sys2Proof.Machine.execCmdEvrCfgWrite t r data s
  | .inbandCommandFrame t port frame => Sys2Proof.Machine.execInbandCommandFrame t port frame s
  | .forwardedCommand t device packet => Sys2Proof.Machine.execForwardedCommand t device packet s
  | .forwardedReply t device packet => Sys2Proof.Machine.execForwardedReply t device packet s
  | .forwardTimeout t device tag => Sys2Proof.Machine.execForwardTimeout t device tag s
  | .sysInfo t c p => Sys2Proof.Machine.execSysInfo t c p s
  | .sysEcho t c p => Sys2Proof.Machine.execSysEcho t c p s
  | .sysNonce t c p => Sys2Proof.Machine.execSysNonce t c p s
  | .sysShutdown t c p => Sys2Proof.Machine.execSysShutdown t c p s
  | .sysRestart t c p => Sys2Proof.Machine.execSysRestart t c p s
  | .sysEventRead t c p => Sys2Proof.Machine.execSysEventRead t c p s
  | .sysEventPush t c p => Sys2Proof.Machine.execSysEventPush t c p s
  | .dominantTimeout t ch recessive => Sys2Proof.Machine.execDominantTimeout t ch recessive s
  | .busWakePattern t ch => Sys2Proof.Machine.execBusWakePattern t ch s
  | .swkDecodedFrame t ch f => Sys2Proof.Machine.execSwkDecodedFrame t ch f s
  | .wakePin t pin level => Sys2Proof.Machine.execWakePin t pin level s
  | .pcieWake t kind => Sys2Proof.Machine.execPcieWake t kind s
  | .ethernetSignalWake t port => Sys2Proof.Machine.execEthernetSignalWake t port s
  | .tyethSignalWake t link => Sys2Proof.Machine.execTyethSignalWake t link s
  | .debugTckWake t => Sys2Proof.Machine.execDebugTckWake t s
  | .nmTimeout t group node => Sys2Proof.Machine.execNmTimeout t group node s
  | .nmPeriod t group => Sys2Proof.Machine.execNmPeriod t group s
  | .wakeHoldExpired t group => Sys2Proof.Machine.execWakeHoldExpired t group s
  | .sleepCommit t group => Sys2Proof.Machine.execSleepCommit t group s
  | .keepAwakeOffender t group => Sys2Proof.Machine.execKeepAwakeOffender t group s
  | .pwrGrpRequest t c p => Sys2Proof.Machine.execPwrGrpRequest t c p s
  | .pwrGrpState t c p => Sys2Proof.Machine.execPwrGrpState t c p s
  | .pwrNodesRead t c p => Sys2Proof.Machine.execPwrNodesRead t c p s
  | .pwrSchedWrite t c p => Sys2Proof.Machine.execPwrSchedWrite t c p s
  | .pwrSchedRead t c p => Sys2Proof.Machine.execPwrSchedRead t c p s
  | .idleEntry t => Sys2Proof.Machine.execIdleEntry t s
  | .lowPowerChoice t => Sys2Proof.Machine.execLowPowerChoice t s
  | .switchOff t => Sys2Proof.Machine.execSwitchOff t s
  | .scheduleWake t index => Sys2Proof.Machine.execScheduleWake t index s
  | .scheduleHoldEnd t index => Sys2Proof.Machine.execScheduleHoldEnd t index s
  | .returnToRun t inputs => Sys2Proof.Machine.execReturnToRun t inputs s
  | .deviceStart t inputs => Sys2Proof.Machine.execDeviceStart t inputs s
  | .startStepTimeout t => Sys2Proof.Machine.execStartStepTimeout t s
  | .startRetry t inputs => Sys2Proof.Machine.execStartRetry t inputs s
  | .slotEraseComplete t slot offset => Sys2Proof.Machine.execSlotEraseComplete t slot offset s
  | .updOpen t c p => Sys2Proof.Machine.execUpdOpen t c p s
  | .updWrite t c p => Sys2Proof.Machine.execUpdWrite t c p s
  | .updClose t c p => Sys2Proof.Machine.execUpdClose t c p s
  | .updPrepare t c p => Sys2Proof.Machine.execUpdPrepare t c p s
  | .updActivate t c p => Sys2Proof.Machine.execUpdActivate t c p s
  | .updAbort t c p => Sys2Proof.Machine.execUpdAbort t c p s
  | .updConfirm t c p => Sys2Proof.Machine.execUpdConfirm t c p s
  | .updRevert t c p => Sys2Proof.Machine.execUpdRevert t c p s
  | .updStatus t c p => Sys2Proof.Machine.execUpdStatus t c p s
  | .updFabBegin t c p => Sys2Proof.Machine.execUpdFabBegin t c p s
  | .updFabMsg t c p => Sys2Proof.Machine.execUpdFabMsg t c p s
  | .fabCommitTimeout t => Sys2Proof.Machine.execFabCommitTimeout t s
  | .fabQueryTimer t => Sys2Proof.Machine.execFabQueryTimer t s
  | .commitAtRestart t => Sys2Proof.Machine.execCommitAtRestart t s
  | .btAltClear t c p => Sys2Proof.Machine.execBtAltClear t c p s
  | .btAltWrite t data => Sys2Proof.Machine.execBtAltWrite t data s
  | .settingsSave t c p => Sys2Proof.Machine.execSettingsSave t c p s
  | .settingsInfo t c p => Sys2Proof.Machine.execSettingsInfo t c p s
  | .extest t pins bits => Sys2Proof.Machine.execExtest t pins bits s
  | .samplePreload t pins bits => Sys2Proof.Machine.execSamplePreload t pins bits s
  | .idcode t => Sys2Proof.Machine.execIdcode t s
  | .dbgAccess t dr => Sys2Proof.Machine.execDbgAccess t dr s
  | .dbgLevel t dr => Sys2Proof.Machine.execDbgLevel t dr s
  | .unlockChal t => Sys2Proof.Machine.execUnlockChal t s
  | .unlockResp t r => Sys2Proof.Machine.execUnlockResp t r s
  | .bypass t bits len => Sys2Proof.Machine.execBypass t bits len s
  | .tapReset t => Sys2Proof.Machine.execTapReset t s
  | .debugSessionExpired t => Sys2Proof.Machine.execDebugSessionExpired t s
  | .cpdbgHalt t p => Sys2Proof.Machine.execCpdbgHalt t p s
  | .cpdbgResume t p => Sys2Proof.Machine.execCpdbgResume t p s
  | .cpdbgStep t p => Sys2Proof.Machine.execCpdbgStep t p s
  | .cpdbgMdataAccess t p write => Sys2Proof.Machine.execCpdbgMdataAccess t p write s
  | .alarm t kind present => Sys2Proof.Machine.execAlarm t kind present s
  | .alarmReset t => Sys2Proof.Machine.execAlarmReset t s
  | .lcInfo t c p => Sys2Proof.Machine.execLcInfo t c p s
  | .lcAdvance t c p => Sys2Proof.Machine.execLcAdvance t c p s
  | .lcReturn t c p => Sys2Proof.Machine.execLcReturn t c p s
  | .lcScrap t c p => Sys2Proof.Machine.execLcScrap t c p s
  | .lcRelock t c p => Sys2Proof.Machine.execLcRelock t c p s
  | .lcVkeyWrite t c p => Sys2Proof.Machine.execLcVkeyWrite t c p s
  | .lcVkeyRevoke t c p => Sys2Proof.Machine.execLcVkeyRevoke t c p s
  | .lcTamperClear t c p => Sys2Proof.Machine.execLcTamperClear t c p s
  | .supplyMonitorCrossing t rail below => Sys2Proof.Machine.execSupplyMonitorCrossing t rail below s
  | .wakeDieReset t below => Sys2Proof.Machine.execWakeDieReset t below s
  | .resetN t low => Sys2Proof.Machine.execResetN t low s
  | .readDeferred t id => Sys2Proof.Machine.execReadDeferred t id s
  | .cipherRequestCompleted t request aad data => Sys2Proof.Machine.execCipherRequestCompleted t request aad data s

end Sys2Proof.Machine
end

