-- ==== Sys2Proof/Machine/Step.lean ====
section
/-! DEFINITION. One step: the command at the front of the queue, run on the rest; and what the block does with nothing waiting. -/

namespace Sys2Proof.Machine

/-- The block with no command waiting goes on with what its transports hold: packets that wait for a free place or a halted
processor, and submission entries (DESIGN CHOICE, assumption 1); with nothing held it stays as it is. -/
def idle (s : State) : Host.Outcome State Fault Refusal :=
  if s.cmd.held.isEmpty && s.cmd.subs.isEmpty then .next s else done (pump s)

/-- One step. -/
def step (s : State) : Host.Outcome State Fault Refusal :=
  match s.pending with
  | [] => idle s
  | c :: rest => exec c { s with pending := rest }

/-- The state with the command that a word spells at the front of its queue. The table gives no bits, so no word spells one and the
state stays as it is (assumption 2). -/
def State.withFetchWord (s : State) (nbits w : Nat) : State :=
  match Sys2Proof.decodeTableWord nbits w with
  | some c => { s with pending := c :: s.pending }
  | none => s

end Sys2Proof.Machine
end

