-- ==== Sys2Proof/Safety.lean ====
section
/-! DEFINITION. The terms the statements about the machine use: what counts as a run, what holds after every command, and what a
command that has no effect leaves. -/

namespace Sys2Proof.Machine

/-- A command runs: it ends in a next state, and in neither a fault nor a refusal. -/
def Runs (o : Host.Outcome State Fault Refusal) : Prop := ∃ u, o = .next u

/-- The interrupt sources noted as pending are those that are pending (R392). -/
def Settled (s : State) : Prop := s.irq = irqMask s

/-- Both memories are in their canonical form. -/
def MemoriesOk (s : State) : Prop := s.mem.wf = true ∧ s.ba.wf = true

/-- Whether two states hold the same but for the counter clock, the interrupt sources noted, the MSI-X messages that follow from
them, and their PBA bits. -/
structure Untouched (s u : State) : Prop where
  regs : u.regs = s.regs
  dt : u.dt = s.dt
  ev : u.ev = s.ev
  mp : u.mp = s.mp
  lr : u.lr = s.lr
  can : u.can = s.can
  mem : u.mem = s.mem
  sg : u.sg = s.sg
  ba : u.ba = s.ba
  cx : u.cx = s.cx
  sw : u.sw = s.sw
  ft : u.ft = s.ft
  pe : u.pe = s.pe
  cl : u.cl = s.cl
  tf : u.tf = s.tf
  hb : { u.hb with pba := s.hb.pba } = s.hb
  cmd : u.cmd = s.cmd
  wk : u.wk = s.wk
  bt : u.bt = s.bt
  lc : u.lc = s.lc
  freeCtr : u.freeCtr = s.freeCtr
  pending : u.pending = s.pending
  out : ∃ vs : List Nat, u.out = s.out ++ vs.map Out.msix

/-- Whether a command of opcode `op` is executed at once: the core die runs, not in RECOVERY, and no processor that executes it is
halted (R401, R454, R481). -/
structure Executes (op : Nat) (c : Call) (s : State) : Prop where
  on : coreOn s = true
  normal : s.bt.record.recovery = false
  cp : cpHalted s op = false
  sp : (needsSp op c && halted s 2) = false

/-- The state in which a command's own effect begins: at its instant, out of Idle (R438). -/
def atWork (t : Nat) (s : State) : State := leaveIdle (tick t s)

/-- The opcodes of the CAN channels, the gateway and the check channels, and PWR_GRP_REQUEST: their rows find every channel brought up
to their instant (R88, R91). -/
def gatewayOps : List Nat :=
  [0x2001, 0x2010, 0x2011, 0x2020, 0x2030, 0x2031, 0x3001, 0x3002, 0x3010, 0x3011, 0x3012, 0x3020, 0x3021, 0x3022, 0x3030, 0x3031,
   0x3032, 0x3040, 0x3041, 0x3042, 0x6001]

/-- The state that a command of opcode `op` finds at its instant. -/
def workOf (op t : Nat) (s : State) : State := if gatewayOps.contains op then channelsSync (atWork t s) else atWork t s

/-- The opcodes after whose answer the channels go on with what it left due (R167). -/
def servedOps : List Nat := [0x2001, 0x2011, 0x3001, 0x3021, 0x3030, 0x6001]

/-- What the channels go on with after an answer, where the opcode leaves them anything. -/
def servedBy (op : Nat) (s : State) : State := if servedOps.contains op then serveAll s else s

/-- The opcodes that send their own replies, before or with what they do (R401): an executed one of these is not among the
statements about answered commands. -/
def ownReplies : List Nat := [0x4051, 0x4052, 0x4053, 0x0005, 0x0020, 0x7005, 0x7008, 0x7011, 0x5011]

/-- The errors that the gateway's memory shows a command packet (R144). -/
def gatewayErrorsOf (i : Instr) : List MemErr :=
  match i with
  | .sgSlotRead g _ _ | .sgSlotWrite g _ _ | .sgTplTrigger g _ _ | .sgAgeQuery g _ _ => g.errors
  | _ => []

/-- The opcodes that only read: they answer from the state and leave it. CAN_GET_STATE shows free values, so it is none. -/
def queries : List Nat :=
  [0x2031, 0x1605, 0x1002, 0x1022, 0x1401, 0x3002, 0x3012, 0x3020, 0x3032, 0x3041, 0x1012, 0x8010, 0x4050, 0x5001,
   0x5003, 0x6002, 0x6003, 0x6011, 0x4003, 0x4021, 0x1421, 0x7009, 0x0002]

/-- The opcodes without parameters. -/
def parameterless : List Nat :=
  [0x4050, 0x4052, 0x4053, 0x4054, 0x4057, 0x0001, 0x0003, 0x7006, 0x7007, 0x7009, 0x8011, 0x1600, 0x1603, 0x1604, 0x7030, 0x7031,
   0x1502]

/-- A ternary entry matches a key: each bit whose care bit is 1 is as the entry's value has it (R278). -/
def matchesKey (r : Bytes) (key : Nat) : Prop := ∀ k, bitSet (Rule.care r) k = true → bitSet key k = bitSet (Rule.value r) k

/-- An entry that a frame of turn `t` and key `key` can be decided by: it is live in that turn, its copy can be read, and it matches
(R282, R286, R292). -/
def Contends (s : State) (t key : Nat) (e : ClEntry) : Prop :=
  e.live t s.cl.current = true ∧ e.broken = false ∧ matchesKey e.rule key

/-- A clear-on-read field that the registers hold: not one of the statistics shown for the rule, policer, recovery function or MACsec
entry that another register selects. -/
def keptAsRegister (f : Fld) : Bool :=
  (liveOf f.addr).all (fun g => decide (g.1 ≠ f)) && decide (f ≠ Reg.CL_HIT_hits.value) &&
    !(decide (0x90604 ≤ f.addr) && decide (f.addr ≤ 0x9063C)) && !(decide (0xF0204 ≤ f.addr) && decide (f.addr ≤ 0xF0218))

/-- Engine `e` has a running pass that its next instruction, of `cost` slots, continues: no matching breakpoint stops it, and it is
within its budget, or its frame is detached (R269, R274, R275). -/
structure PeReady (s : State) (e cost : Nat) : Prop where
  frame : (engineAt s e).frame.isSome = true
  halted : (engineAt s e).halted = false
  waiting : (engineAt s e).waiting = false
  breakpoint : (engineAt s e).pastBp = true ∨ breakpointAt (engineAt s e) = none
  budget : (engineAt s e).detached = true ∨ (engineAt s e).slots + cost ≤ rd s Reg.PE_CTRL.max_slots

/-- General register `a` of an engine as 32 bits. -/
def reg32 (g : Engine) (a : Nat) : BitVec 32 := BitVec.ofNat 32 (g.gr a)

/-- `n` low bits of 1. -/
def ones32 (n : Nat) : BitVec 32 := BitVec.ofNat 32 (2 ^ n - 1)

/-- The engine, what its memory shows (0: no error), the register and the result of an instruction that writes one general register from registers, the cursor and
metadata (Table 10.5). -/
def peResult (i : Instr) (g : Engine) : Option (Fin 24 × Fin 5 × Fin 16 × BitVec 32) :=
  match i with
  | .add e mem d a b => some (e, mem, d, reg32 g a + reg32 g b)
  | .sub e mem d a b => some (e, mem, d, reg32 g a - reg32 g b)
  | .and e mem d a b => some (e, mem, d, reg32 g a &&& reg32 g b)
  | .or e mem d a b => some (e, mem, d, reg32 g a ||| reg32 g b)
  | .xor e mem d a b => some (e, mem, d, reg32 g a ^^^ reg32 g b)
  | .shl e mem d a b => some (e, mem, d, reg32 g a <<< (g.gr b % 32))
  | .shr e mem d a b => some (e, mem, d, reg32 g a >>> (g.gr b % 32))
  | .addi e mem d a imm => some (e, mem, d, reg32 g a + imm.signExtend 32)
  | .andi e mem d a imm => some (e, mem, d, reg32 g a &&& imm.zeroExtend 32)
  | .ori e mem d a imm => some (e, mem, d, reg32 g a ||| imm.zeroExtend 32)
  | .xori e mem d a imm => some (e, mem, d, reg32 g a ^^^ imm.zeroExtend 32)
  | .movi e mem d imm => some (e, mem, d, imm.zeroExtend 32)
  | .movhi e mem d a imm => some (e, mem, d, imm.zeroExtend 32 <<< 16 ||| (reg32 g a &&& 0xFFFF#32))
  | .shli e mem d a pos => some (e, mem, d, reg32 g a <<< pos.val)
  | .shri e mem d a pos => some (e, mem, d, reg32 g a >>> pos.val)
  | .ext e mem d a pos len1 => some (e, mem, d, reg32 g a >>> pos.val &&& ones32 (len1 + 1))
  | .ins e mem d a pos len1 => some (e, mem, d, reg32 g d &&& ~~~(ones32 (len1 + 1) <<< pos.val) |||
      (reg32 g a &&& ones32 (len1 + 1)) <<< pos.val)
  | .getc e mem d => some (e, mem, d, BitVec.ofNat 32 g.c)
  | .ldm e mem d m => some (e, mem, d, BitVec.ofNat 32 (g.m.getD m 0))
  | _ => none

/-- The engine of a branch, what its memory shows, whether it is taken, and its target (Table 10.5). -/
def peBranch (i : Instr) (g : Engine) : Option (Fin 24 × Fin 5 × Bool × Fin 16384) :=
  match i with
  | .beq e mem a b t => some (e, mem, reg32 g a == reg32 g b, t)
  | .bne e mem a b t => some (e, mem, reg32 g a != reg32 g b, t)
  | .bltu e mem a b t => some (e, mem, (reg32 g a).ult (reg32 g b), t)
  | .bgeu e mem a b t => some (e, mem, !(reg32 g a).ult (reg32 g b), t)
  | .beqi e mem a imm t => some (e, mem, reg32 g a == BitVec.ofNat 32 imm, t)
  | .bnei e mem a imm t => some (e, mem, reg32 g a != BitVec.ofNat 32 imm, t)
  | .bbs e mem a bit t => some (e, mem, (reg32 g a).getLsbD bit, t)
  | .bbc e mem a bit t => some (e, mem, !(reg32 g a).getLsbD bit, t)
  | .jmp e mem t => some (e, mem, true, t)
  | _ => none

/-- What a command needs to have its effect. -/
inductive Needs where
  /-- nothing: the wake die and the supplies take it, or it judges for itself -/
  | always
  /-- the debug port or the SPI target, which run with the core die powered and ungated -/
  | port
  /-- the margin planner's hardware loop: the core die ungated, a start in progress from step 3 on included (R52, R60) -/
  | loop
  /-- the gateway's cycle engine: forwarding running, or Doze (R165) -/
  | doze
  /-- the core die running -/
  | coreDie
  /-- forwarding, CAN or the fabric running: the core die, and not in RECOVERY (R454) -/
  | forwarding
  /-- the core die running, and what executes commands (R401) -/
  | command
  deriving DecidableEq, Repr

/-- What each command needs. -/
def needsOf (i : Instr) : Needs :=
  match i with
  | .checkpointPeriod .. | .canFrameAccepted .. | .ethLinkDown .. | .spiStatus .. | .dominantTimeout .. | .busWakePattern ..
  | .swkDecodedFrame .. | .wakePin .. | .pcieWake .. | .ethernetSignalWake .. | .tyethSignalWake .. | .debugTckWake ..
  | .nmTimeout .. | .nmPeriod .. | .wakeHoldExpired .. | .sleepCommit .. | .keepAwakeOffender .. | .switchOff ..
  | .scheduleWake .. | .scheduleHoldEnd .. | .returnToRun .. | .deviceStart .. | .startStepTimeout .. | .startRetry ..
  | .alarm .. | .alarmReset .. | .supplyMonitorCrossing .. | .wakeDieReset .. | .resetN .. => .always
  | .spiRegisterWrite .. | .spiRegisterRead .. | .spiCommandWrite .. | .spiReplyRead .. | .spiCommandStatus .. | .extest ..
  | .samplePreload .. | .idcode .. | .dbgAccess .. | .dbgLevel .. | .unlockChal .. | .unlockResp .. | .bypass ..
  | .tapReset .. | .cpdbgHalt .. | .cpdbgResume .. | .cpdbgStep .. | .cpdbgMdataAccess .. => .port
  | .siSample .. | .derateRecompute .. | .avsReadback .. | .avsRetry .. | .temperatureReading .. => .loop
  | .cycleInstant .. => .doze
  | .registerWrite .. | .rcCounterRead .. | .syncReceived .. | .residualWithin1us .. | .syncLoss ..
  | .holdoverLimitExpired .. | .uncertaintySaturated .. | .announceReceived .. | .announceReceiptTimeout ..
  | .peerDelayMessage .. | .syncTransmission .. | .plannerLower .. | .vreq125Record .. | .hemReplan ..
  | .lifeRecordCheckpoint .. | .lrCtrlCheckpoint .. | .lrSnapTake .. | .cipherTagVerified .. | .streamingChunkRelease ..
  | .hostBridgeReset .. | .pcieLinkUp .. | .windowRead .. | .windowWrite .. | .atomicOp .. | .heldReadExpired ..
  | .hbRingTailWrite .. | .hbRingSizeWrite .. | .cmdQpSqTailWrite .. | .cmdQpCqHeadWrite .. | .cmdQpCtrlWrite ..
  | .cmdEvrCfgWrite .. | .idleEntry .. | .lowPowerChoice .. | .slotEraseComplete .. | .fabCommitTimeout ..
  | .fabQueryTimer .. | .commitAtRestart .. | .btAltWrite .. | .debugSessionExpired .. | .readDeferred ..
  | .cipherRequestCompleted .. => .coreDie
  | .stepApplied .. | .canCtrlModeWrite .. | .modeChangeAtIdle .. | .integrationComplete .. | .rxStoreComplete ..
  | .protocolException .. | .selectionPoint .. | .rebuildComplete .. | .canTransmitComplete .. | .arbitrationLost ..
  | .canErrorDetected .. | .busoffHoldoffExpired .. | .busoffRecovery .. | .canTxbufReq .. | .canTxqPut ..
  | .canTxbufCancel .. | .canTxqCancel .. | .canRxfAck .. | .canTxefAck .. | .canMbNdClear .. | .hostTxElementWrite ..
  | .cloakIgnoredFrame .. | .signalRecordSend .. | .signalRecordReceived .. | .canCopyReceived .. | .sgNdClr ..
  | .minIntervalExpired .. | .tokenRefill .. | .sgChrateWrite .. | .acfPduSeal .. | .sgMirrorNWrite .. | .ethCfgWrite ..
  | .ethLinkUp .. | .ethFrameReceived .. | .outputFrameStart .. | .outputFrameEnd .. | .gateEntryChange ..
  | .configChangeTime .. | .recoveryResetTimer .. | .swMirrorNWrite .. | .octetCounterLoRead .. | .learnEngineOperation ..
  | .ageingSweep .. | .quarantineExpired .. | .ftPortQuarRelease .. | .ftLockWrite .. | .lockHeld .. | .lockExpired ..
  | .ftDmaTailWrite .. | .ftDmaCtrlWrite .. | .dmaDescriptorComplete .. | .lpmNodeFree .. | .frameReady ..
  | .parseDispatch .. | .nop .. | .add .. | .sub .. | .and .. | .or .. | .xor .. | .shl .. | .shr .. | .addi .. | .andi ..
  | .ori .. | .xori .. | .movi .. | .movhi .. | .shli .. | .shri .. | .ext .. | .ins .. | .ldw .. | .setc .. | .advc ..
  | .getc .. | .ldm .. | .emit .. | .emitf .. | .lkt .. | .beq .. | .bne .. | .bltu .. | .bgeu .. | .beqi .. | .bnei ..
  | .bbs .. | .bbc .. | .jmp .. | .end_ .. | .drop .. | .rcirc .. | .peDbgHalt .. | .peDbgResume .. | .peDbgStep ..
  | .bankDrained .. | .classificationDecision .. | .commitInstant .. | .drainTimeout .. | .clMissActWrite ..
  | .ternaryScrub .. | .tlLinkUp .. | .tlLinkDown .. | .protectionApplied .. | .destinationUnreachableTimeout ..
  | .fabricFrameReceived .. | .helloTimer .. | .helloReceived .. | .deviceRecordTimer .. | .deviceRecordReceived ..
  | .deviceRecordExpired .. | .electionSettled .. | .idAssign .. | .routeUpdate .. | .routeActivate .. | .acknowledge ..
  | .sleeveClose .. | .sleeveOpen .. | .linkKeyOffer .. | .linkRekeyTimer .. | .rraRequest .. | .rraResponse ..
  | .postedWriteTimeout .. | .npTimeout .. | .lockReleaseTimeout .. | .deferredResultArrival .. | .inbandCommandFrame ..
  | .forwardedCommand .. | .forwardedReply .. | .forwardTimeout .. => .forwarding
  | .lrReadPage .. | .lrCheckpoint .. | .canSetMode .. | .canTxEnqueue .. | .canTxCancel .. | .canGetState ..
  | .canFltWrite .. | .canFltRead .. | .sgTableWrite .. | .sgTableRead .. | .sgCanrtAdd .. | .sgCanrtDel .. | .sgCanrtFind ..
  | .sgSlotRead .. | .sgSlotWrite .. | .sgSlotConfig .. | .sgTplTrigger .. | .sgTplExt .. | .sgAgeQuery .. | .ethGclWrite ..
  | .ethGclRead .. | .swTableWrite .. | .swTableRead .. | .ftTableWrite .. | .ftTableRead .. | .ftL2Add .. | .ftL2Del ..
  | .ftL2Find .. | .ftL2Flush .. | .ftLpmAdd .. | .ftLpmDel .. | .ftLpmFind .. | .peLoadOpen .. | .peLoadChunk ..
  | .peLoadClose .. | .peBankSwitch .. | .clTurnOpen .. | .clRuleAdd .. | .clRuleDel .. | .clTurnCommit .. | .clTurnAbort ..
  | .clRuleRead .. | .ckChWrite .. | .ckChRead .. | .ckChResync .. | .cxKeyLoad .. | .cxKeyErase .. | .cxKeyInfo ..
  | .cxRequest .. | .cxVoidReg .. | .cxVoidUnreg .. | .cxSecpduWrite .. | .cxFvRead .. | .cxFvSet .. | .cxProfileWrite ..
  | .macsecPortCfg .. | .macsecSaInstall .. | .macsecSaCtrl .. | .tfTopoRead .. | .tfIdRelease .. | .tfRouteRead ..
  | .tfFence .. | .tfRra .. | .tfRekey .. | .sysInfo .. | .sysEcho .. | .sysNonce .. | .sysShutdown .. | .sysRestart ..
  | .sysEventRead .. | .sysEventPush .. | .pwrGrpRequest .. | .pwrGrpState .. | .pwrNodesRead .. | .pwrSchedWrite ..
  | .pwrSchedRead .. | .updOpen .. | .updWrite .. | .updClose .. | .updPrepare .. | .updActivate .. | .updAbort ..
  | .updConfirm .. | .updRevert .. | .updStatus .. | .updFabBegin .. | .updFabMsg .. | .btAltClear .. | .settingsSave ..
  | .settingsInfo .. | .lcInfo .. | .lcAdvance .. | .lcReturn .. | .lcScrap .. | .lcRelock .. | .lcVkeyWrite ..
  | .lcVkeyRevoke .. | .lcTamperClear .. => .command

/-- A command packet's row: its instant, opcode, header and parameters. -/
def commandOf (i : Instr) : Option (Nat × Nat × Call × Bytes) :=
  match i with
  | .lrReadPage t c p => some (t, 0x8010, c, p)
  | .lrCheckpoint t c p => some (t, 0x8011, c, p)
  | .canSetMode t c p => some (t, 0x2001, c, p)
  | .canTxEnqueue t c p => some (t, 0x2010, c, p)
  | .canTxCancel t c p => some (t, 0x2011, c, p)
  | .canGetState t c p => some (t, 0x2020, c, p)
  | .canFltWrite t c p => some (t, 0x2030, c, p)
  | .canFltRead t c p => some (t, 0x2031, c, p)
  | .sgTableWrite t c p => some (t, 0x3001, c, p)
  | .sgTableRead t c p => some (t, 0x3002, c, p)
  | .sgCanrtAdd t c p => some (t, 0x3010, c, p)
  | .sgCanrtDel t c p => some (t, 0x3011, c, p)
  | .sgCanrtFind t c p => some (t, 0x3012, c, p)
  | .sgSlotRead g c p => some (g.t, 0x3020, c, p)
  | .sgSlotWrite g c p => some (g.t, 0x3021, c, p)
  | .sgSlotConfig t c p => some (t, 0x3022, c, p)
  | .sgTplTrigger g c p => some (g.t, 0x3030, c, p)
  | .sgTplExt t c p => some (t, 0x3031, c, p)
  | .sgAgeQuery g c p => some (g.t, 0x3032, c, p)
  | .ethGclWrite t c p => some (t, 0x1400, c, p)
  | .ethGclRead t c p => some (t, 0x1401, c, p)
  | .swTableWrite t c p => some (t, 0x1420, c, p)
  | .swTableRead t c p => some (t, 0x1421, c, p)
  | .ftTableWrite t c p => some (t, 0x1001, c, p)
  | .ftTableRead t c p => some (t, 0x1002, c, p)
  | .ftL2Add t c p => some (t, 0x1010, c, p)
  | .ftL2Del t c p => some (t, 0x1011, c, p)
  | .ftL2Find t c p => some (t, 0x1012, c, p)
  | .ftL2Flush t c p => some (t, 0x1013, c, p)
  | .ftLpmAdd t c p => some (t, 0x1020, c, p)
  | .ftLpmDel t c p => some (t, 0x1021, c, p)
  | .ftLpmFind t c p => some (t, 0x1022, c, p)
  | .peLoadOpen t c p => some (t, 0x1500, c, p)
  | .peLoadChunk t c p => some (t, 0x1501, c, p)
  | .peLoadClose t c p => some (t, 0x1502, c, p)
  | .peBankSwitch t c p => some (t, 0x1503, c, p)
  | .clTurnOpen t c p => some (t, 0x1600, c, p)
  | .clRuleAdd t c p => some (t, 0x1601, c, p)
  | .clRuleDel t c p => some (t, 0x1602, c, p)
  | .clTurnCommit t c p => some (t, 0x1603, c, p)
  | .clTurnAbort t c p => some (t, 0x1604, c, p)
  | .clRuleRead t c p => some (t, 0x1605, c, p)
  | .ckChWrite t c p => some (t, 0x3040, c, p)
  | .ckChRead t c p => some (t, 0x3041, c, p)
  | .ckChResync t c p => some (t, 0x3042, c, p)
  | .cxKeyLoad t c p => some (t, 0x4001, c, p)
  | .cxKeyErase t c p => some (t, 0x4002, c, p)
  | .cxKeyInfo t c p => some (t, 0x4003, c, p)
  | .cxRequest t c p => some (t, 0x4010, c, p)
  | .cxVoidReg t c p => some (t, 0x4011, c, p)
  | .cxVoidUnreg t c p => some (t, 0x4012, c, p)
  | .cxSecpduWrite t c p => some (t, 0x4020, c, p)
  | .cxFvRead t c p => some (t, 0x4021, c, p)
  | .cxFvSet t c p => some (t, 0x4022, c, p)
  | .cxProfileWrite t c p => some (t, 0x4030, c, p)
  | .macsecPortCfg t c p => some (t, 0x4040, c, p)
  | .macsecSaInstall t c p => some (t, 0x4041, c, p)
  | .macsecSaCtrl t c p => some (t, 0x4042, c, p)
  | .tfTopoRead t c p => some (t, 0x5001, c, p)
  | .tfIdRelease t c p => some (t, 0x5002, c, p)
  | .tfRouteRead t c p => some (t, 0x5003, c, p)
  | .tfFence t c p => some (t, 0x5010, c, p)
  | .tfRra t c p => some (t, 0x5011, c, p)
  | .tfRekey t c p => some (t, 0x5020, c, p)
  | .sysInfo t c p => some (t, 0x0001, c, p)
  | .sysEcho t c p => some (t, 0x0002, c, p)
  | .sysNonce t c p => some (t, 0x0003, c, p)
  | .sysShutdown t c p => some (t, 0x0004, c, p)
  | .sysRestart t c p => some (t, 0x0005, c, p)
  | .sysEventRead t c p => some (t, 0x0006, c, p)
  | .sysEventPush t c p => some (t, 0x0020, c, p)
  | .pwrGrpRequest t c p => some (t, 0x6001, c, p)
  | .pwrGrpState t c p => some (t, 0x6002, c, p)
  | .pwrNodesRead t c p => some (t, 0x6003, c, p)
  | .pwrSchedWrite t c p => some (t, 0x6010, c, p)
  | .pwrSchedRead t c p => some (t, 0x6011, c, p)
  | .updOpen t c p => some (t, 0x7001, c, p)
  | .updWrite t c p => some (t, 0x7002, c, p)
  | .updClose t c p => some (t, 0x7003, c, p)
  | .updPrepare t c p => some (t, 0x7004, c, p)
  | .updActivate t c p => some (t, 0x7005, c, p)
  | .updAbort t c p => some (t, 0x7006, c, p)
  | .updConfirm t c p => some (t, 0x7007, c, p)
  | .updRevert t c p => some (t, 0x7008, c, p)
  | .updStatus t c p => some (t, 0x7009, c, p)
  | .updFabBegin t c p => some (t, 0x7010, c, p)
  | .updFabMsg t c p => some (t, 0x7011, c, p)
  | .btAltClear t c p => some (t, 0x7020, c, p)
  | .settingsSave t c p => some (t, 0x7030, c, p)
  | .settingsInfo t c p => some (t, 0x7031, c, p)
  | .lcInfo t c p => some (t, 0x4050, c, p)
  | .lcAdvance t c p => some (t, 0x4051, c, p)
  | .lcReturn t c p => some (t, 0x4052, c, p)
  | .lcScrap t c p => some (t, 0x4053, c, p)
  | .lcRelock t c p => some (t, 0x4054, c, p)
  | .lcVkeyWrite t c p => some (t, 0x4055, c, p)
  | .lcVkeyRevoke t c p => some (t, 0x4056, c, p)
  | .lcTamperClear t c p => some (t, 0x4057, c, p)
  | .checkpointPeriod .. | .canFrameAccepted .. | .ethLinkDown .. | .spiStatus .. | .dominantTimeout .. | .busWakePattern ..
  | .swkDecodedFrame .. | .wakePin .. | .pcieWake .. | .ethernetSignalWake .. | .tyethSignalWake .. | .debugTckWake ..
  | .nmTimeout .. | .nmPeriod .. | .wakeHoldExpired .. | .sleepCommit .. | .keepAwakeOffender .. | .switchOff ..
  | .scheduleWake .. | .scheduleHoldEnd .. | .returnToRun .. | .deviceStart .. | .startStepTimeout .. | .startRetry ..
  | .alarm .. | .alarmReset .. | .supplyMonitorCrossing .. | .wakeDieReset .. | .resetN .. => none
  | .spiRegisterWrite .. | .spiRegisterRead .. | .spiCommandWrite .. | .spiReplyRead .. | .spiCommandStatus .. | .extest ..
  | .samplePreload .. | .idcode .. | .dbgAccess .. | .dbgLevel .. | .unlockChal .. | .unlockResp .. | .bypass ..
  | .tapReset .. | .cpdbgHalt .. | .cpdbgResume .. | .cpdbgStep .. | .cpdbgMdataAccess .. => none
  | .siSample .. | .derateRecompute .. | .avsReadback .. | .avsRetry .. | .temperatureReading .. => none
  | .cycleInstant .. => none
  | .registerWrite .. | .rcCounterRead .. | .syncReceived .. | .residualWithin1us .. | .syncLoss ..
  | .holdoverLimitExpired .. | .uncertaintySaturated .. | .announceReceived .. | .announceReceiptTimeout ..
  | .peerDelayMessage .. | .syncTransmission .. | .plannerLower .. | .vreq125Record .. | .hemReplan ..
  | .lifeRecordCheckpoint .. | .lrCtrlCheckpoint .. | .lrSnapTake .. | .cipherTagVerified .. | .streamingChunkRelease ..
  | .hostBridgeReset .. | .pcieLinkUp .. | .windowRead .. | .windowWrite .. | .atomicOp .. | .heldReadExpired ..
  | .hbRingTailWrite .. | .hbRingSizeWrite .. | .cmdQpSqTailWrite .. | .cmdQpCqHeadWrite .. | .cmdQpCtrlWrite ..
  | .cmdEvrCfgWrite .. | .idleEntry .. | .lowPowerChoice .. | .slotEraseComplete .. | .fabCommitTimeout ..
  | .fabQueryTimer .. | .commitAtRestart .. | .btAltWrite .. | .debugSessionExpired .. | .readDeferred ..
  | .cipherRequestCompleted .. => none
  | .stepApplied .. | .canCtrlModeWrite .. | .modeChangeAtIdle .. | .integrationComplete .. | .rxStoreComplete ..
  | .protocolException .. | .selectionPoint .. | .rebuildComplete .. | .canTransmitComplete .. | .arbitrationLost ..
  | .canErrorDetected .. | .busoffHoldoffExpired .. | .busoffRecovery .. | .canTxbufReq .. | .canTxqPut ..
  | .canTxbufCancel .. | .canTxqCancel .. | .canRxfAck .. | .canTxefAck .. | .canMbNdClear .. | .hostTxElementWrite ..
  | .cloakIgnoredFrame .. | .signalRecordSend .. | .signalRecordReceived .. | .canCopyReceived .. | .sgNdClr ..
  | .minIntervalExpired .. | .tokenRefill .. | .sgChrateWrite .. | .acfPduSeal .. | .sgMirrorNWrite .. | .ethCfgWrite ..
  | .ethLinkUp .. | .ethFrameReceived .. | .outputFrameStart .. | .outputFrameEnd .. | .gateEntryChange ..
  | .configChangeTime .. | .recoveryResetTimer .. | .swMirrorNWrite .. | .octetCounterLoRead .. | .learnEngineOperation ..
  | .ageingSweep .. | .quarantineExpired .. | .ftPortQuarRelease .. | .ftLockWrite .. | .lockHeld .. | .lockExpired ..
  | .ftDmaTailWrite .. | .ftDmaCtrlWrite .. | .dmaDescriptorComplete .. | .lpmNodeFree .. | .frameReady ..
  | .parseDispatch .. | .nop .. | .add .. | .sub .. | .and .. | .or .. | .xor .. | .shl .. | .shr .. | .addi .. | .andi ..
  | .ori .. | .xori .. | .movi .. | .movhi .. | .shli .. | .shri .. | .ext .. | .ins .. | .ldw .. | .setc .. | .advc ..
  | .getc .. | .ldm .. | .emit .. | .emitf .. | .lkt .. | .beq .. | .bne .. | .bltu .. | .bgeu .. | .beqi .. | .bnei ..
  | .bbs .. | .bbc .. | .jmp .. | .end_ .. | .drop .. | .rcirc .. | .peDbgHalt .. | .peDbgResume .. | .peDbgStep ..
  | .bankDrained .. | .classificationDecision .. | .commitInstant .. | .drainTimeout .. | .clMissActWrite ..
  | .ternaryScrub .. | .tlLinkUp .. | .tlLinkDown .. | .protectionApplied .. | .destinationUnreachableTimeout ..
  | .fabricFrameReceived .. | .helloTimer .. | .helloReceived .. | .deviceRecordTimer .. | .deviceRecordReceived ..
  | .deviceRecordExpired .. | .electionSettled .. | .idAssign .. | .routeUpdate .. | .routeActivate .. | .acknowledge ..
  | .sleeveClose .. | .sleeveOpen .. | .linkKeyOffer .. | .linkRekeyTimer .. | .rraRequest .. | .rraResponse ..
  | .postedWriteTimeout .. | .npTimeout .. | .lockReleaseTimeout .. | .deferredResultArrival .. | .inbandCommandFrame ..
  | .forwardedCommand .. | .forwardedReply .. | .forwardTimeout .. => none

end Sys2Proof.Machine
end

