-- ==== Sys2Proof/Certificates/Slice0/Obligations.lean ====
section
/-! DEFINITION. The statements for the provers, from the numbered rules: the machine's step and reset, what each family of commands
does and leaves, and for every command where it completes with its own effect. -/

open Sys2Proof Sys2Proof.Machine

/-- A step takes the command at the front of the queue and runs it on the queue's rest. -/
def Obligations.StepTakesFront : Prop :=
  ∀ (c : Instr) (rest : List Instr) (s : State), s.pending = c :: rest → step s = exec c { s with pending := rest }

/-- With nothing waiting the block stands still; where its transports hold packets or entries, they go on. What it does on an empty
queue is the model's choice (assumption 1). -/
def Obligations.EmptyQueueIdles : Prop :=
  (∀ s : State, s.pending = [] → s.cmd.held = [] → s.cmd.subs = [] → step s = .next s) ∧
  (∀ s : State, s.pending = [] → s.cmd.held ≠ [] ∨ s.cmd.subs ≠ [] → step s = .next (settle (pump s)))

/-- What reset leaves: DT 0 in epoch 0 and FREE_UNSYNC (R15, R25), 900 mV (R50), turn 0 (R291), every CAN channel in INIT, nothing
pending, and both memories in canonical form. -/
def Obligations.ResetState : Prop :=
  Settled State.reset ∧ MemoriesOk State.reset ∧ State.reset.pending = [] ∧ dtNow State.reset = 0 ∧
  rd State.reset Reg.DT_STATUS.state = 0 ∧ rd State.reset Reg.DT_STATUS.epoch = 0 ∧ epochAt State.reset 0 = 0 ∧
  rd State.reset Reg.MP_STATUS.vdd_cmd_mv = 900 ∧ State.reset.cl.current = 0 ∧ (∀ n : Fin 64, canMode State.reset n = 0) ∧
  coreOn State.reset = true

/-- Every command ends in a next state, whatever the state it finds, and the interrupt sources noted there are the pending ones. -/
def Obligations.EveryCommandRuns : Prop :=
  ∀ (i : Instr) (s : State), ∃ u, exec i s = .next u ∧ Settled u

/-- Every step keeps the interrupt sources noted equal to those that are pending. -/
def Obligations.StepKeepsSettled : Prop :=
  ∀ s u : State, Settled s → step s = .next u → Settled u

/-- While the core die does not run, no command that needs it changes anything; nor, while it is gated or without power, one of the
planner's loop, nor, while it has no power, one of the gateway's cycles. -/
def Obligations.CoreOffNothingHappens : Prop :=
  ∀ (i : Instr) (s : State),
    ((needsOf i = .coreDie ∨ needsOf i = .forwarding ∨ needsOf i = .command) ∧ coreOn s = false) ∨
      (needsOf i = .loop ∧ loopOn s = false) ∨ (needsOf i = .doze ∧ diePowered s = false) →
    ∃ u, exec i s = .next u ∧ Untouched s u ∧ s.now ≤ u.now

/-- In RECOVERY forwarding, CAN, the fabric and the gateway's cycles do not run. -/
def Obligations.RecoveryStopsForwarding : Prop :=
  ∀ (i : Instr) (s : State), needsOf i = .forwarding ∨ needsOf i = .doze → s.bt.record.recovery = true →
    ∃ u, exec i s = .next u ∧ Untouched s u ∧ s.now ≤ u.now

/-- In RECOVERY a command other than those the SP ROM executes replies DENIED on queue pair 0 and on SPI, and has no effect on any
other transport. -/
def Obligations.RecoveryDeniesCommands : Prop :=
  (∀ (i : Instr) (t op : Nat) (c : Call) (p : Bytes) (s : State), commandOf i = some (t, op, c, p) → coreOn s = true →
    s.bt.record.recovery = true → recoveryVia c.via = true → op ∉ recoveryOps →
    exec i s = .next (settle (sendReply (tick t s) op c stDenied []))) ∧
  (∀ (i : Instr) (t op : Nat) (c : Call) (p : Bytes) (s : State), commandOf i = some (t, op, c, p) → coreOn s = true →
    s.bt.record.recovery = true → recoveryVia c.via = false → ∃ u, exec i s = .next u ∧ Untouched s u)

/-- A command that a halted processor would execute waits, unanswered and with no effect. -/
def Obligations.HaltedProcessorHolds : Prop :=
  ∀ (i : Instr) (t op : Nat) (c : Call) (p : Bytes) (s : State), commandOf i = some (t, op, c, p) → coreOn s = true →
    s.bt.record.recovery = false → cpHalted s op = true ∨ (needsSp op c && halted s 2) = true →
    ∃ u, exec i s = .next u ∧ Untouched { s with cmd := { s.cmd with
      held := s.cmd.held ++ [⟨c.via, packet c.flags op c.tag c.dst c.src 0 c.seq p, true⟩] } } u

/-- A command that executes is answered: its reply is put out, or it stands among the commands that reply later. What its answer
leaves the channels to go on with follows. -/
def Obligations.CommandsAnswered : Prop :=
  ∀ (i : Instr) (t op : Nat) (c : Call) (p : Bytes) (s : State), commandOf i = some (t, op, c, p) → op ∉ ownReplies →
    gatewayErrorsOf i = [] → Executes op c (tick t s) →
    ∃ w, exec i s = .next (settle (servedBy op w)) ∧
      ((∃ st r, Out.reply op c st r ∈ w.out) ∨ ∃ l ∈ w.cmd.long, l.opcode = op ∧ l.call = c)

/-- The reading commands change nothing but what their reply changes: memories, tables and every block stand as the command finds
them at its instant, and, for those that find nothing brought up first, as they were. -/
def Obligations.QueriesOnlyAnswer : Prop :=
  ∀ (i : Instr) (t op : Nat) (c : Call) (p : Bytes) (s : State), commandOf i = some (t, op, c, p) → op ∈ queries →
    gatewayErrorsOf i = [] → Executes op c (tick t s) →
    ∃ st r u, exec i s = .next u ∧ u = settle (sendReply (workOf op t s) op c st r) ∧
      (∀ v, v = workOf op t s ∨ (gatewayOps.contains op = false ∧ v = s) →
        (∀ a, Memory.read u.mem a = Memory.read v.mem a) ∧ (∀ a, Memory.read u.ba a = Memory.read v.ba a) ∧
        u.can = v.can ∧ u.sg = v.sg ∧ u.cx = v.cx ∧ u.sw = v.sw ∧ u.ft = v.ft ∧ u.pe = v.pe ∧ u.cl = v.cl ∧ u.bt = v.bt ∧
        u.wk = v.wk ∧ u.lc = v.lc ∧ u.dt = v.dt ∧ u.ev = v.ev ∧ u.mp = v.mp)

/-- An opcode without parameters replies BAD_LENGTH to any, and has no other effect. -/
def Obligations.NoParametersWanted : Prop :=
  ∀ (i : Instr) (t op : Nat) (c : Call) (p : Bytes) (s : State), commandOf i = some (t, op, c, p) → op ∈ parameterless →
    Executes op c (tick t s) → p ≠ [] → exec i s = .next (settle (sendReply (atWork t s) op c stBadLength []))

/-- Reserved bits of a register read as 0; a reserved offset reads as 0 and ignores writes, unless it belongs to an area that shows a
block's state. -/
def Obligations.ReservedReadsZero : Prop :=
  (∀ (s : State) (a k : Nat) (r : RegDef) (i j : Nat), areaWord s a = none → shadowWord s a = none →
    regAt a = some (r, i, j) → (∀ p ∈ r.parts, ¬(p.lo ≤ k ∧ k < p.lo + p.len)) → bitSet (readWord s a) k = false) ∧
  (∀ (t a : Nat) (w : BitVec 32) (speculative : Bool) (s : State), coreOn s = true → (arrive t s).tf.lock = none →
    a < 0x160000 → a % 4 = 0 → regAt a = none → areaWord (arrive t s) a = none → shadowWord (arrive t s) a = none →
    exec (.registerWrite t a w) s = .next (settle (serveAll (arrive t s))) ∧
    exec (.rcCounterRead t a speculative) s = .next (settle (emit (arrive t s) (.pcieCompletion 16 0 (zeros 4)))))

/-- A 32-bit clear-on-read counter that is a register of its own: a read shows it and clears it, a speculative read only shows it. -/
def Obligations.ClearOnRead : Prop :=
  ∀ (t a : Nat) (s : State) (r : RegDef) (i j : Nat) (f : Fld), coreOn s = true → (arrive t s).tf.lock = none →
    a < 0x160000 → a % 4 = 0 → areaWord (arrive t s) a = none → shadowWord (arrive t s) a = none → octetCounter a = none →
    regAt a = some (r, i, j) → r.parts = [⟨0, 32, f, 0⟩] → f.acc = .rc → f.len = 32 → keptAsRegister f = true →
    (∃ u, exec (.rcCounterRead t a false) s = .next u ∧ rd u f i j = 0 ∧
      Out.pcieCompletion 16 0 (leBytes 4 (rd (arrive t s) f i j)) ∈ u.out) ∧
    (∃ u, exec (.rcCounterRead t a true) s = .next u ∧ rd u f i j = rd (arrive t s) f i j ∧
      Out.pcieCompletion 16 0 (leBytes 4 (rd (arrive t s) f i j)) ∈ u.out)

/-- A register of read-only fields ignores writes. -/
def Obligations.ReadOnlyIgnoresWrites : Prop :=
  ∀ (t a : Nat) (w : BitVec 32) (s : State) (r : RegDef) (i j : Nat), coreOn s = true → (arrive t s).tf.lock = none →
    a < 0x160000 → a % 4 = 0 → regAt a = some (r, i, j) →
    (∀ p ∈ r.parts, p.fld.acc = .ro ∨ p.fld.acc = .rv ∨ p.fld.acc = .rc) →
    exec (.registerWrite t a w) s = .next (settle (serveAll (arrive t s)))

/-- A register instruction of a parse engine writes its result, computed on 32 bits, into g[d] (nothing into g0), takes one slot and
leads to the next word; every other engine, the memories, the tables and every other register stand. -/
def Obligations.PeRegisterResults : Prop :=
  ∀ (i : Instr) (e : Fin 24) (d : Fin 16) (v : BitVec 32) (s : State), peResult i (engineAt s e) = some (e, 0, d, v) →
    operating s = true → PeReady s e 1 →
    ∃ u, exec i s = .next u ∧
      engineAt u e = { (if d.val = 0 then engineAt s e else { engineAt s e with g := setNth (engineAt s e).g d v.toNat }) with
        slots := (engineAt s e).slots + 1
        pc := ((engineAt s e).pc + 1) % 16384
        pastBp := false } ∧
      ((engineAt s e).g.length = 16 → reg32 (engineAt u e) d = if d.val = 0 then 0#32 else v) ∧
      (∀ x, x ≠ e.val → engineAt u x = engineAt s x) ∧ { u.pe with engines := s.pe.engines } = s.pe ∧
      rd u Reg.PE_STAT_SLOTS.value = min (rd s Reg.PE_STAT_SLOTS.value + 1) (2 ^ 32 - 1) ∧
      (∀ f i j, f.key i j ≠ Reg.PE_STAT_SLOTS.value.key 0 0 → rd u f i j = rd s f i j) ∧
      (∀ a, Memory.read u.mem a = Memory.read s.mem a) ∧ (∀ a, Memory.read u.ba a = Memory.read s.ba a) ∧
      u.sw = s.sw ∧ u.ft = s.ft ∧ u.cl = s.cl ∧ u.cmd = s.cmd ∧ u.now = s.now

/-- A branch of a parse engine: taken, two slots and its target; not taken, one slot and the next word. -/
def Obligations.PeBranches : Prop :=
  ∀ (i : Instr) (e : Fin 24) (target : Fin 16384) (taken : Bool) (s : State),
    peBranch i (engineAt s e) = some (e, 0, taken, target) → operating s = true → PeReady s e 2 →
    ∃ u, exec i s = .next u ∧
      engineAt u e = { engineAt s e with
        slots := (engineAt s e).slots + (if taken then 2 else 1)
        pc := if taken then target.val else ((engineAt s e).pc + 1) % 16384
        pastBp := false } ∧
      (∀ x, x ≠ e.val → engineAt u x = engineAt s x) ∧ u.mem = s.mem ∧ u.sw = s.sw ∧ u.now = s.now

/-- The window of a pass is the first min(L, 256) bytes of its frame; LDW reads 0 for a byte beyond it, and flags and counts the
read. -/
def Obligations.PeWindow : Prop :=
  (∀ (s : State) (e id : Nat) (f : CoreFrame), (engineAt (startPass s e id f) e).window = (f.data ++ f.fcs).take (min f.len 256)) ∧
  (∀ (g : Engine) (a : Nat), g.window.length ≤ a % 2 ^ 32 → g.byteAt a = 0) ∧
  (∀ (e : Fin 24) (d a : Fin 16) (size : Fin 3) (off : Fin 1024) (s : State), operating s = true → PeReady s e 1 →
    ∃ u, exec (.ldw e 0 d a size off) s = .next u ∧
      (engineAt u e).g = ((engineAt s e).setG d ((engineAt s e).load ((engineAt s e).c + (engineAt s e).gr a + off.val)
        (2 ^ size.val))).g ∧
      (engineAt u e).m = (if (engineAt s e).beyond ((engineAt s e).c + (engineAt s e).gr a + off.val) (2 ^ size.val)
        then ((engineAt s e).flag 8).m else (engineAt s e).m) ∧
      rd u Reg.PE_STAT_WIN_OVER.value = min (rd s Reg.PE_STAT_WIN_OVER.value +
        b2n ((engineAt s e).beyond ((engineAt s e).c + (engineAt s e).gr a + off.val) (2 ^ size.val))) (2 ^ 32 - 1))

/-- The entry that decides a frame: of those that match, are live in its turn and whose copy can be read, the one of highest priority,
the lower rule ID among equals; the miss action of its turn where there is none, and always while CL_CTRL.en is 0. -/
def Obligations.RuleThatDecides : Prop :=
  ∀ (s : State) (t key : Nat),
    (rdB s Reg.CL_CTRL.en = false → chosenAction s t (consulted s t key) = missOf s t) ∧
    (rdB s Reg.CL_CTRL.en = true →
      ((∀ x ∈ s.cl.entries, ¬ Contends s t key x.2) → chosenAction s t (consulted s t key) = missOf s t) ∧
      ((∃ x ∈ s.cl.entries, Contends s t key x.2) →
        ∃ x ∈ s.cl.entries, Contends s t key x.2 ∧ chosenAction s t (consulted s t key) = Rule.action x.2.rule ∧
          ∀ y ∈ s.cl.entries, Contends s t key y.2 →
            Rule.priority y.2.rule < Rule.priority x.2.rule ∨
              (Rule.priority y.2.rule = Rule.priority x.2.rule ∧ Rule.id x.2.rule ≤ Rule.id y.2.rule)))

/-- The ageing sweep removes a dynamic entry whose age has reached age_s, keeps every static one, and removes none with age_s 0 or
while table 20 is locked. -/
def Obligations.AgeingSweep : Prop :=
  ∀ (t : Nat) (s v : State), operating s = true → v = arrive t s → Tab.risesFrom none v.ft.l2 = true →
    ∃ u, exec (.ageingSweep t) s = .next u ∧
      (∀ i e, Tab.find v.ft.l2 i = some e → L2.valid e = true →
        ((Tab.find u.ft.l2 i = none) ↔
          (L2.static e = false ∧ rd v Reg.FT_AGE_CFG.age_s ≠ 0 ∧ l2Locked v = false ∧
            rd v Reg.FT_AGE_CFG.age_s ≤ (v.now / sec + 65536 - L2.lastSeen e) % 65536))) ∧
      (∀ i, Tab.find v.ft.l2 i = none → Tab.find u.ft.l2 i = none) ∧
      (∀ a, Memory.read u.mem a = Memory.read v.mem a) ∧ (∀ a, Memory.read u.ba a = Memory.read v.ba a) ∧
      u.sw = v.sw ∧ u.pe = v.pe ∧ u.cl = v.cl ∧ u.sg = v.sg ∧ u.cx = v.cx

/-- FT_LOCK_WRITE while no learning request waits: bits of tables other than 20 are held at once, bits written 0 are held no more, and
the lock of table 20 waits for the learning engine. -/
def Obligations.TableLocks : Prop :=
  ∀ (t : Nat) (w : BitVec 32) (s v : State), operating s = true → v = arrive t s → v.ft.learnQ = [] →
    ∃ u, exec (.ftLockWrite t w) s = .next u ∧ rd u Reg.FT_LOCK.req = w.toNat ∧
      (∀ k : Fin 32, k.val ≠ 20 → bitSet (rd u Reg.FT_LOCK_HELD.held) k = bitSet w.toNat k) ∧
      bitSet (rd u Reg.FT_LOCK_HELD.held) 20 = (bitSet w.toNat 20 && bitSet (rd v Reg.FT_LOCK_HELD.held) 20) ∧
      { u.ft with lockedAt := v.ft.lockedAt } = v.ft ∧ u.mem = v.mem ∧ u.sw = v.sw ∧ u.cl = v.cl

/-- SG_ND_CLR clears the slot's nd and leaves every other slot, every table and both memories as they were. -/
def Obligations.SlotNdClear : Prop :=
  ∀ (t : Nat) (n : Fin 65536) (s v : State), operating s = true → v = arrive t s →
    ∃ u, exec (.sgNdClr t n) s = .next u ∧ slotOf u n = { slotOf v n with nd := false } ∧
      (∀ m, m ≠ n.val → slotOf u m = slotOf v m) ∧ { u.sg with slots := v.sg.slots } = v.sg ∧
      (∀ a, Memory.read u.mem a = Memory.read v.mem a) ∧ (∀ a, Memory.read u.ba a = Memory.read v.ba a) ∧
      u.regs = v.regs ∧ u.can = v.can ∧ u.sw = v.sw ∧ u.ft = v.ft ∧ u.cx = v.cx

/-- A host write into CAN message memory: one that is not of 1, 2, 4 or 8 naturally aligned bytes is ignored; one outside every region
stores its bytes and no other; one into a region other than the transmit elements stores nothing. -/
def Obligations.CanMemoryWrites : Prop :=
  (∀ (t : Nat) (n : Fin 64) (off : Nat) (d : Bytes) (s : State), operating s = true →
    ¬(d.length ∈ [1, 2, 4, 8] ∧ off % d.length = 0) → exec (.hostTxElementWrite t n off d) s = .next (settle (arrive t s))) ∧
  (∀ (t : Nat) (n : Fin 64) (off : Nat) (d : Bytes) (s v : State), operating s = true → v = arrive t s →
    d.length ∈ [1, 2, 4, 8] → off % d.length = 0 → off + d.length ≤ 65536 → v.mem.wf = true →
    (∀ r ∈ (partOf v n).regions, ∀ k, k < d.length → inRegion r (off + k) = false) →
    ∃ u, exec (.hostTxElementWrite t n off d) s = .next u ∧ u.mem.wf = true ∧
      (∀ k, k < d.length → Memory.read u.mem (n.val * 65536 + off + k) = d.getD k 0#8) ∧
      (∀ a, a < n.val * 65536 + off ∨ n.val * 65536 + off + d.length ≤ a → Memory.read u.mem a = Memory.read v.mem a) ∧
      u.regs = v.regs ∧ u.can = v.can ∧ u.ba = v.ba ∧ u.sg = v.sg) ∧
  (∀ (t : Nat) (n : Fin 64) (off : Nat) (d : Bytes) (s v : State), operating s = true → v = arrive t s →
    (∀ k, k < d.length → inRegion ((partOf v n).txAt 0, (partOf v n).txCount * (32 + dataSize (partOf v n).txSize)) (off + k) = false ∧
      ∃ r ∈ (partOf v n).regions, inRegion r (off + k) = true) →
    exec (.hostTxElementWrite t n off d) s = .next (settle v))

/-- A write of INIT to CAN_CTRL.mode takes effect at once. -/
def Obligations.InitAtOnce : Prop :=
  ∀ (t : Nat) (n : Fin 64) (s v : State), operating s = true → v = arrive t s →
    ∃ w, exec (.canCtrlModeWrite t n 0) s = .next (settle (serveAll w)) ∧ canMode w n = 0 ∧
      (canMode v n ≠ 0 → (canCh w n).offer = none ∧ rd w Reg.CAN_STATUS.integrating n = 0) ∧
      (∀ m : Fin 64, m ≠ n → canMode w m = canMode v m)

/-- CAN_RXFn_ACK releases the elements up to the index, and only where the index lies within the fill and the element's uc agrees. -/
def Obligations.FifoAcknowledge : Prop :=
  ∀ (t : Nat) (n : Fin 64) (f : Fin 2) (index uc : Fin 256) (s v : State), operating s = true → v = arrive t s →
    (match ringAck (rd v Reg.CAN_RXF_STATUS.fill n f) (rd v Reg.CAN_RXF_STATUS.get n f) (Tab.get (partOf v n).rxCount f 0) index uc
        (leNat (mmRead v n ((partOf v n).rxAt f index + 0x18) 1)) with
      | none => exec (.canRxfAck t n f index uc) s = .next (settle v)
      | some (fill, get) =>
        ∃ u, exec (.canRxfAck t n f index uc) s = .next u ∧
          rd u Reg.CAN_RXF_STATUS.fill n f = fill % 2 ^ Reg.CAN_RXF_STATUS.fill.len ∧
          rd u Reg.CAN_RXF_STATUS.get n f = get % 2 ^ Reg.CAN_RXF_STATUS.get.len ∧
          rd u Reg.CAN_RXF_STATUS.full n f = b2n (fill == Tab.get (partOf v n).rxCount f 0) ∧
          (∀ a, Memory.read u.mem a = Memory.read v.mem a) ∧ u.can = v.can ∧ u.sg = v.sg)

/-- CX_KEY_ERASE of a slot that no request holds a previous generation of: the slot EMPTY with no key, every other slot as it was;
a ROOT slot replies DENIED. -/
def Obligations.KeyErase : Prop :=
  ∀ (t : Nat) (c : Call) (slot : Nat) (s : State), Executes 0x4002 c (tick t s) → slot < 512 →
    (slot < 8 → exec (.cxKeyErase t c (leBytes 2 slot ++ zeros 2)) s = .next (settle (sendReply (atWork t s) 0x4002 c stDenied []))) ∧
    (8 ≤ slot → (keySlot s slot).prev = none →
      ∃ u, exec (.cxKeyErase t c (leBytes 2 slot ++ zeros 2)) s = .next u ∧ (keySlot u slot).key = [] ∧ (keySlot u slot).state = 0 ∧
        (∀ m, m ≠ slot → keySlot u m = keySlot s m) ∧ Out.reply 0x4002 c stOk [] ∈ u.out ∧
        (∀ a, Memory.read u.mem a = Memory.read s.mem a) ∧ u.sg = s.sg ∧ u.ft = s.ft)

/-- PCIE_LINK_UP: the link, its width and its speed shown, and event 0x0001 with its interrupt bit. -/
def Obligations.PcieLinkUp : Prop :=
  ∀ (t : Nat) (width speed : Fin 8) (s v : State), coreOn s = true → v = arrive t s →
    width.val = 1 ∨ width.val = 2 ∨ width.val = 4 → 1 ≤ speed.val → speed.val ≤ 4 →
    ∃ u, exec (.pcieLinkUp t width speed) s = .next u ∧ rd u Reg.HB_STATUS.link = 1 ∧ rd u Reg.HB_STATUS.width = width ∧
      rd u Reg.HB_STATUS.speed = speed ∧ bitSet (rd u Reg.HB_INT_STATUS.event) 0 = true ∧ u.mem = v.mem ∧ u.hb.rings = v.hb.rings ∧
      u.can = v.can ∧ u.sw = v.sw

/-- A queue pair newly enabled starts with every index at 0 and the phase at 1, and leaves the other queue pairs; writing en = 1 to an
event ring sets its PUT and GET to 0. -/
def Obligations.QueuePairEnable : Prop :=
  (∀ (t : Nat) (q : Fin 4) (s v : State), coreOn s = true → v = arrive t s → rdB v Reg.CMD_QP_CTRL.en q = false →
    v.cmd.held = [] → v.cmd.subs = [] →
    ∃ u, exec (.cmdQpCtrlWrite t q true) s = .next u ∧ rd u Reg.CMD_QP_CTRL.en q = 1 ∧ rd u Reg.CMD_QP_SQ_TAIL.tail q = 0 ∧
      rd u Reg.CMD_QP_SQ_HEAD.head q = 0 ∧ rd u Reg.CMD_QP_CQ_TAIL.tail q = 0 ∧ rd u Reg.CMD_QP_CQ_TAIL.phase q = 1 ∧
      rd u Reg.CMD_QP_CQ_HEAD.head q = 0 ∧
      ∀ r : Fin 4, r ≠ q → rd u Reg.CMD_QP_CTRL.en r = rd v Reg.CMD_QP_CTRL.en r ∧
        rd u Reg.CMD_QP_SQ_HEAD.head r = rd v Reg.CMD_QP_SQ_HEAD.head r ∧
        rd u Reg.CMD_QP_CQ_TAIL.tail r = rd v Reg.CMD_QP_CQ_TAIL.tail r) ∧
  (∀ (t : Nat) (r : Fin 2) (w : BitVec 32) (s v : State), coreOn s = true → v = arrive t s → w.toNat % 2 = 1 →
    ∃ u, exec (.cmdEvrCfgWrite t r w) s = .next u ∧ rd u Reg.CMD_EVR_CFG.en r = 1 ∧ rd u Reg.CMD_EVR_PUT.put r = 0 ∧
      rd u Reg.CMD_EVR_GET.get r = 0 ∧ u.ev = v.ev ∧ u.mem = v.mem)

/-- The event buffer holds the latest 256 records: one stored when it is full replaces the oldest, which counts as dropped. -/
def Obligations.EventBufferLatest : Prop :=
  ∀ (s : State) (e : Event),
    (s.ev.buffer.length < 256 → (bufferStore s e).1.ev.buffer = s.ev.buffer ++ [e] ∧ (bufferStore s e).1.ev.dropped = s.ev.dropped) ∧
    (s.ev.buffer.length = 256 → (bufferStore s e).1.ev.buffer = s.ev.buffer.tail ++ [e] ∧
      (bufferStore s e).1.ev.buffer.length = 256 ∧ (bufferStore s e).1.ev.dropped = s.ev.dropped + 1)

/-- An event limited to once per second: raised at its first occurrence and after a second since it was last raised, with the
occurrences since then; not raised in between. -/
def Obligations.OncePerSecond : Prop :=
  ∀ (s : State) (src code inst scope n : Nat) (data : Nat → Bytes),
    (Tab.find s.ev.limits (limitKey src code scope) = none →
      raiseLimited s src code inst scope n data =
        raise { s with ev := { s.ev with limits := Tab.put s.ev.limits (limitKey src code scope) (s.now, 0) } } src code inst (data n)) ∧
    (∀ last k, Tab.find s.ev.limits (limitKey src code scope) = some (last, k) → last + 1000000000 ≤ s.now →
      raiseLimited s src code inst scope n data =
        raise { s with ev := { s.ev with limits := Tab.put s.ev.limits (limitKey src code scope) (s.now, 0) } } src code inst
          (data (k + n))) ∧
    (∀ last k, Tab.find s.ev.limits (limitKey src code scope) = some (last, k) → s.now < last + 1000000000 →
      raiseLimited s src code inst scope n data =
        { s with ev := { s.ev with limits := Tab.put s.ev.limits (limitKey src code scope) (last, k + n) } })

/-- Interrupt sources 32–39 follow the enabled bits of CMD_INT_STATUS, and sources 1–19 the enabled bits of the blocks. -/
def Obligations.InterruptSources : Prop :=
  ∀ s : State,
    (∀ k : Fin 8, bitSet (irqMask s) (32 + k) = true ↔
      (bitSet (rd s Reg.CMD_INT_EN.enable) k = true ∧
        bitSet (wordOf s [Reg.CMD_INT_STATUS.cq, Reg.CMD_INT_STATUS.evr, Reg.CMD_INT_STATUS.spi_reply, Reg.CMD_INT_STATUS.evr_ovf] 0) k
          = true)) ∧
    (∀ b ∈ blockSources, bitSet (irqMask s) b.src = true ↔
      ∃ i < b.count, (rd s b.en i * 2 ^ b.en.lo) &&& wordOf s b.bits i ≠ 0) ∧
    (∀ k : Fin 8, bitSet (irqMask s) (40 + k) = bitSet s.hb.ringIrq k)


/-- IDCODE shows 0x17264A3D and BYPASS delays by one bit; a TAP reset selects IDCODE and leaves levels, halts and breakpoints. -/
def Obligations.TapInstructions : Prop :=
  ∀ (t : Nat) (s v : State), v = arrive t s → tapOn v = true →
    (∃ w, exec (.idcode t) s = .next (settle (serveAll w)) ∧ Out.tdo 0x17264A3D 32 ∈ w.out ∧ w.lc.ir = 2 ∧ w.regs = v.regs) ∧
    (∀ bits len, ∃ w, exec (.bypass t bits len) s = .next (settle (serveAll w)) ∧ Out.tdo (bits * 2 % 2 ^ len) len ∈ w.out ∧
      w.lc.ir = 0x1F ∧ w.regs = v.regs) ∧
    (∃ w, exec (.tapReset t) s = .next (settle (serveAll w)) ∧ w.lc.ir = 2 ∧ w.regs = v.regs ∧ w.lc.cps = v.lc.cps ∧
      w.pe = v.pe ∧ w.lc.sessionEnd = v.lc.sessionEnd)

/-- RESET_N low holds the core die in reset, and the release leaves it to the start. -/
def Obligations.ResetPin : Prop :=
  ∀ (t : Nat) (s v : State), v = arrive t s →
    (∃ u, exec (.resetN t true) s = .next u ∧ coreOn u = false ∧ bitSet u.bt.holds 3 = true) ∧
    (∃ u, exec (.resetN t false) s = .next u ∧ bitSet u.bt.holds 3 = false ∧ u.regs = v.regs ∧ u.mem = v.mem ∧ u.bt.due = v.bt.due)

/-- HOLDOVER ends in FREE_EXPIRED once DT_HOLDOVER_LIMIT has passed since the last accepted Sync, and not before. -/
def Obligations.HoldoverExpires : Prop :=
  ∀ (t : Nat) (s : State), coreOn s = true → rd s Reg.DT_STATUS.state = 3 →
    (s.dt.lastSync + rd s Reg.DT_HOLDOVER_LIMIT.ms * ms ≤ max s.now t →
      ∃ u, exec (.holdoverLimitExpired t) s = .next u ∧ rd u Reg.DT_STATUS.state = 4 ∧
        rd u Reg.DT_INT_STATUS.holdover_expired = 1 ∧ u.dt = s.dt ∧ u.mem = s.mem) ∧
    (max s.now t < s.dt.lastSync + rd s Reg.DT_HOLDOVER_LIMIT.ms * ms →
      exec (.holdoverLimitExpired t) s = .next (settle (tick t s)))

/-- The synced flag of an event raised now and the synced bit of DT_STATUS are 1 exactly in LOCKED and HOLDOVER. -/
def Obligations.SyncedFlag : Prop :=
  ∀ (s : State) (src code inst : Nat) (data : Bytes),
    ((eventOf s src code inst data).synced = true ↔ rd s Reg.DT_STATUS.state = 2 ∨ rd s Reg.DT_STATUS.state = 3) ∧
    (bitSet (readWord s 0x10014) 3 = true ↔ rd s Reg.DT_STATUS.state = 2 ∨ rd s Reg.DT_STATUS.state = 3)

/-- An age in pips is floor(age_ns / 100,000), saturating at 0xFFFF; an unknown age is 0xFFFF. -/
def Obligations.AgeInPips : Prop :=
  (∀ a : Nat, a / 100000 < 0xFFFF → pips (some a) = a / 100000) ∧ (∀ a : Nat, 0xFFFF ≤ a / 100000 → pips (some a) = 0xFFFF) ∧
  pips none = 0xFFFF

/-- LR_SNAP_TAKE copies every live counter into the view and sets done; the counters and the pages written stand. -/
def Obligations.SnapshotTaken : Prop :=
  ∀ (t : Nat) (s : State), coreOn s = true →
    ∃ u, exec (.lrSnapTake t) s = .next u ∧ rd u Reg.LR_SNAP.done = 1 ∧ u.lr.counts = s.lr.counts ∧ u.lr.pages = s.lr.pages ∧
      (∃ v, u.lr.view = some v ∧ v.counts = s.lr.counts ∧ v.ns = (lifeSettle (tick t s)).lr.ns) ∧ u.mem = s.mem ∧ u.bt = s.bt

/-- A write of 1s to BT_ALT clears those alternatives, keeps the others, and changes nothing else of the start record. -/
def Obligations.AlternativesCleared : Prop :=
  ∀ (t : Nat) (w : BitVec 32) (s v : State), coreOn s = true → v = arrive t s →
    ∃ u, exec (.btAltWrite t w) s = .next u ∧
      (∀ k, bitSet u.bt.record.alt k = (bitSet v.bt.record.alt k && !(decide (1 ≤ k) && decide (k ≤ 13) && bitSet w.toNat k))) ∧
      { u.bt with record := { u.bt.record with alt := v.bt.record.alt } } = v.bt ∧ u.regs = v.regs ∧ u.mem = v.mem

/-- An SPI command while one, or an unread reply, is held, or of fewer than 20 bytes, is discarded and counted, and changes nothing
else. -/
def Obligations.SpiDiscard : Prop :=
  ∀ (t : Nat) (d : Bytes) (s v : State), v = arrive t s → wakesDevice v 3 = false → coreOn v = true → tapOn v = true →
    rdB v Reg.CMD_CTRL.spi_en = true → v.cmd.spiBusy = true ∨ v.cmd.spiReply.isSome = true ∨ d.length < 20 →
    ∃ w, exec (.spiCommandWrite t d) s = .next (settle (serveAll w)) ∧ w.cmd = { v.cmd with spiDiscarded := true } ∧
      rd w Reg.CMD_STAT_SPI_DISCARD.value = min (rd v Reg.CMD_STAT_SPI_DISCARD.value + 1) (2 ^ 32 - 1) ∧
      (∀ f i j, f.key i j ≠ Reg.CMD_STAT_SPI_DISCARD.value.key 0 0 → rd w f i j = rd v f i j) ∧ w.mem = v.mem ∧ w.ev = v.ev

/-- TXD dominant for 4 ms sets dom_to and counts it once; TXD recessive clears it. -/
def Obligations.DominantTimeout : Prop :=
  ∀ (t : Nat) (n : Fin 32) (s v : State), v = arrive t s →
    (∃ w, exec (.dominantTimeout t n true) s = .next (settle (serveAll w)) ∧ rd w Reg.WK_CH_STATUS.dom_to n = 0 ∧
      w.mem = v.mem ∧ w.can = v.can) ∧
    (xcvrOf v n = 0 → rd v Reg.WK_CH_STATUS.dom_to n = 0 →
      ∃ w, exec (.dominantTimeout t n false) s = .next (settle (serveAll w)) ∧ rd w Reg.WK_CH_STATUS.dom_to n = 1 ∧
        rd w Reg.WK_STAT_DOM_TO.value = min (rd v Reg.WK_STAT_DOM_TO.value + 1) (2 ^ 32 - 1) ∧
        w.mem = v.mem ∧ w.can = v.can) ∧
    (xcvrOf v n ≠ 0 ∨ rd v Reg.WK_CH_STATUS.dom_to n = 1 →
      exec (.dominantTimeout t n false) s = .next (settle (serveAll v)))

/-- TF_ID_RELEASE on a device that is not the coordinator replies DENIED. -/
def Obligations.OnlyCoordinatorReleases : Prop :=
  ∀ (t : Nat) (c : Call) (p : Bytes) (s : State), Executes 0x5002 c (tick t s) → p.length = 16 →
    rdB s Reg.TF_STATUS.coordinator = false →
    exec (.tfIdRelease t c p) s = .next (settle (sendReply (atWork t s) 0x5002 c stDenied []))

/-- A 4-byte read at the LO offset of a port's octet counter latches the high half for the HI offset; any read that is not speculative
clears the counter, and no other counter. The low half, or both halves, come back. -/
def Obligations.OctetCounters : Prop :=
  ∀ (t : Nat) (port : Fin 12) (wide speculative : Bool) (s v : State), operating s = true → v = arrive t s →
    ∃ u, exec (.octetCounterLoRead t (0x80100 + 0x1000 * port.val) wide speculative) s = .next u ∧
      Out.pcieCompletion 16 0 (leBytes (if wide then 8 else 4) (rd v Reg.ETH_RX_OCTETS.value port)) ∈ u.out ∧
      (wide = false → shadowWord u (0x80104 + 0x1000 * port.val) = some (rd v Reg.ETH_RX_OCTETS.value port / 2 ^ 32)) ∧
      rd u Reg.ETH_RX_OCTETS.value port = (if speculative then rd v Reg.ETH_RX_OCTETS.value port else 0) ∧
      (∀ q : Fin 12, q ≠ port → rd u Reg.ETH_RX_OCTETS.value q = rd v Reg.ETH_RX_OCTETS.value q) ∧
      u.mem = v.mem ∧ u.ft = v.ft ∧ u.pe = v.pe

/-- Every command of register writes and clear-on-read reads ends in the next state its own operation gives it. -/
def Obligations.RegistersComplete : Prop :=
  (∀ (t : Nat) (addr : Nat) (data : BitVec 32) (s : State), coreOn s = true →
      exec (.registerWrite t addr data) s = .next (settle (serveAll (barWrite addr data.toNat (arrive t s))))) ∧
  (∀ (t : Nat) (addr : Nat) (speculative : Bool) (s : State), coreOn s = true →
      exec (.rcCounterRead t addr speculative) s = .next (settle (barRead addr speculative (arrive t s))))

/-- Every command of device time ends in the next state its own operation gives it. -/
def Obligations.TimeComplete : Prop :=
  (∀ (t : Nat) (port : Fin 20) (gm : Nat) (offset : Int) (steps : Nat) (s : State), coreOn s = true →
      exec (.syncReceived t port gm offset steps) s = .next (settle (syncReceivedOp port gm offset steps (tick t s)))) ∧
  (∀ (t : Nat) (s : State), operating s = true → exec (.stepApplied t) s = .next (settle (stepAppliedOp (arrive t s)))) ∧
  (∀ (t : Nat) (s : State), coreOn s = true → exec (.residualWithin1us t) s = .next (settle (residualOp (tick t s)))) ∧
  (∀ (t : Nat) (s : State), coreOn s = true → exec (.syncLoss t) s = .next (settle (syncLossOp (tick t s)))) ∧
  (∀ (t : Nat) (s : State), coreOn s = true → exec (.holdoverLimitExpired t) s = .next (settle (holdoverOp (tick t s)))) ∧
  (∀ (t : Nat) (s : State), coreOn s = true → exec (.uncertaintySaturated t) s = .next (settle (saturatedOp (tick t s)))) ∧
  (∀ (t : Nat) (port : Fin 20) (a : Announce) (s : State), coreOn s = true →
      exec (.announceReceived t port a) s = .next (settle (announceOp port a (tick t s)))) ∧
  (∀ (t : Nat) (port : Fin 20) (s : State), coreOn s = true →
      exec (.announceReceiptTimeout t port) s = .next (settle (announceTimeoutOp port (tick t s)))) ∧
  (∀ (t : Nat) (port : Fin 20) (m : PeerDelay) (s : State), coreOn s = true →
      exec (.peerDelayMessage t port m) s = .next (settle (peerDelayOp port m.message (m.external.map (fun p => p.map Fin.val)) (tick t s)))) ∧
  (∀ (t : Nat) (port : Fin 20) (s : State), coreOn s = true →
      exec (.syncTransmission t port) s = .next (settle (syncTransmitOp port (tick t s))))

/-- Every command of the margin planner and the life record ends in the next state its own operation gives it. -/
def Obligations.MarginAndLifeComplete : Prop :=
  (∀ (t : Nat) (si : List (BitVec 16)) (s : State), loopOn s = true →
      exec (.siSample t si) s = .next (settle (siSampleOp si (tick t s)))) ∧
  (∀ (t : Nat) (s : State), loopOn s = true → exec (.derateRecompute t) s = .next (settle (derateRecomputeOp (tick t s)))) ∧
  (∀ (t : Nat) (s : State), coreOn s = true → exec (.plannerLower t) s = .next (settle (plannerLowerOp (tick t s)))) ∧
  (∀ (t : Nat) (writes : List Bool) (mv : Option Nat) (status : Option Bool) (s : State), loopOn s = true →
      exec (.avsReadback t writes mv status) s = .next (settle (avsReadbackOp writes mv status (tick t s)))) ∧
  (∀ (t : Nat) (wrote : Bool) (mv : Option Nat) (status : Option Bool) (s : State), loopOn s = true →
      exec (.avsRetry t wrote mv status) s = .next (settle (avsRetryOp wrote mv status (tick t s)))) ∧
  (∀ (t : Nat) (tenths : List Int) (s : State), loopOn s = true →
      exec (.temperatureReading t tenths) s = .next (settle (temperatureOp tenths (tick t s)))) ∧
  (∀ (t : Nat) (microvolts : Nat) (s : State), coreOn s = true →
      exec (.vreq125Record t microvolts) s = .next (settle (vreqRecordOp microvolts (tick t s)))) ∧
  (∀ (t : Nat) (sigma : Nat) (sensitivity : Nat) (microvolts : Nat) (s : State), coreOn s = true →
      exec (.hemReplan t sigma sensitivity microvolts) s = .next (settle (hemReplanOp sigma sensitivity microvolts (tick t s)))) ∧
  (∀ (t : Nat) (cause : Fin 6) (worn : List Nat) (s : State), coreOn s = true →
      exec (.lifeRecordCheckpoint t cause worn) s = .next (settle (checkpoint (wornPages worn (tick t s)) cause))) ∧
  (∀ (t : Nat) (s : State), diePowered s = true → s.bt.hung = none →
      exec (.checkpointPeriod t) s = .next (settle (checkpointPeriodOp (tick t s)))) ∧
  (∀ (t : Nat) (s : State), coreOn s = true → exec (.lrCtrlCheckpoint t) s = .next (settle (checkpoint (tick t s) 4))) ∧
  (∀ (t : Nat) (s : State), coreOn s = true → exec (.lrSnapTake t) s = .next (settle (snapTake (tick t s)))) ∧
  (∀ (t : Nat) (c : Call) (p : Bytes) (s : State), Executes 0x8010 c (tick t s) →
      exec (.lrReadPage t c p) s = .next (settle (answer 0x8010 c (opReadPage p (atWork t s))))) ∧
  (∀ (t : Nat) (c : Call) (p : Bytes) (s : State), Executes 0x8011 c (tick t s) →
      exec (.lrCheckpoint t c p) s = .next (settle (answer 0x8011 c (opCheckpoint p (atWork t s)))))

/-- Every command of the CAN engines ends in the next state its own operation gives it. -/
def Obligations.CanEngineComplete : Prop :=
  (∀ (t : Nat) (ch : Fin 64) (mode : Fin 8) (s : State), operating s = true →
      exec (.canCtrlModeWrite t ch mode) s = .next (settle (serveAll (modeWrite (arrive t s) ch mode).1))) ∧
  (∀ (t : Nat) (ch : Fin 64) (s : State), operating s = true →
      exec (.modeChangeAtIdle t ch) s = .next (settle (serveAll (modeAtIdle ch (arrive t s))))) ∧
  (∀ (t : Nat) (ch : Fin 64) (s : State), operating s = true →
      exec (.integrationComplete t ch) s = .next (settle (wr (arrive t s) Reg.CAN_STATUS.integrating 0 ch))) ∧
  (∀ (t : Nat) (ch : Fin 64) (xl : Bool) (s : State), operating s = true →
      exec (.protocolException t ch xl) s = .next (settle (serveAll (protocolException ch xl (arrive t s))))) ∧
  (∀ (g : GwAt) (ch : Fin 64) (intermission : Bool) (taken : Option Nat) (errors : List MmErr) (s : State), operating s = true →
      exec (.selectionPoint g ch intermission taken errors) s = .next (settle (withGatewayErrors g.errors (fun s => serveAll (selectNow s ch intermission taken errors)) (arrive g.t s)))) ∧
  (∀ (g : GwAt) (ch : Fin 64) (s : State), operating s = true →
      exec (.rebuildComplete g ch) s = .next (settle (withGatewayErrors g.errors (fun s => serveAll (rebuildDone ch s)) (arrive g.t s)))) ∧
  (∀ (t : Nat) (ch : Fin 64) (sof : Nat) (delay : Option (Fin 256)) (s : State), operating s = true →
      exec (.canTransmitComplete t ch sof delay) s = .next (settle (serveAll (transmitDone ch sof delay (arrive t s))))) ∧
  (∀ (t : Nat) (ch : Fin 64) (s : State), operating s = true →
      exec (.arbitrationLost t ch) s = .next (settle (serveAll (arbitrationLost ch (arrive t s))))) ∧
  (∀ (t : Nat) (ch : Fin 64) (e : CanError) (s : State), operating s = true →
      exec (.canErrorDetected t ch e) s = .next (settle (serveAll (errorOp ch e (arrive t s))))) ∧
  (∀ (t : Nat) (ch : Fin 64) (s : State), operating s = true →
      exec (.busoffHoldoffExpired t ch) s = .next (settle (holdoffOp ch (arrive t s)))) ∧
  (∀ (t : Nat) (ch : Fin 64) (s : State), operating s = true →
      exec (.busoffRecovery t ch) s = .next (settle (serveAll (recoveryOp ch (arrive t s))))) ∧
  (∀ (t : Nat) (ch : Fin 64) (bits : BitVec 64) (s : State), operating s = true →
      exec (.canTxbufReq t ch bits) s = .next (settle (eachBit (fun s k => requestBuffer s ch k) bits.toNat (arrive t s)))) ∧
  (∀ (t : Nat) (ch : Fin 64) (slot : Fin 256) (s : State), operating s = true →
      exec (.canTxqPut t ch slot) s = .next (settle (queuePut (arrive t s) ch slot))) ∧
  (∀ (t : Nat) (ch : Fin 64) (bits : BitVec 64) (s : State), operating s = true →
      exec (.canTxbufCancel t ch bits) s = .next (settle (serveAll (eachBit (fun s k => cancelBuffer s ch k) bits.toNat (arrive t s))))) ∧
  (∀ (t : Nat) (ch : Fin 64) (slot : Fin 256) (s : State), operating s = true →
      exec (.canTxqCancel t ch slot) s = .next (settle (serveAll (cancelSlot (arrive t s) ch slot)))) ∧
  (∀ (t : Nat) (c : Call) (p : Bytes) (s : State), Executes 0x2001 c (tick t s) →
      exec (.canSetMode t c p) s = .next (settle (serveAll (answer 0x2001 c (opSetMode p (channelsSync (atWork t s))))))) ∧
  (∀ (t : Nat) (c : Call) (p : Bytes) (s : State), Executes 0x2010 c (tick t s) →
      exec (.canTxEnqueue t c p) s = .next (settle (answer 0x2010 c (opTxEnqueue p (channelsSync (atWork t s)))))) ∧
  (∀ (t : Nat) (c : Call) (p : Bytes) (s : State), Executes 0x2011 c (tick t s) →
      exec (.canTxCancel t c p) s = .next (settle (serveAll (answer 0x2011 c (opTxCancel c p (channelsSync (atWork t s))))))) ∧
  (∀ (t : Nat) (c : Call) (p : Bytes) (s : State), Executes 0x2020 c (tick t s) →
      exec (.canGetState t c p) s = .next (settle (answer 0x2020 c (opGetState p (channelsSync (atWork t s)))))) ∧
  (∀ (t : Nat) (ch : Fin 64) (s : State), operating s = true →
      exec (.cloakIgnoredFrame t ch) s = .next (settle (cloakIgnored ch (arrive t s))))

/-- Every command of CAN message memory ends in the next state its own operation gives it. -/
def Obligations.CanMemoryComplete : Prop :=
  (∀ (t : Nat) (ch : Fin 64) (rx : CanRx) (s : State),
      exec (.canFrameAccepted t ch rx) s = .next (settle (frameAcceptedOp ch.val rx (arrive t s)))) ∧
  (∀ (t : Nat) (ch : Fin 64) (s : State), operating s = true →
      exec (.rxStoreComplete t ch) s = .next (settle (storeDone ch (arrive t s)))) ∧
  (∀ (t : Nat) (ch : Fin 64) (fifo : Fin 2) (index : Fin 256) (uc : Fin 256) (s : State), operating s = true →
      exec (.canRxfAck t ch fifo index uc) s = .next (settle (rxfAck ch fifo index uc (arrive t s)))) ∧
  (∀ (t : Nat) (ch : Fin 64) (index : Fin 256) (uc : Fin 256) (s : State), operating s = true →
      exec (.canTxefAck t ch index uc) s = .next (settle (txefAck ch index uc (arrive t s)))) ∧
  (∀ (t : Nat) (ch : Fin 64) (bits : BitVec 64) (s : State), operating s = true →
      exec (.canMbNdClear t ch bits) s = .next (settle (mbNdClear ch bits.toNat (arrive t s)))) ∧
  (∀ (t : Nat) (ch : Fin 64) (offset : Nat) (data : Bytes) (s : State), operating s = true →
      exec (.hostTxElementWrite t ch offset data) s = .next (settle (hostMemWrite (arrive t s) ch offset data))) ∧
  (∀ (t : Nat) (c : Call) (p : Bytes) (s : State), Executes 0x2030 c (tick t s) →
      exec (.canFltWrite t c p) s = .next (settle (answer 0x2030 c (opFltWrite p (channelsSync (atWork t s)))))) ∧
  (∀ (t : Nat) (c : Call) (p : Bytes) (s : State), Executes 0x2031 c (tick t s) →
      exec (.canFltRead t c p) s = .next (settle (answer 0x2031 c (opFltRead p (channelsSync (atWork t s))))))

/-- Every command of the signal gateway and the check channels ends in the next state its own operation gives it. -/
def Obligations.SignalsComplete : Prop :=
  (∀ (t : Nat) (device : Fin 64) (s : State), operating s = true →
      exec (.signalRecordSend t device) s = .next (settle (sendRecord device (arrive t s)))) ∧
  (∀ (g : GwAt) (device : Fin 64) (record : Bytes) (s : State), operating s = true →
      exec (.signalRecordReceived g device record) s = .next (settle (withGatewayErrors g.errors (fun s => serveAll (recordReceived device record s)) (arrive g.t s)))) ∧
  (∀ (t : Nat) (c : Call) (p : Bytes) (s : State), Executes 0x3001 c (tick t s) →
      exec (.sgTableWrite t c p) s = .next (settle (serveAll (answer 0x3001 c (opTableWrite p (channelsSync (atWork t s))))))) ∧
  (∀ (t : Nat) (c : Call) (p : Bytes) (s : State), Executes 0x3002 c (tick t s) →
      exec (.sgTableRead t c p) s = .next (settle (answer 0x3002 c (opTableRead p (channelsSync (atWork t s)))))) ∧
  (∀ (t : Nat) (c : Call) (p : Bytes) (s : State), Executes 0x3010 c (tick t s) →
      exec (.sgCanrtAdd t c p) s = .next (settle (answer 0x3010 c (opCanrtAdd p (channelsSync (atWork t s)))))) ∧
  (∀ (t : Nat) (c : Call) (p : Bytes) (s : State), Executes 0x3011 c (tick t s) →
      exec (.sgCanrtDel t c p) s = .next (settle (answer 0x3011 c (opCanrtDel p (channelsSync (atWork t s)))))) ∧
  (∀ (t : Nat) (c : Call) (p : Bytes) (s : State), Executes 0x3012 c (tick t s) →
      exec (.sgCanrtFind t c p) s = .next (settle (answer 0x3012 c (opCanrtFind p (channelsSync (atWork t s)))))) ∧
  (∀ (g : GwAt) (c : Call) (p : Bytes) (s : State), Executes 0x3020 c (tick g.t s) →
      exec (.sgSlotRead g c p) s = .next (settle (withGatewayErrors g.errors (fun s => answer 0x3020 c (opSlotRead p s)) (channelsSync (atWork g.t s))))) ∧
  (∀ (g : GwAt) (c : Call) (p : Bytes) (s : State), Executes 0x3021 c (tick g.t s) →
      exec (.sgSlotWrite g c p) s = .next (settle (withGatewayErrors g.errors (fun s => serveAll (answer 0x3021 c (opSlotWrite p s))) (channelsSync (atWork g.t s))))) ∧
  (∀ (t : Nat) (c : Call) (p : Bytes) (s : State), Executes 0x3022 c (tick t s) →
      exec (.sgSlotConfig t c p) s = .next (settle (answer 0x3022 c (opSlotConfig p (channelsSync (atWork t s)))))) ∧
  (∀ (t : Nat) (slot : Fin 65536) (s : State), operating s = true →
      exec (.sgNdClr t slot) s = .next (settle (ndClear slot (arrive t s)))) ∧
  (∀ (t : Nat) (c : Call) (p : Bytes) (s : State), Executes 0x3040 c (tick t s) →
      exec (.ckChWrite t c p) s = .next (settle (answer 0x3040 c (opCkWrite p (channelsSync (atWork t s)))))) ∧
  (∀ (t : Nat) (c : Call) (p : Bytes) (s : State), Executes 0x3041 c (tick t s) →
      exec (.ckChRead t c p) s = .next (settle (answer 0x3041 c (opCkRead p (channelsSync (atWork t s)))))) ∧
  (∀ (t : Nat) (c : Call) (p : Bytes) (s : State), Executes 0x3042 c (tick t s) →
      exec (.ckChResync t c p) s = .next (settle (answer 0x3042 c (opCkResync p (channelsSync (atWork t s))))))

/-- Every command of templates, rate limiters and streams ends in the next state its own operation gives it. -/
def Obligations.EgressComplete : Prop :=
  (∀ (t : Nat) (tpl : Fin 16384) (gateway : List MemErr) (s : State), cycling s = true →
      exec (.cycleInstant t tpl gateway) s = .next (settle (withGatewayErrors gateway (fun s => serveAll (cycleOp tpl s)) (arrive t s)))) ∧
  (∀ (g : GwAt) (tpl : Fin 16384) (s : State), operating s = true →
      exec (.minIntervalExpired g tpl) s = .next (settle (withGatewayErrors g.errors (fun s => serveAll (minIntervalOp tpl s)) (arrive g.t s)))) ∧
  (∀ (g : GwAt) (ch : Fin 64) (s : State), operating s = true →
      exec (.tokenRefill g ch) s = .next (settle (withGatewayErrors g.errors (serve ch) (arrive g.t s)))) ∧
  (∀ (t : Nat) (ch : Fin 64) (data : BitVec 32) (s : State), operating s = true →
      exec (.sgChrateWrite t ch data) s = .next (settle (serve ch (writeChrate ch data.toNat (arrive t s))))) ∧
  (∀ (g : GwAt) (c : Call) (p : Bytes) (s : State), Executes 0x3030 c (tick g.t s) →
      exec (.sgTplTrigger g c p) s = .next (settle (withGatewayErrors g.errors (fun s => serveAll (answer 0x3030 c (opTplTrigger c p s))) (channelsSync (atWork g.t s))))) ∧
  (∀ (t : Nat) (c : Call) (p : Bytes) (s : State), Executes 0x3031 c (tick t s) →
      exec (.sgTplExt t c p) s = .next (settle (answer 0x3031 c (opTplExt p (channelsSync (atWork t s)))))) ∧
  (∀ (g : GwAt) (c : Call) (p : Bytes) (s : State), Executes 0x3032 c (tick g.t s) →
      exec (.sgAgeQuery g c p) s = .next (settle (withGatewayErrors g.errors (fun s => answer 0x3032 c (opAgeQuery p s)) (channelsSync (atWork g.t s))))) ∧
  (∀ (g : GwAt) (stream : Fin 64) (s : State), operating s = true →
      exec (.acfPduSeal g stream) s = .next (settle (withGatewayErrors g.errors (acfSealOp stream) (arrive g.t s)))) ∧
  (∀ (t : Nat) (ch : Fin 64) (data : BitVec 32) (s : State), operating s = true →
      exec (.sgMirrorNWrite t ch data) s = .next (settle (writeMirrorN ch data.toNat (arrive t s))))

/-- Every command of Ethernet ports and the switch core ends in the next state its own operation gives it. -/
def Obligations.EthernetComplete : Prop :=
  (∀ (t : Nat) (port : Fin 12) (data : BitVec 32) (s : State), operating s = true →
      exec (.ethCfgWrite t port data) s = .next (settle (ethCfgWrite port data.toNat (arrive t s)))) ∧
  (∀ (t : Nat) (port : Fin 12) (speed : Fin 7) (s : State), operating s = true →
      exec (.ethLinkUp t port speed) s = .next (settle (ethUp port speed (arrive t s)))) ∧
  (∀ (t : Nat) (port : Fin 12) (cause : Fin 5) (receiving : Bool) (s : State),
      exec (.ethLinkDown t port cause receiving) s = .next (settle (ethLinkDownOp port cause receiving (arrive t s)))) ∧
  (∀ (t : Nat) (port : Fin 12) (rx : EthRx) (s : State), operating s = true → s.wk.entry = none →
      exec (.ethFrameReceived t port rx) s = .next (settle (ethReceive port rx (inbandCommand port) (arrive t s)))) ∧
  (∀ (t : Nat) (out : Fin 19) (queue2 : Fin 65) (s : State), operating s = true →
      exec (.outputFrameStart t out queue2) s = .next (settle (serveAll (outputStart out queue2 (arrive t s))))) ∧
  (∀ (t : Nat) (out : Fin 19) (underrun : Bool) (s : State), operating s = true →
      exec (.outputFrameEnd t out underrun) s = .next (settle (outputEnd out underrun (arrive t s)))) ∧
  (∀ (t : Nat) (port : Fin 12) (s : State), operating s = true →
      exec (.gateEntryChange t port) s = .next (settle (gateSync (tick t s) port))) ∧
  (∀ (t : Nat) (port : Fin 12) (s : State), operating s = true →
      exec (.configChangeTime t port) s = .next (settle (configChange port (tick t s)))) ∧
  (∀ (t : Nat) (fn : Fin 512) (s : State), operating s = true →
      exec (.recoveryResetTimer t fn) s = .next (settle (recoveryReset fn (arrive t s)))) ∧
  (∀ (t : Nat) (session : Fin 8) (data : BitVec 32) (s : State), operating s = true →
      exec (.swMirrorNWrite t session data) s = .next (settle (mirrorNWrite session data.toNat (arrive t s)))) ∧
  (∀ (t : Nat) (addr : Nat) (wide : Bool) (speculative : Bool) (s : State), operating s = true →
      exec (.octetCounterLoRead t addr wide speculative) s = .next (settle (octetReadOp addr wide speculative (arrive t s)))) ∧
  (∀ (t : Nat) (c : Call) (p : Bytes) (s : State), Executes 0x1400 c (tick t s) →
      exec (.ethGclWrite t c p) s = .next (settle (answer 0x1400 c (opGclWrite p (atWork t s))))) ∧
  (∀ (t : Nat) (c : Call) (p : Bytes) (s : State), Executes 0x1401 c (tick t s) →
      exec (.ethGclRead t c p) s = .next (settle (answer 0x1401 c (opGclRead p (atWork t s))))) ∧
  (∀ (t : Nat) (c : Call) (p : Bytes) (s : State), Executes 0x1420 c (tick t s) →
      exec (.swTableWrite t c p) s = .next (settle (answer 0x1420 c (opSwTableWrite p (atWork t s))))) ∧
  (∀ (t : Nat) (c : Call) (p : Bytes) (s : State), Executes 0x1421 c (tick t s) →
      exec (.swTableRead t c p) s = .next (settle (answer 0x1421 c (opSwTableRead p (atWork t s)))))

/-- Every command of the forwarding tables ends in the next state its own operation gives it. -/
def Obligations.TablesComplete : Prop :=
  (∀ (t : Nat) (s : State), operating s = true → exec (.learnEngineOperation t) s = .next (settle (learnOnce (arrive t s)))) ∧
  (∀ (t : Nat) (s : State), operating s = true → exec (.ageingSweep t) s = .next (settle (ageSweep (arrive t s)))) ∧
  (∀ (t : Nat) (port : Fin 19) (s : State), operating s = true →
      exec (.quarantineExpired t port) s = .next (settle (quarantineOver port (arrive t s)))) ∧
  (∀ (t : Nat) (port : Fin 19) (s : State), operating s = true →
      exec (.ftPortQuarRelease t port) s = .next (settle (endQuarantine (arrive t s) port 1))) ∧
  (∀ (t : Nat) (data : BitVec 32) (s : State), operating s = true →
      exec (.ftLockWrite t data) s = .next (settle (lockWrite data.toNat (arrive t s)))) ∧
  (∀ (t : Nat) (s : State), operating s = true → exec (.lockHeld t) s = .next (settle (lockTaken (arrive t s)))) ∧
  (∀ (t : Nat) (table : Fin 32) (s : State), operating s = true →
      exec (.lockExpired t table) s = .next (settle (lockOver table (arrive t s)))) ∧
  (∀ (t : Nat) (tail : Fin 4096) (s : State), operating s = true →
      exec (.ftDmaTailWrite t tail) s = .next (settle (dmaTailWrite tail (arrive t s)))) ∧
  (∀ (t : Nat) (en : Bool) (s : State), operating s = true →
      exec (.ftDmaCtrlWrite t en) s = .next (settle (dmaCtrlWrite en (arrive t s)))) ∧
  (∀ (t : Nat) (desc : Bytes) (data : Bytes) (s : State), operating s = true →
      exec (.dmaDescriptorComplete t desc data) s = .next (settle (dmaComplete desc data (arrive t s)))) ∧
  (∀ (t : Nat) (s : State), operating s = true → exec (.lpmNodeFree t) s = .next (settle (nodeFree (arrive t s)))) ∧
  (∀ (t : Nat) (c : Call) (p : Bytes) (s : State), Executes 0x1001 c (tick t s) →
      exec (.ftTableWrite t c p) s = .next (settle (answer 0x1001 c (opFtTableWrite p (atWork t s))))) ∧
  (∀ (t : Nat) (c : Call) (p : Bytes) (s : State), Executes 0x1002 c (tick t s) →
      exec (.ftTableRead t c p) s = .next (settle (answer 0x1002 c (opFtTableRead p (atWork t s))))) ∧
  (∀ (t : Nat) (c : Call) (p : Bytes) (s : State), Executes 0x1010 c (tick t s) →
      exec (.ftL2Add t c p) s = .next (settle (answer 0x1010 c (opL2Add p (atWork t s))))) ∧
  (∀ (t : Nat) (c : Call) (p : Bytes) (s : State), Executes 0x1011 c (tick t s) →
      exec (.ftL2Del t c p) s = .next (settle (answer 0x1011 c (opL2Del p (atWork t s))))) ∧
  (∀ (t : Nat) (c : Call) (p : Bytes) (s : State), Executes 0x1012 c (tick t s) →
      exec (.ftL2Find t c p) s = .next (settle (answer 0x1012 c (opL2Find p (atWork t s))))) ∧
  (∀ (t : Nat) (c : Call) (p : Bytes) (s : State), Executes 0x1013 c (tick t s) →
      exec (.ftL2Flush t c p) s = .next (settle (answer 0x1013 c (opL2Flush p (atWork t s))))) ∧
  (∀ (t : Nat) (c : Call) (p : Bytes) (s : State), Executes 0x1020 c (tick t s) →
      exec (.ftLpmAdd t c p) s = .next (settle (answer 0x1020 c (opLpmAdd p (atWork t s))))) ∧
  (∀ (t : Nat) (c : Call) (p : Bytes) (s : State), Executes 0x1021 c (tick t s) →
      exec (.ftLpmDel t c p) s = .next (settle (answer 0x1021 c (opLpmDel p (atWork t s))))) ∧
  (∀ (t : Nat) (c : Call) (p : Bytes) (s : State), Executes 0x1022 c (tick t s) →
      exec (.ftLpmFind t c p) s = .next (settle (answer 0x1022 c (opLpmFind p (atWork t s)))))

/-- Every command of the parse engines ends in the next state its own operation gives it. -/
def Obligations.ParseComplete : Prop :=
  (∀ (t : Nat) (input : Fin 19) (early : Option EarlyFrame) (s : State), operating s = true →
      exec (.frameReady t input early) s = .next (settle (frameReadyOp input early (arrive t s)))) ∧
  (∀ (t : Nat) (e : Fin 24) (mem : Fin 5) (s : State), operating s = true →
      exec (.parseDispatch t e mem) s = .next (settle (dispatch e mem (arrive t s)))) ∧
  (∀ (e : Fin 24) (mem : Fin 5) (s : State), operating s = true →
      exec (.nop e mem) s = .next (settle (runInstr e mem noWord (Pe.nop) s))) ∧
  (∀ (e : Fin 24) (mem : Fin 5) (d : Fin 16) (a : Fin 16) (b : Fin 16) (s : State), operating s = true →
      exec (.add e mem d a b) s = .next (settle (runInstr e mem noWord (Pe.add d a b) s))) ∧
  (∀ (e : Fin 24) (mem : Fin 5) (d : Fin 16) (a : Fin 16) (b : Fin 16) (s : State), operating s = true →
      exec (.sub e mem d a b) s = .next (settle (runInstr e mem noWord (Pe.sub d a b) s))) ∧
  (∀ (e : Fin 24) (mem : Fin 5) (d : Fin 16) (a : Fin 16) (b : Fin 16) (s : State), operating s = true →
      exec (.and e mem d a b) s = .next (settle (runInstr e mem noWord (Pe.and d a b) s))) ∧
  (∀ (e : Fin 24) (mem : Fin 5) (d : Fin 16) (a : Fin 16) (b : Fin 16) (s : State), operating s = true →
      exec (.or e mem d a b) s = .next (settle (runInstr e mem noWord (Pe.or d a b) s))) ∧
  (∀ (e : Fin 24) (mem : Fin 5) (d : Fin 16) (a : Fin 16) (b : Fin 16) (s : State), operating s = true →
      exec (.xor e mem d a b) s = .next (settle (runInstr e mem noWord (Pe.xor d a b) s))) ∧
  (∀ (e : Fin 24) (mem : Fin 5) (d : Fin 16) (a : Fin 16) (b : Fin 16) (s : State), operating s = true →
      exec (.shl e mem d a b) s = .next (settle (runInstr e mem noWord (Pe.shl d a b) s))) ∧
  (∀ (e : Fin 24) (mem : Fin 5) (d : Fin 16) (a : Fin 16) (b : Fin 16) (s : State), operating s = true →
      exec (.shr e mem d a b) s = .next (settle (runInstr e mem noWord (Pe.shr d a b) s))) ∧
  (∀ (e : Fin 24) (mem : Fin 5) (d : Fin 16) (a : Fin 16) (imm : BitVec 18) (s : State), operating s = true →
      exec (.addi e mem d a imm) s = .next (settle (runInstr e mem noWord (Pe.addi d a imm.toNat) s))) ∧
  (∀ (e : Fin 24) (mem : Fin 5) (d : Fin 16) (a : Fin 16) (imm : BitVec 18) (s : State), operating s = true →
      exec (.andi e mem d a imm) s = .next (settle (runInstr e mem noWord (Pe.andi d a imm.toNat) s))) ∧
  (∀ (e : Fin 24) (mem : Fin 5) (d : Fin 16) (a : Fin 16) (imm : BitVec 18) (s : State), operating s = true →
      exec (.ori e mem d a imm) s = .next (settle (runInstr e mem noWord (Pe.ori d a imm.toNat) s))) ∧
  (∀ (e : Fin 24) (mem : Fin 5) (d : Fin 16) (a : Fin 16) (imm : BitVec 18) (s : State), operating s = true →
      exec (.xori e mem d a imm) s = .next (settle (runInstr e mem noWord (Pe.xori d a imm.toNat) s))) ∧
  (∀ (e : Fin 24) (mem : Fin 5) (d : Fin 16) (imm : BitVec 18) (s : State), operating s = true →
      exec (.movi e mem d imm) s = .next (settle (runInstr e mem noWord (Pe.movi d imm.toNat) s))) ∧
  (∀ (e : Fin 24) (mem : Fin 5) (d : Fin 16) (a : Fin 16) (imm : BitVec 16) (s : State), operating s = true →
      exec (.movhi e mem d a imm) s = .next (settle (runInstr e mem noWord (Pe.movhi d a imm.toNat) s))) ∧
  (∀ (e : Fin 24) (mem : Fin 5) (d : Fin 16) (a : Fin 16) (pos : Fin 32) (s : State), operating s = true →
      exec (.shli e mem d a pos) s = .next (settle (runInstr e mem noWord (Pe.shli d a pos) s))) ∧
  (∀ (e : Fin 24) (mem : Fin 5) (d : Fin 16) (a : Fin 16) (pos : Fin 32) (s : State), operating s = true →
      exec (.shri e mem d a pos) s = .next (settle (runInstr e mem noWord (Pe.shri d a pos) s))) ∧
  (∀ (e : Fin 24) (mem : Fin 5) (d : Fin 16) (a : Fin 16) (pos : Fin 32) (len1 : Fin 32) (s : State), operating s = true →
      exec (.ext e mem d a pos len1) s = .next (settle (runInstr e mem noWord (Pe.ext d a pos (len1 + 1)) s))) ∧
  (∀ (e : Fin 24) (mem : Fin 5) (d : Fin 16) (a : Fin 16) (pos : Fin 32) (len1 : Fin 32) (s : State), operating s = true →
      exec (.ins e mem d a pos len1) s = .next (settle (runInstr e mem noWord (Pe.ins d a pos (len1 + 1)) s))) ∧
  (∀ (e : Fin 24) (mem : Fin 5) (d : Fin 16) (a : Fin 16) (size : Fin 3) (off : Fin 1024) (s : State), operating s = true →
      exec (.ldw e mem d a size off) s = .next (settle (runInstr e mem noWord (Pe.ldw d a size off) s))) ∧
  (∀ (e : Fin 24) (mem : Fin 5) (a : Fin 16) (off : Fin 1024) (s : State), operating s = true →
      exec (.setc e mem a off) s = .next (settle (runInstr e mem noWord (Pe.setc a off) s))) ∧
  (∀ (e : Fin 24) (mem : Fin 5) (a : Fin 16) (off : Fin 1024) (s : State), operating s = true →
      exec (.advc e mem a off) s = .next (settle (runInstr e mem noWord (Pe.advc a off) s))) ∧
  (∀ (e : Fin 24) (mem : Fin 5) (d : Fin 16) (s : State), operating s = true →
      exec (.getc e mem d) s = .next (settle (runInstr e mem noWord (Pe.getc d) s))) ∧
  (∀ (e : Fin 24) (mem : Fin 5) (d : Fin 16) (m : Fin 16) (s : State), operating s = true →
      exec (.ldm e mem d m) s = .next (settle (runInstr e mem noWord (Pe.ldm d m) s))) ∧
  (∀ (e : Fin 24) (mem : Fin 5) (m : Fin 16) (a : Fin 16) (s : State), operating s = true →
      exec (.emit e mem m a) s = .next (settle (runInstr e mem noWord (Pe.emit m a) s))) ∧
  (∀ (e : Fin 24) (mem : Fin 5) (m : Fin 16) (a : Fin 16) (pos : Fin 32) (len1 : Fin 32) (s : State), operating s = true →
      exec (.emitf e mem m a pos len1) s = .next (settle (runInstr e mem noWord (Pe.emitf m a pos (len1 + 1)) s))) ∧
  (∀ (e : Fin 24) (mem : Fin 5) (d : Fin 16) (a : Fin 16) (tbl : Fin 16) (s : State), operating s = true →
      exec (.lkt e mem d a tbl) s = .next (settle (runInstr e mem (lktWord a tbl) (Pe.lkt d a tbl) s))) ∧
  (∀ (e : Fin 24) (mem : Fin 5) (a : Fin 16) (b : Fin 16) (target : Fin 16384) (s : State), operating s = true →
      exec (.beq e mem a b target) s = .next (settle (runInstr e mem noWord (Pe.beq a b target) s))) ∧
  (∀ (e : Fin 24) (mem : Fin 5) (a : Fin 16) (b : Fin 16) (target : Fin 16384) (s : State), operating s = true →
      exec (.bne e mem a b target) s = .next (settle (runInstr e mem noWord (Pe.bne a b target) s))) ∧
  (∀ (e : Fin 24) (mem : Fin 5) (a : Fin 16) (b : Fin 16) (target : Fin 16384) (s : State), operating s = true →
      exec (.bltu e mem a b target) s = .next (settle (runInstr e mem noWord (Pe.bltu a b target) s))) ∧
  (∀ (e : Fin 24) (mem : Fin 5) (a : Fin 16) (b : Fin 16) (target : Fin 16384) (s : State), operating s = true →
      exec (.bgeu e mem a b target) s = .next (settle (runInstr e mem noWord (Pe.bgeu a b target) s))) ∧
  (∀ (e : Fin 24) (mem : Fin 5) (a : Fin 16) (imm : Fin 256) (target : Fin 16384) (s : State), operating s = true →
      exec (.beqi e mem a imm target) s = .next (settle (runInstr e mem noWord (Pe.beqi a imm target) s))) ∧
  (∀ (e : Fin 24) (mem : Fin 5) (a : Fin 16) (imm : Fin 256) (target : Fin 16384) (s : State), operating s = true →
      exec (.bnei e mem a imm target) s = .next (settle (runInstr e mem noWord (Pe.bnei a imm target) s))) ∧
  (∀ (e : Fin 24) (mem : Fin 5) (a : Fin 16) (bit : Fin 32) (target : Fin 16384) (s : State), operating s = true →
      exec (.bbs e mem a bit target) s = .next (settle (runInstr e mem noWord (Pe.bbs a bit target) s))) ∧
  (∀ (e : Fin 24) (mem : Fin 5) (a : Fin 16) (bit : Fin 32) (target : Fin 16384) (s : State), operating s = true →
      exec (.bbc e mem a bit target) s = .next (settle (runInstr e mem noWord (Pe.bbc a bit target) s))) ∧
  (∀ (e : Fin 24) (mem : Fin 5) (target : Fin 16384) (s : State), operating s = true →
      exec (.jmp e mem target) s = .next (settle (runInstr e mem noWord (Pe.jmp target) s))) ∧
  (∀ (e : Fin 24) (mem : Fin 5) (s : State), operating s = true →
      exec (.end_ e mem) s = .next (settle (runInstr e mem noWord (Pe.ended) s))) ∧
  (∀ (e : Fin 24) (mem : Fin 5) (code : Fin 256) (s : State), operating s = true →
      exec (.drop e mem code) s = .next (settle (runInstr e mem noWord (Pe.drop code) s))) ∧
  (∀ (e : Fin 24) (mem : Fin 5) (a : Fin 16) (off : Fin 1024) (s : State), operating s = true →
      exec (.rcirc e mem a off) s = .next (settle (runInstr e mem noWord (Pe.rcirc a off) s))) ∧
  (∀ (t : Nat) (s : State), operating s = true → exec (.peDbgHalt t) s = .next (settle (dbgHalt (arrive t s)))) ∧
  (∀ (t : Nat) (s : State), operating s = true → exec (.peDbgResume t) s = .next (settle (dbgResume (arrive t s)))) ∧
  (∀ (t : Nat) (mem : Fin 5) (s : State), operating s = true →
      exec (.peDbgStep t mem) s = .next (settle (dbgStep mem (arrive t s)))) ∧
  (∀ (t : Nat) (c : Call) (p : Bytes) (s : State), Executes 0x1500 c (tick t s) →
      exec (.peLoadOpen t c p) s = .next (settle (answer 0x1500 c (opLoadOpen p (atWork t s))))) ∧
  (∀ (t : Nat) (c : Call) (p : Bytes) (s : State), Executes 0x1501 c (tick t s) →
      exec (.peLoadChunk t c p) s = .next (settle (answer 0x1501 c (opLoadChunk p (atWork t s))))) ∧
  (∀ (t : Nat) (c : Call) (p : Bytes) (s : State), Executes 0x1502 c (tick t s) →
      exec (.peLoadClose t c p) s = .next (settle (answer 0x1502 c (opLoadClose p (atWork t s))))) ∧
  (∀ (t : Nat) (c : Call) (p : Bytes) (s : State), Executes 0x1503 c (tick t s) →
      exec (.peBankSwitch t c p) s = .next (settle (answer 0x1503 c (opBankSwitch p (atWork t s))))) ∧
  (∀ (t : Nat) (bank : Fin 2) (s : State), operating s = true →
      exec (.bankDrained t bank) s = .next (settle (bankDrainedOp bank (arrive t s))))

/-- Every command of classification and rule turns ends in the next state its own operation gives it. -/
def Obligations.ClassifyComplete : Prop :=
  (∀ (t : Nat) (input : Fin 19) (errors : List MemErr) (s : State), operating s = true →
      exec (.classificationDecision t input errors) s = .next (settle (decideInput input errors (arrive t s)))) ∧
  (∀ (t : Nat) (c : Call) (p : Bytes) (s : State), Executes 0x1600 c (tick t s) →
      exec (.clTurnOpen t c p) s = .next (settle (answer 0x1600 c (opTurnOpen p (atWork t s))))) ∧
  (∀ (t : Nat) (c : Call) (p : Bytes) (s : State), Executes 0x1601 c (tick t s) →
      exec (.clRuleAdd t c p) s = .next (settle (answer 0x1601 c (opRuleAdd p (atWork t s))))) ∧
  (∀ (t : Nat) (c : Call) (p : Bytes) (s : State), Executes 0x1602 c (tick t s) →
      exec (.clRuleDel t c p) s = .next (settle (answer 0x1602 c (opRuleDel p (atWork t s))))) ∧
  (∀ (t : Nat) (c : Call) (p : Bytes) (s : State), Executes 0x1603 c (tick t s) →
      exec (.clTurnCommit t c p) s = .next (settle (answer 0x1603 c (opTurnCommit c p (atWork t s))))) ∧
  (∀ (t : Nat) (s : State), operating s = true → exec (.commitInstant t) s = .next (settle (commitInstantOp (arrive t s)))) ∧
  (∀ (t : Nat) (s : State), operating s = true → exec (.drainTimeout t) s = .next (settle (drainTimeoutOp (arrive t s)))) ∧
  (∀ (t : Nat) (c : Call) (p : Bytes) (s : State), Executes 0x1604 c (tick t s) →
      exec (.clTurnAbort t c p) s = .next (settle (answer 0x1604 c (opTurnAbort p (atWork t s))))) ∧
  (∀ (t : Nat) (c : Call) (p : Bytes) (s : State), Executes 0x1605 c (tick t s) →
      exec (.clRuleRead t c p) s = .next (settle (answer 0x1605 c (opRuleRead p (atWork t s))))) ∧
  (∀ (t : Nat) (high : Bool) (data : BitVec 32) (s : State), operating s = true →
      exec (.clMissActWrite t high data) s = .next (settle (missActWrite high data.toNat (arrive t s)))) ∧
  (∀ (t : Nat) (entry : Fin 8192) (uncorrectable : Bool) (s : State), operating s = true →
      exec (.ternaryScrub t entry uncorrectable) s = .next (settle (scrub entry uncorrectable (arrive t s))))

/-- Every command of the cipher engine ends in the next state its own operation gives it. -/
def Obligations.CipherComplete : Prop :=
  (∀ (t : Nat) (request : Nat) (aad : Bytes) (data : Bytes) (hold : List HoldErr) (s : State), coreOn s = true →
      exec (.cipherTagVerified t request aad data hold) s = .next (settle (tagVerified request aad data hold (arrive t s)))) ∧
  (∀ (t : Nat) (request : Nat) (data : Bytes) (s : State), coreOn s = true →
      exec (.streamingChunkRelease t request data) s = .next (settle (chunkReleased request data (arrive t s)))) ∧
  (∀ (t : Nat) (c : Call) (p : Bytes) (s : State), Executes 0x4001 c (tick t s) →
      exec (.cxKeyLoad t c p) s = .next (settle (answer 0x4001 c (opKeyLoad p (atWork t s))))) ∧
  (∀ (t : Nat) (c : Call) (p : Bytes) (s : State), Executes 0x4002 c (tick t s) →
      exec (.cxKeyErase t c p) s = .next (settle (answer 0x4002 c (opKeyErase p (atWork t s))))) ∧
  (∀ (t : Nat) (c : Call) (p : Bytes) (s : State), Executes 0x4003 c (tick t s) →
      exec (.cxKeyInfo t c p) s = .next (settle (answer 0x4003 c (opKeyInfo p (atWork t s))))) ∧
  (∀ (t : Nat) (c : Call) (p : Bytes) (s : State), Executes 0x4010 c (tick t s) →
      exec (.cxRequest t c p) s = .next (settle (answer 0x4010 c (opCxRequest c p (atWork t s))))) ∧
  (∀ (t : Nat) (c : Call) (p : Bytes) (s : State), Executes 0x4011 c (tick t s) →
      exec (.cxVoidReg t c p) s = .next (settle (answer 0x4011 c (opVoidReg p (atWork t s))))) ∧
  (∀ (t : Nat) (c : Call) (p : Bytes) (s : State), Executes 0x4012 c (tick t s) →
      exec (.cxVoidUnreg t c p) s = .next (settle (answer 0x4012 c (opVoidUnreg p (atWork t s))))) ∧
  (∀ (t : Nat) (c : Call) (p : Bytes) (s : State), Executes 0x4020 c (tick t s) →
      exec (.cxSecpduWrite t c p) s = .next (settle (answer 0x4020 c (opSecpduWrite p (atWork t s))))) ∧
  (∀ (t : Nat) (c : Call) (p : Bytes) (s : State), Executes 0x4021 c (tick t s) →
      exec (.cxFvRead t c p) s = .next (settle (answer 0x4021 c (opFvRead p (atWork t s))))) ∧
  (∀ (t : Nat) (c : Call) (p : Bytes) (s : State), Executes 0x4022 c (tick t s) →
      exec (.cxFvSet t c p) s = .next (settle (answer 0x4022 c (opFvSetAll p (atWork t s))))) ∧
  (∀ (t : Nat) (c : Call) (p : Bytes) (s : State), Executes 0x4030 c (tick t s) →
      exec (.cxProfileWrite t c p) s = .next (settle (answer 0x4030 c (opProfileWrite p (atWork t s))))) ∧
  (∀ (t : Nat) (c : Call) (p : Bytes) (s : State), Executes 0x4040 c (tick t s) →
      exec (.macsecPortCfg t c p) s = .next (settle (answer 0x4040 c (opMacsecPort p (atWork t s))))) ∧
  (∀ (t : Nat) (c : Call) (p : Bytes) (s : State), Executes 0x4041 c (tick t s) →
      exec (.macsecSaInstall t c p) s = .next (settle (answer 0x4041 c (opMacsecInstall p (atWork t s))))) ∧
  (∀ (t : Nat) (c : Call) (p : Bytes) (s : State), Executes 0x4042 c (tick t s) →
      exec (.macsecSaCtrl t c p) s = .next (settle (answer 0x4042 c (opMacsecCtrl p (atWork t s))))) ∧
  (∀ (t : Nat) (request : Nat) (aad : Bytes) (data : Bytes) (s : State), coreOn s = true →
      exec (.cipherRequestCompleted t request aad data) s = .next (settle (requestDone request aad data (arrive t s))))

/-- Every command of the Tyeth fabric ends in the next state its own operation gives it. -/
def Obligations.FabricComplete : Prop :=
  (∀ (g : GwAt) (_device : Fin 64) (payload : Bytes) (s : State), operating s = true →
      exec (.canCopyReceived g _device payload) s = .next (settle (withGatewayErrors g.errors (fun s => serveAll (copyReceived payload s)) (arrive g.t s)))) ∧
  (∀ (t : Nat) (link : Fin 4) (s : State), operating s = true →
      exec (.tlLinkUp t link) s = .next (settle (tlUp link (arrive t s)))) ∧
  (∀ (t : Nat) (link : Fin 4) (cause : Fin 4) (s : State), operating s = true →
      exec (.tlLinkDown t link cause) s = .next (settle (tlDown link cause (arrive t s)))) ∧
  (∀ (t : Nat) (link : Fin 4) (s : State), operating s = true →
      exec (.protectionApplied t link) s = .next (settle (protect link (arrive t s)))) ∧
  (∀ (t : Nat) (device : Fin 64) (s : State), operating s = true →
      exec (.destinationUnreachableTimeout t device) s = .next (settle (unreachableTimeout device.val (arrive t s)))) ∧
  (∀ (t : Nat) (link : Fin 4) (f : FabFrame) (crcOk : Bool) (mac : LinkSeal) (s : State), operating s = true → s.wk.entry = none →
      exec (.fabricFrameReceived t link f crcOk mac) s = .next (settle (fabricFrame link f crcOk mac.counter mac.tag (arrive t s)))) ∧
  (∀ (t : Nat) (link : Fin 4) (s : State), operating s = true →
      exec (.helloTimer t link) s = .next (settle (helloSend link (arrive t s)))) ∧
  (∀ (t : Nat) (link : Fin 4) (h : Hello) (s : State), operating s = true →
      exec (.helloReceived t link h) s = .next (settle (helloHeard link h (arrive t s)))) ∧
  (∀ (t : Nat) (s : State), operating s = true →
      exec (.deviceRecordTimer t) s = .next (settle (sendRecordAll (arrive t s)))) ∧
  (∀ (t : Nat) (r : DevRecord) (s : State), operating s = true →
      exec (.deviceRecordReceived t r) s = .next (settle (recordHeard r (arrive t s)))) ∧
  (∀ (t : Nat) (uid : Nat) (s : State), operating s = true →
      exec (.deviceRecordExpired t uid) s = .next (settle (recordExpired uid (arrive t s)))) ∧
  (∀ (t : Nat) (s : State), operating s = true →
      exec (.electionSettled t) s = .next (settle (electionSettledOp (arrive t s)))) ∧
  (∀ (t : Nat) (uid : Nat) (id : Fin 64) (status : Nat) (s : State), operating s = true →
      exec (.idAssign t uid id status) s = .next (settle (idAssigned uid id status (arrive t s)))) ∧
  (∀ (t : Nat) (generation : Nat) (flood : Fin 16) (entries : List Nat) (uids : List Nat) (s : State), operating s = true →
      exec (.routeUpdate t generation flood entries uids) s = .next (settle (routesHeard generation flood entries uids (arrive t s)))) ∧
  (∀ (t : Nat) (generation : Nat) (s : State), operating s = true →
      exec (.routeActivate t generation) s = .next (settle (routesActivated generation (arrive t s)))) ∧
  (∀ (t : Nat) (device : Fin 64) (code : Nat) (generation : Nat) (status : Nat) (s : State), operating s = true →
      exec (.acknowledge t device code generation status) s = .next (settle (acknowledged device code generation status (arrive t s)))) ∧
  (∀ (t : Nat) (pair : Fin 2) (cause : Fin 3) (s : State), operating s = true →
      exec (.sleeveClose t pair cause) s = .next (settle (sleeveCloseOp pair cause (arrive t s)))) ∧
  (∀ (t : Nat) (pair : Fin 2) (s : State), operating s = true →
      exec (.sleeveOpen t pair) s = .next (settle (sleeveOpenOp pair (arrive t s)))) ∧
  (∀ (t : Nat) (link : Fin 4) (nonce : Bytes) (index : Fin 2) (refused : Bool) (s : State), operating s = true →
      exec (.linkKeyOffer t link nonce index refused) s = .next (settle (keyOffer link nonce index refused (arrive t s)))) ∧
  (∀ (t : Nat) (link : Fin 4) (s : State), operating s = true →
      exec (.linkRekeyTimer t link) s = .next (settle (rekeyTimer link (arrive t s)))) ∧
  (∀ (t : Nat) (device : Fin 64) (r : Rra) (s : State), operating s = true → s.wk.entry = none →
      exec (.rraRequest t device r) s = .next (settle (serveAll (rraRequestOp device.val r (arrive t s))))) ∧
  (∀ (t : Nat) (device : Fin 64) (r : Rra) (s : State), operating s = true →
      exec (.rraResponse t device r) s = .next (settle (rraResponseOp device.val r (arrive t s)))) ∧
  (∀ (t : Nat) (init : Fin 4) (target : Fin 64) (tag : Fin 65536) (s : State), operating s = true →
      exec (.postedWriteTimeout t init target tag) s = .next (settle (postedTimeout init.val target.val tag.val (arrive t s)))) ∧
  (∀ (t : Nat) (init : Fin 4) (target : Fin 64) (tag : Fin 65536) (s : State), operating s = true →
      exec (.npTimeout t init target tag) s = .next (settle (npTimeoutOp init.val target.val tag.val (arrive t s)))) ∧
  (∀ (t : Nat) (s : State), operating s = true →
      exec (.lockReleaseTimeout t) s = .next (settle (serveAll (lockTimeoutOp (arrive t s))))) ∧
  (∀ (t : Nat) (c : Call) (p : Bytes) (s : State), Executes 0x5001 c (tick t s) →
      exec (.tfTopoRead t c p) s = .next (settle (answer 0x5001 c (opTopoRead p (atWork t s))))) ∧
  (∀ (t : Nat) (c : Call) (p : Bytes) (s : State), Executes 0x5002 c (tick t s) →
      exec (.tfIdRelease t c p) s = .next (settle (answer 0x5002 c (opIdRelease p (atWork t s))))) ∧
  (∀ (t : Nat) (c : Call) (p : Bytes) (s : State), Executes 0x5003 c (tick t s) →
      exec (.tfRouteRead t c p) s = .next (settle (answer 0x5003 c (opRouteRead p (atWork t s))))) ∧
  (∀ (t : Nat) (c : Call) (p : Bytes) (s : State), Executes 0x5010 c (tick t s) →
      exec (.tfFence t c p) s = .next (settle (answer 0x5010 c (opFence c p (atWork t s))))) ∧
  (∀ (t : Nat) (c : Call) (p : Bytes) (s : State), Executes 0x5011 c (tick t s) →
      exec (.tfRra t c p) s = .next (settle (longAnswer 0x5011 c (atWork t s) (opRra c p)))) ∧
  (∀ (t : Nat) (c : Call) (p : Bytes) (s : State), Executes 0x5020 c (tick t s) →
      exec (.tfRekey t c p) s = .next (settle (answer 0x5020 c (opRekey p (atWork t s)))))

/-- Every command of the host bridge and SPI ends in the next state its own operation gives it. -/
def Obligations.HostComplete : Prop :=
  (∀ (t : Nat) (cause : Fin 4) (s : State), coreOn s = true →
      exec (.hostBridgeReset t cause) s = .next (settle (bridgeReset cause.val (arrive t s)))) ∧
  (∀ (t : Nat) (width : Fin 8) (speed : Fin 8) (s : State), coreOn s = true →
      exec (.pcieLinkUp t width speed) s = .next (settle (pcieUp width.val speed.val (arrive t s)))) ∧
  (∀ (r : MmAt) (window : Fin 16) (offset : Nat) (len : Nat) (s : State), coreOn s = true →
      exec (.windowRead r window offset len) s = .next (settle (windowReadOp window.val offset len r.errors (arrive r.t s)))) ∧
  (∀ (t : Nat) (window : Fin 16) (offset : Nat) (data : Bytes) (s : State), coreOn s = true →
      exec (.windowWrite t window offset data) s = .next (settle (serveAll (windowWriteOp window.val offset data (arrive t s))))) ∧
  (∀ (t : Nat) (window : Option (Fin 16)) (offset : Nat) (op : Fin 3) (operand : Bytes) (compare : Bytes) (s : State), coreOn s = true →
      exec (.atomicOp t window offset op operand compare) s = .next (settle (serveAll (atomicOp (window.map (fun w => w.val)) offset op.val operand compare (arrive t s))))) ∧
  (∀ (t : Nat) (device : Fin 64) (r : Rra) (s : State), operating s = true →
      exec (.deferredResultArrival t device r) s = .next (settle (deferredArrival device.val r (arrive t s)))) ∧
  (∀ (t : Nat) (id : Nat) (s : State), coreOn s = true →
      exec (.heldReadExpired t id) s = .next (settle (heldExpired id (arrive t s)))) ∧
  (∀ (t : Nat) (ring : Fin 8) (tail : Nat) (descs : List HostDesc) (s : State), coreOn s = true →
      exec (.hbRingTailWrite t ring tail descs) s = .next (settle (ringTail ring.val tail descs (leaveIdle (arrive t s))))) ∧
  (∀ (t : Nat) (ring : Fin 8) (data : BitVec 32) (s : State), coreOn s = true →
      exec (.hbRingSizeWrite t ring data) s = .next (settle (ringSizeWrite ring.val data.toNat (arrive t s)))) ∧
  (∀ (t : Nat) (addr : BitVec 32) (data : Bytes) (s : State), wakesDevice (arrive t s) 3 = false → tapOn (arrive t s) = true →
      exec (.spiRegisterWrite t addr data) s = .next (settle (serveAll (spiWriteOp addr.toNat data (arrive t s))))) ∧
  (∀ (r : MmAt) (addr : BitVec 32) (words : Nat) (s : State), wakesDevice (arrive r.t s) 3 = false → tapOn (arrive r.t s) = true →
      exec (.spiRegisterRead r addr words) s = .next (settle (serveAll (spiReadOp addr.toNat words r.errors (arrive r.t s))))) ∧
  (∀ (t : Nat) (s : State), exec (.spiStatus t) s = .next (settle (spiStatusOp (arrive t s)))) ∧
  (∀ (t : Nat) (id : Nat) (s : State), coreOn s = true →
      exec (.readDeferred t id) s = .next (settle (readWaitOver id (arrive t s))))

/-- Every command of the command transports ends in the next state its own operation gives it. -/
def Obligations.CommandsComplete : Prop :=
  (∀ (t : Nat) (data : Bytes) (s : State), wakesDevice (arrive t s) 3 = false → tapOn (arrive t s) = true →
      exec (.spiCommandWrite t data) s = .next (settle (serveAll (spiCommandOp data (arrive t s))))) ∧
  (∀ (t : Nat) (clocked : Nat) (s : State), wakesDevice (arrive t s) 3 = false → tapOn (arrive t s) = true →
      exec (.spiReplyRead t clocked) s = .next (settle (serveAll (spiReply clocked (arrive t s))))) ∧
  (∀ (t : Nat) (s : State), wakesDevice (arrive t s) 3 = false → tapOn (arrive t s) = true →
      exec (.spiCommandStatus t) s = .next (settle (serveAll (spiCommandByte (arrive t s))))) ∧
  (∀ (t : Nat) (q : Fin 4) (tail : Fin 256) (subs : List Submission) (s : State), coreOn s = true →
      exec (.cmdQpSqTailWrite t q tail subs) s = .next (settle (sqTail q tail.val subs (arrive t s)))) ∧
  (∀ (t : Nat) (q : Fin 4) (head : Fin 256) (s : State), coreOn s = true →
      exec (.cmdQpCqHeadWrite t q head) s = .next (settle (pump (wr (arrive t s) Reg.CMD_QP_CQ_HEAD.head head.val q.val)))) ∧
  (∀ (t : Nat) (q : Fin 4) (en : Bool) (s : State), coreOn s = true →
      exec (.cmdQpCtrlWrite t q en) s = .next (settle (pump (queueControl q.val en (arrive t s))))) ∧
  (∀ (t : Nat) (r : Fin 2) (data : BitVec 32) (s : State), coreOn s = true →
      exec (.cmdEvrCfgWrite t r data) s = .next (settle (eventRingControl r.val data.toNat (arrive t s)))) ∧
  (∀ (t : Nat) (port : Fin 12) (frame : Bytes) (s : State), operating s = true → s.wk.entry = none →
      exec (.inbandCommandFrame t port frame) s = .next (settle (inbandFrame port frame (arrive t s)))) ∧
  (∀ (t : Nat) (device : Fin 64) (packet : Bytes) (s : State), operating s = true → s.wk.entry = none →
      exec (.forwardedCommand t device packet) s = .next (settle (forwardedCommand device packet (arrive t s)))) ∧
  (∀ (t : Nat) (device : Fin 64) (packet : Bytes) (s : State), operating s = true → s.wk.entry = none →
      exec (.forwardedReply t device packet) s = .next (settle (forwardedReply device.val packet (arrive t s)))) ∧
  (∀ (t : Nat) (device : Fin 64) (tag : Nat) (s : State), operating s = true →
      exec (.forwardTimeout t device tag) s = .next (settle (forwardTimeout device.val tag (arrive t s)))) ∧
  (∀ (t : Nat) (c : Call) (p : Bytes) (s : State), Executes 0x0001 c (tick t s) →
      exec (.sysInfo t c p) s = .next (settle (answer 0x0001 c (opInfo p (atWork t s))))) ∧
  (∀ (t : Nat) (c : Call) (p : Bytes) (s : State), Executes 0x0002 c (tick t s) →
      exec (.sysEcho t c p) s = .next (settle (answer 0x0002 c (opEcho p (atWork t s))))) ∧
  (∀ (t : Nat) (c : Call) (p : Bytes) (s : State), Executes 0x0003 c (tick t s) →
      exec (.sysNonce t c p) s = .next (settle (answer 0x0003 c (opNonce p (atWork t s))))) ∧
  (∀ (t : Nat) (c : Call) (p : Bytes) (s : State), Executes 0x0004 c (tick t s) →
      exec (.sysShutdown t c p) s = .next (settle (answer 0x0004 c (opShutdown p (atWork t s))))) ∧
  (∀ (t : Nat) (c : Call) (p : Bytes) (s : State), Executes 0x0005 c (tick t s) →
      exec (.sysRestart t c p) s = .next (settle (ownAnswer 0x0005 c (opRestart c p (atWork t s))))) ∧
  (∀ (t : Nat) (c : Call) (p : Bytes) (s : State), Executes 0x0006 c (tick t s) →
      exec (.sysEventRead t c p) s = .next (settle (answer 0x0006 c (opEventRead p (reportRefused (atWork t s)))))) ∧
  (∀ (t : Nat) (c : Call) (p : Bytes) (s : State), Executes 0x0020 c (tick t s) →
      exec (.sysEventPush t c p) s = .next (settle (ownAnswer 0x0020 c (opEventPush c p (atWork t s)))))

/-- Every command of the wake die, sleep and wake, and the supplies ends in the next state its own operation gives it. -/
def Obligations.PowerComplete : Prop :=
  (∀ (t : Nat) (ch : Fin 32) (recessive : Bool) (s : State),
      exec (.dominantTimeout t ch recessive) s = .next (settle (serveAll (dominantOp ch.val recessive (arrive t s))))) ∧
  (∀ (t : Nat) (ch : Fin 32) (s : State),
      exec (.busWakePattern t ch) s = .next (settle (serveAll (wupOp ch.val (arrive t s))))) ∧
  (∀ (t : Nat) (ch : Fin 32) (f : SwkFrame) (s : State),
      exec (.swkDecodedFrame t ch f) s = .next (settle (serveAll (swkOp ch.val f (arrive t s))))) ∧
  (∀ (t : Nat) (pin : Fin 4) (level : Bool) (s : State),
      exec (.wakePin t pin level) s = .next (settle (serveAll (wakePinOp pin.val level (arrive t s))))) ∧
  (∀ (t : Nat) (kind : Fin 3) (s : State), exec (.pcieWake t kind) s = .next (settle (pcieWakeOp kind.val (arrive t s)))) ∧
  (∀ (t : Nat) (port : Fin 12) (s : State),
      exec (.ethernetSignalWake t port) s = .next (settle (ethWakeOp port.val (arrive t s)))) ∧
  (∀ (t : Nat) (_link : Fin 4) (s : State), exec (.tyethSignalWake t _link) s = .next (settle (tlWakeOp (arrive t s)))) ∧
  (∀ (t : Nat) (s : State), exec (.debugTckWake t) s = .next (settle (tckWakeOp (arrive t s)))) ∧
  (∀ (t : Nat) (group : Fin 16) (node : Fin 256) (s : State),
      exec (.nmTimeout t group node) s = .next (settle (serveAll (nmTimeoutOp group.val node.val (arrive t s))))) ∧
  (∀ (t : Nat) (group : Fin 16) (s : State),
      exec (.nmPeriod t group) s = .next (settle (serveAll (nmPeriodOp group.val (arrive t s))))) ∧
  (∀ (t : Nat) (group : Fin 16) (s : State),
      exec (.wakeHoldExpired t group) s = .next (settle (serveAll (holdExpiredOp group.val (arrive t s))))) ∧
  (∀ (t : Nat) (group : Fin 16) (s : State),
      exec (.sleepCommit t group) s = .next (settle (serveAll (sleepCommitOp group.val (arrive t s))))) ∧
  (∀ (t : Nat) (group : Fin 16) (s : State),
      exec (.keepAwakeOffender t group) s = .next (settle (offenderOp group.val (arrive t s)))) ∧
  (∀ (t : Nat) (c : Call) (p : Bytes) (s : State), Executes 0x6001 c (tick t s) →
      exec (.pwrGrpRequest t c p) s = .next (settle (serveAll (answer 0x6001 c (opGrpRequest p (channelsSync (atWork t s))))))) ∧
  (∀ (t : Nat) (c : Call) (p : Bytes) (s : State), Executes 0x6002 c (tick t s) →
      exec (.pwrGrpState t c p) s = .next (settle (answer 0x6002 c (opGrpState p (atWork t s))))) ∧
  (∀ (t : Nat) (c : Call) (p : Bytes) (s : State), Executes 0x6003 c (tick t s) →
      exec (.pwrNodesRead t c p) s = .next (settle (answer 0x6003 c (opNodesRead p (atWork t s))))) ∧
  (∀ (t : Nat) (c : Call) (p : Bytes) (s : State), Executes 0x6010 c (tick t s) →
      exec (.pwrSchedWrite t c p) s = .next (settle (answer 0x6010 c (opSchedWrite p (atWork t s))))) ∧
  (∀ (t : Nat) (c : Call) (p : Bytes) (s : State), Executes 0x6011 c (tick t s) →
      exec (.pwrSchedRead t c p) s = .next (settle (answer 0x6011 c (opSchedRead p (atWork t s))))) ∧
  (∀ (t : Nat) (s : State), coreOn s = true → exec (.idleEntry t) s = .next (settle (idleOp (arrive t s)))) ∧
  (∀ (t : Nat) (s : State), coreOn s = true → exec (.lowPowerChoice t) s = .next (settle (lowPowerOp (arrive t s)))) ∧
  (∀ (t : Nat) (s : State), exec (.switchOff t) s = .next (settle (switchOffOp (arrive t s)))) ∧
  (∀ (t : Nat) (index : Fin 16) (s : State),
      exec (.scheduleWake t index) s = .next (settle (scheduleWakeOp index.val (arrive t s)))) ∧
  (∀ (t : Nat) (index : Fin 16) (s : State),
      exec (.scheduleHoldEnd t index) s = .next (settle (holdEndOp index.val (arrive t s)))) ∧
  (∀ (t : Nat) (inputs : StartInputs) (s : State),
      exec (.returnToRun t inputs) s = .next (settle (returnToRun inputs (arrive t s)))) ∧
  (∀ (t : Nat) (rail : Fin 3) (below : Bool) (s : State),
      exec (.supplyMonitorCrossing t rail below) s = .next (settle (supplyOp rail.val below (arrive t s)))) ∧
  (∀ (t : Nat) (below : Bool) (s : State), exec (.wakeDieReset t below) s = .next (settle (vbatOp below (arrive t s)))) ∧
  (∀ (t : Nat) (low : Bool) (s : State), exec (.resetN t low) s = .next (settle (resetPinOp low (arrive t s))))

/-- Every command of start, update and settings ends in the next state its own operation gives it. -/
def Obligations.StartComplete : Prop :=
  (∀ (t : Nat) (inputs : StartInputs) (s : State),
      exec (.deviceStart t inputs) s = .next (settle (deviceStart inputs (arrive t s)))) ∧
  (∀ (t : Nat) (s : State), exec (.startStepTimeout t) s = .next (settle (stepTimeout (arrive t s)))) ∧
  (∀ (t : Nat) (inputs : StartInputs) (s : State),
      exec (.startRetry t inputs) s = .next (settle (startRetry inputs (arrive t s)))) ∧
  (∀ (t : Nat) (slot : Fin 4) (offset : Nat) (s : State), coreOn s = true →
      exec (.slotEraseComplete t slot offset) s = .next (settle (slotErased slot offset (arrive t s)))) ∧
  (∀ (t : Nat) (c : Call) (p : Bytes) (s : State), Executes 0x7001 c (tick t s) →
      exec (.updOpen t c p) s = .next (settle (answer 0x7001 c (opUpdOpen c p (atWork t s))))) ∧
  (∀ (t : Nat) (c : Call) (p : Bytes) (s : State), Executes 0x7002 c (tick t s) →
      exec (.updWrite t c p) s = .next (settle (answer 0x7002 c (opUpdWrite p (atWork t s))))) ∧
  (∀ (t : Nat) (c : Call) (p : Bytes) (s : State), Executes 0x7003 c (tick t s) →
      exec (.updClose t c p) s = .next (settle (answer 0x7003 c (opUpdClose p (atWork t s))))) ∧
  (∀ (t : Nat) (c : Call) (p : Bytes) (s : State), Executes 0x7004 c (tick t s) →
      exec (.updPrepare t c p) s = .next (settle (answer 0x7004 c (opUpdPrepare p (atWork t s))))) ∧
  (∀ (t : Nat) (c : Call) (p : Bytes) (s : State), Executes 0x7005 c (tick t s) →
      exec (.updActivate t c p) s = .next (settle (ownAnswer 0x7005 c (opUpdActivate c p (atWork t s))))) ∧
  (∀ (t : Nat) (c : Call) (p : Bytes) (s : State), Executes 0x7006 c (tick t s) →
      exec (.updAbort t c p) s = .next (settle (answer 0x7006 c (opUpdAbort p (atWork t s))))) ∧
  (∀ (t : Nat) (c : Call) (p : Bytes) (s : State), Executes 0x7007 c (tick t s) →
      exec (.updConfirm t c p) s = .next (settle (answer 0x7007 c (opUpdConfirm p (atWork t s))))) ∧
  (∀ (t : Nat) (c : Call) (p : Bytes) (s : State), Executes 0x7008 c (tick t s) →
      exec (.updRevert t c p) s = .next (settle (ownAnswer 0x7008 c (opUpdRevert c p (atWork t s))))) ∧
  (∀ (t : Nat) (c : Call) (p : Bytes) (s : State), Executes 0x7009 c (tick t s) →
      exec (.updStatus t c p) s = .next (settle (answer 0x7009 c (opUpdStatus p (atWork t s))))) ∧
  (∀ (t : Nat) (c : Call) (p : Bytes) (s : State), Executes 0x7010 c (tick t s) →
      exec (.updFabBegin t c p) s = .next (settle (answer 0x7010 c (opFabBegin p (atWork t s))))) ∧
  (∀ (t : Nat) (c : Call) (p : Bytes) (s : State), Executes 0x7011 c (tick t s) →
      exec (.updFabMsg t c p) s = .next (settle (ownAnswer 0x7011 c (opFabMsg c p (atWork t s))))) ∧
  (∀ (t : Nat) (s : State), coreOn s = true → exec (.fabCommitTimeout t) s = .next (settle (fabTimeout (arrive t s)))) ∧
  (∀ (t : Nat) (s : State), coreOn s = true → exec (.fabQueryTimer t) s = .next (settle (fabQuery (arrive t s)))) ∧
  (∀ (t : Nat) (s : State), coreOn s = true → exec (.commitAtRestart t) s = .next (settle (commitRestart (arrive t s)))) ∧
  (∀ (t : Nat) (c : Call) (p : Bytes) (s : State), Executes 0x7020 c (tick t s) →
      exec (.btAltClear t c p) s = .next (settle (answer 0x7020 c (opAltClear p (atWork t s))))) ∧
  (∀ (t : Nat) (data : BitVec 32) (s : State), coreOn s = true →
      exec (.btAltWrite t data) s = .next (settle (clearAlternatives (data.toNat &&& 0x3FFE) (arrive t s)))) ∧
  (∀ (t : Nat) (c : Call) (p : Bytes) (s : State), Executes 0x7030 c (tick t s) →
      exec (.settingsSave t c p) s = .next (settle (answer 0x7030 c (opSettingsSave p (atWork t s))))) ∧
  (∀ (t : Nat) (c : Call) (p : Bytes) (s : State), Executes 0x7031 c (tick t s) →
      exec (.settingsInfo t c p) s = .next (settle (answer 0x7031 c (opSettingsInfo p (atWork t s)))))

/-- Every command of the debug port and the lifecycle ends in the next state its own operation gives it. -/
def Obligations.DebugComplete : Prop :=
  (∀ (t : Nat) (pins : Nat) (bits : Nat) (s : State), tapOn (arrive t s) = true →
      exec (.extest t pins bits) s = .next (settle (serveAll (extestOp pins bits (arrive t s))))) ∧
  (∀ (t : Nat) (pins : Nat) (bits : Nat) (s : State), tapOn (arrive t s) = true →
      exec (.samplePreload t pins bits) s = .next (settle (serveAll (samplePreloadOp pins bits (arrive t s))))) ∧
  (∀ (t : Nat) (s : State), tapOn (arrive t s) = true →
      exec (.idcode t) s = .next (settle (serveAll (idcodeOp (arrive t s))))) ∧
  (∀ (t : Nat) (dr : BitVec 104) (s : State), tapOn (arrive t s) = true →
      exec (.dbgAccess t dr) s = .next (settle (serveAll (dbgAccessOp dr.toNat (arrive t s))))) ∧
  (∀ (t : Nat) (dr : BitVec 8) (s : State), tapOn (arrive t s) = true →
      exec (.dbgLevel t dr) s = .next (settle (serveAll (dbgLevelOp dr.toNat (arrive t s))))) ∧
  (∀ (t : Nat) (s : State), tapOn (arrive t s) = true →
      exec (.unlockChal t) s = .next (settle (serveAll (unlockChalOp (arrive t s))))) ∧
  (∀ (t : Nat) (r : Bytes) (s : State), tapOn (arrive t s) = true →
      exec (.unlockResp t r) s = .next (settle (serveAll (unlockRespOp r (arrive t s))))) ∧
  (∀ (t : Nat) (bits : Nat) (len : Nat) (s : State), tapOn (arrive t s) = true →
      exec (.bypass t bits len) s = .next (settle (serveAll (bypassOp bits len (arrive t s))))) ∧
  (∀ (t : Nat) (s : State), tapOn (arrive t s) = true →
      exec (.tapReset t) s = .next (settle (serveAll (setIr (arrive t s) 2)))) ∧
  (∀ (t : Nat) (s : State), coreOn s = true →
      exec (.debugSessionExpired t) s = .next (settle (sessionExpired (arrive t s)))) ∧
  (∀ (t : Nat) (p : Fin 3) (s : State), tapOn (arrive t s) = true →
      exec (.cpdbgHalt t p) s = .next (settle (serveAll (debugAccess true (0x300000 + 0x1000 * p.val) false 1 (arrive t s))))) ∧
  (∀ (t : Nat) (p : Fin 3) (s : State), tapOn (arrive t s) = true →
      exec (.cpdbgResume t p) s = .next (settle (serveAll (debugAccess true (0x300000 + 0x1000 * p.val) false 2 (arrive t s))))) ∧
  (∀ (t : Nat) (p : Fin 3) (s : State), tapOn (arrive t s) = true →
      exec (.cpdbgStep t p) s = .next (settle (serveAll (debugAccess true (0x300000 + 0x1000 * p.val) false 4 (arrive t s))))) ∧
  (∀ (t : Nat) (p : Fin 3) (write : Option (BitVec 32)) (s : State), tapOn (arrive t s) = true →
      exec (.cpdbgMdataAccess t p write) s = .next (settle (serveAll (mdataAccess p.val write (arrive t s))))) ∧
  (∀ (t : Nat) (kind : Fin 5) (present : Bool) (s : State),
      exec (.alarm t kind present) s = .next (settle (alarmOp kind.val present (arrive t s)))) ∧
  (∀ (t : Nat) (s : State), exec (.alarmReset t) s = .next (settle (alarmReset (arrive t s)))) ∧
  (∀ (t : Nat) (c : Call) (p : Bytes) (s : State), Executes 0x4050 c (tick t s) →
      exec (.lcInfo t c p) s = .next (settle (answer 0x4050 c (opLcInfo p (atWork t s))))) ∧
  (∀ (t : Nat) (c : Call) (p : Bytes) (s : State), Executes 0x4051 c (tick t s) →
      exec (.lcAdvance t c p) s = .next (settle (ownAnswer 0x4051 c (opLcAdvance c p (atWork t s))))) ∧
  (∀ (t : Nat) (c : Call) (p : Bytes) (s : State), Executes 0x4052 c (tick t s) →
      exec (.lcReturn t c p) s = .next (settle (ownAnswer 0x4052 c (opLcReturn c p (atWork t s))))) ∧
  (∀ (t : Nat) (c : Call) (p : Bytes) (s : State), Executes 0x4053 c (tick t s) →
      exec (.lcScrap t c p) s = .next (settle (ownAnswer 0x4053 c (opLcScrap c p (atWork t s))))) ∧
  (∀ (t : Nat) (c : Call) (p : Bytes) (s : State), Executes 0x4054 c (tick t s) →
      exec (.lcRelock t c p) s = .next (settle (answer 0x4054 c (opLcRelock p (atWork t s))))) ∧
  (∀ (t : Nat) (c : Call) (p : Bytes) (s : State), Executes 0x4055 c (tick t s) →
      exec (.lcVkeyWrite t c p) s = .next (settle (answer 0x4055 c (opVkeyWrite p (atWork t s))))) ∧
  (∀ (t : Nat) (c : Call) (p : Bytes) (s : State), Executes 0x4056 c (tick t s) →
      exec (.lcVkeyRevoke t c p) s = .next (settle (answer 0x4056 c (opVkeyRevoke p (atWork t s))))) ∧
  (∀ (t : Nat) (c : Call) (p : Bytes) (s : State), Executes 0x4057 c (tick t s) →
      exec (.lcTamperClear t c p) s = .next (settle (answer 0x4057 c (opTamperClear p (atWork t s)))))
end

