-- ==== Sys2Proof/Laws/Blocks.lean ====
section
/-! SUPPORT. What an update of one block's part of the state changes and leaves, field by field. -/

namespace Sys2Proof.Machine

@[simp] theorem modSg_now (s : State) (f : SgState → SgState) : (modSg s f).now = s.now := rfl
@[simp] theorem modSg_regs (s : State) (f : SgState → SgState) : (modSg s f).regs = s.regs := rfl
@[simp] theorem modSg_irq (s : State) (f : SgState → SgState) : (modSg s f).irq = s.irq := rfl
@[simp] theorem modSg_dt (s : State) (f : SgState → SgState) : (modSg s f).dt = s.dt := rfl
@[simp] theorem modSg_ev (s : State) (f : SgState → SgState) : (modSg s f).ev = s.ev := rfl
@[simp] theorem modSg_mp (s : State) (f : SgState → SgState) : (modSg s f).mp = s.mp := rfl
@[simp] theorem modSg_lr (s : State) (f : SgState → SgState) : (modSg s f).lr = s.lr := rfl
@[simp] theorem modSg_can (s : State) (f : SgState → SgState) : (modSg s f).can = s.can := rfl
@[simp] theorem modSg_mem (s : State) (f : SgState → SgState) : (modSg s f).mem = s.mem := rfl
@[simp] theorem modSg_sg (s : State) (f : SgState → SgState) : (modSg s f).sg = f s.sg := rfl
@[simp] theorem modSg_ba (s : State) (f : SgState → SgState) : (modSg s f).ba = s.ba := rfl
@[simp] theorem modSg_cx (s : State) (f : SgState → SgState) : (modSg s f).cx = s.cx := rfl
@[simp] theorem modSg_sw (s : State) (f : SgState → SgState) : (modSg s f).sw = s.sw := rfl
@[simp] theorem modSg_ft (s : State) (f : SgState → SgState) : (modSg s f).ft = s.ft := rfl
@[simp] theorem modSg_pe (s : State) (f : SgState → SgState) : (modSg s f).pe = s.pe := rfl
@[simp] theorem modSg_cl (s : State) (f : SgState → SgState) : (modSg s f).cl = s.cl := rfl
@[simp] theorem modSg_tf (s : State) (f : SgState → SgState) : (modSg s f).tf = s.tf := rfl
@[simp] theorem modSg_hb (s : State) (f : SgState → SgState) : (modSg s f).hb = s.hb := rfl
@[simp] theorem modSg_cmd (s : State) (f : SgState → SgState) : (modSg s f).cmd = s.cmd := rfl
@[simp] theorem modSg_wk (s : State) (f : SgState → SgState) : (modSg s f).wk = s.wk := rfl
@[simp] theorem modSg_bt (s : State) (f : SgState → SgState) : (modSg s f).bt = s.bt := rfl
@[simp] theorem modSg_lc (s : State) (f : SgState → SgState) : (modSg s f).lc = s.lc := rfl
@[simp] theorem modSg_out (s : State) (f : SgState → SgState) : (modSg s f).out = s.out := rfl
@[simp] theorem modSg_freeCtr (s : State) (f : SgState → SgState) : (modSg s f).freeCtr = s.freeCtr := rfl
@[simp] theorem modSg_pending (s : State) (f : SgState → SgState) : (modSg s f).pending = s.pending := rfl

@[simp] theorem modLc_now (s : State) (f : LcState → LcState) : (modLc s f).now = s.now := rfl
@[simp] theorem modLc_regs (s : State) (f : LcState → LcState) : (modLc s f).regs = s.regs := rfl
@[simp] theorem modLc_irq (s : State) (f : LcState → LcState) : (modLc s f).irq = s.irq := rfl
@[simp] theorem modLc_dt (s : State) (f : LcState → LcState) : (modLc s f).dt = s.dt := rfl
@[simp] theorem modLc_ev (s : State) (f : LcState → LcState) : (modLc s f).ev = s.ev := rfl
@[simp] theorem modLc_mp (s : State) (f : LcState → LcState) : (modLc s f).mp = s.mp := rfl
@[simp] theorem modLc_lr (s : State) (f : LcState → LcState) : (modLc s f).lr = s.lr := rfl
@[simp] theorem modLc_can (s : State) (f : LcState → LcState) : (modLc s f).can = s.can := rfl
@[simp] theorem modLc_mem (s : State) (f : LcState → LcState) : (modLc s f).mem = s.mem := rfl
@[simp] theorem modLc_sg (s : State) (f : LcState → LcState) : (modLc s f).sg = s.sg := rfl
@[simp] theorem modLc_ba (s : State) (f : LcState → LcState) : (modLc s f).ba = s.ba := rfl
@[simp] theorem modLc_cx (s : State) (f : LcState → LcState) : (modLc s f).cx = s.cx := rfl
@[simp] theorem modLc_sw (s : State) (f : LcState → LcState) : (modLc s f).sw = s.sw := rfl
@[simp] theorem modLc_ft (s : State) (f : LcState → LcState) : (modLc s f).ft = s.ft := rfl
@[simp] theorem modLc_pe (s : State) (f : LcState → LcState) : (modLc s f).pe = s.pe := rfl
@[simp] theorem modLc_cl (s : State) (f : LcState → LcState) : (modLc s f).cl = s.cl := rfl
@[simp] theorem modLc_tf (s : State) (f : LcState → LcState) : (modLc s f).tf = s.tf := rfl
@[simp] theorem modLc_hb (s : State) (f : LcState → LcState) : (modLc s f).hb = s.hb := rfl
@[simp] theorem modLc_cmd (s : State) (f : LcState → LcState) : (modLc s f).cmd = s.cmd := rfl
@[simp] theorem modLc_wk (s : State) (f : LcState → LcState) : (modLc s f).wk = s.wk := rfl
@[simp] theorem modLc_bt (s : State) (f : LcState → LcState) : (modLc s f).bt = s.bt := rfl
@[simp] theorem modLc_lc (s : State) (f : LcState → LcState) : (modLc s f).lc = f s.lc := rfl
@[simp] theorem modLc_out (s : State) (f : LcState → LcState) : (modLc s f).out = s.out := rfl
@[simp] theorem modLc_freeCtr (s : State) (f : LcState → LcState) : (modLc s f).freeCtr = s.freeCtr := rfl
@[simp] theorem modLc_pending (s : State) (f : LcState → LcState) : (modLc s f).pending = s.pending := rfl

@[simp] theorem modTf_now (s : State) (f : TfState → TfState) : (modTf s f).now = s.now := rfl
@[simp] theorem modTf_regs (s : State) (f : TfState → TfState) : (modTf s f).regs = s.regs := rfl
@[simp] theorem modTf_irq (s : State) (f : TfState → TfState) : (modTf s f).irq = s.irq := rfl
@[simp] theorem modTf_dt (s : State) (f : TfState → TfState) : (modTf s f).dt = s.dt := rfl
@[simp] theorem modTf_ev (s : State) (f : TfState → TfState) : (modTf s f).ev = s.ev := rfl
@[simp] theorem modTf_mp (s : State) (f : TfState → TfState) : (modTf s f).mp = s.mp := rfl
@[simp] theorem modTf_lr (s : State) (f : TfState → TfState) : (modTf s f).lr = s.lr := rfl
@[simp] theorem modTf_can (s : State) (f : TfState → TfState) : (modTf s f).can = s.can := rfl
@[simp] theorem modTf_mem (s : State) (f : TfState → TfState) : (modTf s f).mem = s.mem := rfl
@[simp] theorem modTf_sg (s : State) (f : TfState → TfState) : (modTf s f).sg = s.sg := rfl
@[simp] theorem modTf_ba (s : State) (f : TfState → TfState) : (modTf s f).ba = s.ba := rfl
@[simp] theorem modTf_cx (s : State) (f : TfState → TfState) : (modTf s f).cx = s.cx := rfl
@[simp] theorem modTf_sw (s : State) (f : TfState → TfState) : (modTf s f).sw = s.sw := rfl
@[simp] theorem modTf_ft (s : State) (f : TfState → TfState) : (modTf s f).ft = s.ft := rfl
@[simp] theorem modTf_pe (s : State) (f : TfState → TfState) : (modTf s f).pe = s.pe := rfl
@[simp] theorem modTf_cl (s : State) (f : TfState → TfState) : (modTf s f).cl = s.cl := rfl
@[simp] theorem modTf_tf (s : State) (f : TfState → TfState) : (modTf s f).tf = f s.tf := rfl
@[simp] theorem modTf_hb (s : State) (f : TfState → TfState) : (modTf s f).hb = s.hb := rfl
@[simp] theorem modTf_cmd (s : State) (f : TfState → TfState) : (modTf s f).cmd = s.cmd := rfl
@[simp] theorem modTf_wk (s : State) (f : TfState → TfState) : (modTf s f).wk = s.wk := rfl
@[simp] theorem modTf_bt (s : State) (f : TfState → TfState) : (modTf s f).bt = s.bt := rfl
@[simp] theorem modTf_lc (s : State) (f : TfState → TfState) : (modTf s f).lc = s.lc := rfl
@[simp] theorem modTf_out (s : State) (f : TfState → TfState) : (modTf s f).out = s.out := rfl
@[simp] theorem modTf_freeCtr (s : State) (f : TfState → TfState) : (modTf s f).freeCtr = s.freeCtr := rfl
@[simp] theorem modTf_pending (s : State) (f : TfState → TfState) : (modTf s f).pending = s.pending := rfl

@[simp] theorem modPe_now (s : State) (f : PeState → PeState) : (modPe s f).now = s.now := rfl
@[simp] theorem modPe_regs (s : State) (f : PeState → PeState) : (modPe s f).regs = s.regs := rfl
@[simp] theorem modPe_irq (s : State) (f : PeState → PeState) : (modPe s f).irq = s.irq := rfl
@[simp] theorem modPe_dt (s : State) (f : PeState → PeState) : (modPe s f).dt = s.dt := rfl
@[simp] theorem modPe_ev (s : State) (f : PeState → PeState) : (modPe s f).ev = s.ev := rfl
@[simp] theorem modPe_mp (s : State) (f : PeState → PeState) : (modPe s f).mp = s.mp := rfl
@[simp] theorem modPe_lr (s : State) (f : PeState → PeState) : (modPe s f).lr = s.lr := rfl
@[simp] theorem modPe_can (s : State) (f : PeState → PeState) : (modPe s f).can = s.can := rfl
@[simp] theorem modPe_mem (s : State) (f : PeState → PeState) : (modPe s f).mem = s.mem := rfl
@[simp] theorem modPe_sg (s : State) (f : PeState → PeState) : (modPe s f).sg = s.sg := rfl
@[simp] theorem modPe_ba (s : State) (f : PeState → PeState) : (modPe s f).ba = s.ba := rfl
@[simp] theorem modPe_cx (s : State) (f : PeState → PeState) : (modPe s f).cx = s.cx := rfl
@[simp] theorem modPe_sw (s : State) (f : PeState → PeState) : (modPe s f).sw = s.sw := rfl
@[simp] theorem modPe_ft (s : State) (f : PeState → PeState) : (modPe s f).ft = s.ft := rfl
@[simp] theorem modPe_pe (s : State) (f : PeState → PeState) : (modPe s f).pe = f s.pe := rfl
@[simp] theorem modPe_cl (s : State) (f : PeState → PeState) : (modPe s f).cl = s.cl := rfl
@[simp] theorem modPe_tf (s : State) (f : PeState → PeState) : (modPe s f).tf = s.tf := rfl
@[simp] theorem modPe_hb (s : State) (f : PeState → PeState) : (modPe s f).hb = s.hb := rfl
@[simp] theorem modPe_cmd (s : State) (f : PeState → PeState) : (modPe s f).cmd = s.cmd := rfl
@[simp] theorem modPe_wk (s : State) (f : PeState → PeState) : (modPe s f).wk = s.wk := rfl
@[simp] theorem modPe_bt (s : State) (f : PeState → PeState) : (modPe s f).bt = s.bt := rfl
@[simp] theorem modPe_lc (s : State) (f : PeState → PeState) : (modPe s f).lc = s.lc := rfl
@[simp] theorem modPe_out (s : State) (f : PeState → PeState) : (modPe s f).out = s.out := rfl
@[simp] theorem modPe_freeCtr (s : State) (f : PeState → PeState) : (modPe s f).freeCtr = s.freeCtr := rfl
@[simp] theorem modPe_pending (s : State) (f : PeState → PeState) : (modPe s f).pending = s.pending := rfl

@[simp] theorem modBt_now (s : State) (f : BtState → BtState) : (modBt s f).now = s.now := rfl
@[simp] theorem modBt_regs (s : State) (f : BtState → BtState) : (modBt s f).regs = s.regs := rfl
@[simp] theorem modBt_irq (s : State) (f : BtState → BtState) : (modBt s f).irq = s.irq := rfl
@[simp] theorem modBt_dt (s : State) (f : BtState → BtState) : (modBt s f).dt = s.dt := rfl
@[simp] theorem modBt_ev (s : State) (f : BtState → BtState) : (modBt s f).ev = s.ev := rfl
@[simp] theorem modBt_mp (s : State) (f : BtState → BtState) : (modBt s f).mp = s.mp := rfl
@[simp] theorem modBt_lr (s : State) (f : BtState → BtState) : (modBt s f).lr = s.lr := rfl
@[simp] theorem modBt_can (s : State) (f : BtState → BtState) : (modBt s f).can = s.can := rfl
@[simp] theorem modBt_mem (s : State) (f : BtState → BtState) : (modBt s f).mem = s.mem := rfl
@[simp] theorem modBt_sg (s : State) (f : BtState → BtState) : (modBt s f).sg = s.sg := rfl
@[simp] theorem modBt_ba (s : State) (f : BtState → BtState) : (modBt s f).ba = s.ba := rfl
@[simp] theorem modBt_cx (s : State) (f : BtState → BtState) : (modBt s f).cx = s.cx := rfl
@[simp] theorem modBt_sw (s : State) (f : BtState → BtState) : (modBt s f).sw = s.sw := rfl
@[simp] theorem modBt_ft (s : State) (f : BtState → BtState) : (modBt s f).ft = s.ft := rfl
@[simp] theorem modBt_pe (s : State) (f : BtState → BtState) : (modBt s f).pe = s.pe := rfl
@[simp] theorem modBt_cl (s : State) (f : BtState → BtState) : (modBt s f).cl = s.cl := rfl
@[simp] theorem modBt_tf (s : State) (f : BtState → BtState) : (modBt s f).tf = s.tf := rfl
@[simp] theorem modBt_hb (s : State) (f : BtState → BtState) : (modBt s f).hb = s.hb := rfl
@[simp] theorem modBt_cmd (s : State) (f : BtState → BtState) : (modBt s f).cmd = s.cmd := rfl
@[simp] theorem modBt_wk (s : State) (f : BtState → BtState) : (modBt s f).wk = s.wk := rfl
@[simp] theorem modBt_bt (s : State) (f : BtState → BtState) : (modBt s f).bt = f s.bt := rfl
@[simp] theorem modBt_lc (s : State) (f : BtState → BtState) : (modBt s f).lc = s.lc := rfl
@[simp] theorem modBt_out (s : State) (f : BtState → BtState) : (modBt s f).out = s.out := rfl
@[simp] theorem modBt_freeCtr (s : State) (f : BtState → BtState) : (modBt s f).freeCtr = s.freeCtr := rfl
@[simp] theorem modBt_pending (s : State) (f : BtState → BtState) : (modBt s f).pending = s.pending := rfl

@[simp] theorem modLr_now (s : State) (f : LrState → LrState) : (modLr s f).now = s.now := rfl
@[simp] theorem modLr_regs (s : State) (f : LrState → LrState) : (modLr s f).regs = s.regs := rfl
@[simp] theorem modLr_irq (s : State) (f : LrState → LrState) : (modLr s f).irq = s.irq := rfl
@[simp] theorem modLr_dt (s : State) (f : LrState → LrState) : (modLr s f).dt = s.dt := rfl
@[simp] theorem modLr_ev (s : State) (f : LrState → LrState) : (modLr s f).ev = s.ev := rfl
@[simp] theorem modLr_mp (s : State) (f : LrState → LrState) : (modLr s f).mp = s.mp := rfl
@[simp] theorem modLr_lr (s : State) (f : LrState → LrState) : (modLr s f).lr = f s.lr := rfl
@[simp] theorem modLr_can (s : State) (f : LrState → LrState) : (modLr s f).can = s.can := rfl
@[simp] theorem modLr_mem (s : State) (f : LrState → LrState) : (modLr s f).mem = s.mem := rfl
@[simp] theorem modLr_sg (s : State) (f : LrState → LrState) : (modLr s f).sg = s.sg := rfl
@[simp] theorem modLr_ba (s : State) (f : LrState → LrState) : (modLr s f).ba = s.ba := rfl
@[simp] theorem modLr_cx (s : State) (f : LrState → LrState) : (modLr s f).cx = s.cx := rfl
@[simp] theorem modLr_sw (s : State) (f : LrState → LrState) : (modLr s f).sw = s.sw := rfl
@[simp] theorem modLr_ft (s : State) (f : LrState → LrState) : (modLr s f).ft = s.ft := rfl
@[simp] theorem modLr_pe (s : State) (f : LrState → LrState) : (modLr s f).pe = s.pe := rfl
@[simp] theorem modLr_cl (s : State) (f : LrState → LrState) : (modLr s f).cl = s.cl := rfl
@[simp] theorem modLr_tf (s : State) (f : LrState → LrState) : (modLr s f).tf = s.tf := rfl
@[simp] theorem modLr_hb (s : State) (f : LrState → LrState) : (modLr s f).hb = s.hb := rfl
@[simp] theorem modLr_cmd (s : State) (f : LrState → LrState) : (modLr s f).cmd = s.cmd := rfl
@[simp] theorem modLr_wk (s : State) (f : LrState → LrState) : (modLr s f).wk = s.wk := rfl
@[simp] theorem modLr_bt (s : State) (f : LrState → LrState) : (modLr s f).bt = s.bt := rfl
@[simp] theorem modLr_lc (s : State) (f : LrState → LrState) : (modLr s f).lc = s.lc := rfl
@[simp] theorem modLr_out (s : State) (f : LrState → LrState) : (modLr s f).out = s.out := rfl
@[simp] theorem modLr_freeCtr (s : State) (f : LrState → LrState) : (modLr s f).freeCtr = s.freeCtr := rfl
@[simp] theorem modLr_pending (s : State) (f : LrState → LrState) : (modLr s f).pending = s.pending := rfl

@[simp] theorem modWk_now (s : State) (f : WkState → WkState) : (modWk s f).now = s.now := rfl
@[simp] theorem modWk_regs (s : State) (f : WkState → WkState) : (modWk s f).regs = s.regs := rfl
@[simp] theorem modWk_irq (s : State) (f : WkState → WkState) : (modWk s f).irq = s.irq := rfl
@[simp] theorem modWk_dt (s : State) (f : WkState → WkState) : (modWk s f).dt = s.dt := rfl
@[simp] theorem modWk_ev (s : State) (f : WkState → WkState) : (modWk s f).ev = s.ev := rfl
@[simp] theorem modWk_mp (s : State) (f : WkState → WkState) : (modWk s f).mp = s.mp := rfl
@[simp] theorem modWk_lr (s : State) (f : WkState → WkState) : (modWk s f).lr = s.lr := rfl
@[simp] theorem modWk_can (s : State) (f : WkState → WkState) : (modWk s f).can = s.can := rfl
@[simp] theorem modWk_mem (s : State) (f : WkState → WkState) : (modWk s f).mem = s.mem := rfl
@[simp] theorem modWk_sg (s : State) (f : WkState → WkState) : (modWk s f).sg = s.sg := rfl
@[simp] theorem modWk_ba (s : State) (f : WkState → WkState) : (modWk s f).ba = s.ba := rfl
@[simp] theorem modWk_cx (s : State) (f : WkState → WkState) : (modWk s f).cx = s.cx := rfl
@[simp] theorem modWk_sw (s : State) (f : WkState → WkState) : (modWk s f).sw = s.sw := rfl
@[simp] theorem modWk_ft (s : State) (f : WkState → WkState) : (modWk s f).ft = s.ft := rfl
@[simp] theorem modWk_pe (s : State) (f : WkState → WkState) : (modWk s f).pe = s.pe := rfl
@[simp] theorem modWk_cl (s : State) (f : WkState → WkState) : (modWk s f).cl = s.cl := rfl
@[simp] theorem modWk_tf (s : State) (f : WkState → WkState) : (modWk s f).tf = s.tf := rfl
@[simp] theorem modWk_hb (s : State) (f : WkState → WkState) : (modWk s f).hb = s.hb := rfl
@[simp] theorem modWk_cmd (s : State) (f : WkState → WkState) : (modWk s f).cmd = s.cmd := rfl
@[simp] theorem modWk_wk (s : State) (f : WkState → WkState) : (modWk s f).wk = f s.wk := rfl
@[simp] theorem modWk_bt (s : State) (f : WkState → WkState) : (modWk s f).bt = s.bt := rfl
@[simp] theorem modWk_lc (s : State) (f : WkState → WkState) : (modWk s f).lc = s.lc := rfl
@[simp] theorem modWk_out (s : State) (f : WkState → WkState) : (modWk s f).out = s.out := rfl
@[simp] theorem modWk_freeCtr (s : State) (f : WkState → WkState) : (modWk s f).freeCtr = s.freeCtr := rfl
@[simp] theorem modWk_pending (s : State) (f : WkState → WkState) : (modWk s f).pending = s.pending := rfl

@[simp] theorem modFt_now (s : State) (f : FtState → FtState) : (modFt s f).now = s.now := rfl
@[simp] theorem modFt_regs (s : State) (f : FtState → FtState) : (modFt s f).regs = s.regs := rfl
@[simp] theorem modFt_irq (s : State) (f : FtState → FtState) : (modFt s f).irq = s.irq := rfl
@[simp] theorem modFt_dt (s : State) (f : FtState → FtState) : (modFt s f).dt = s.dt := rfl
@[simp] theorem modFt_ev (s : State) (f : FtState → FtState) : (modFt s f).ev = s.ev := rfl
@[simp] theorem modFt_mp (s : State) (f : FtState → FtState) : (modFt s f).mp = s.mp := rfl
@[simp] theorem modFt_lr (s : State) (f : FtState → FtState) : (modFt s f).lr = s.lr := rfl
@[simp] theorem modFt_can (s : State) (f : FtState → FtState) : (modFt s f).can = s.can := rfl
@[simp] theorem modFt_mem (s : State) (f : FtState → FtState) : (modFt s f).mem = s.mem := rfl
@[simp] theorem modFt_sg (s : State) (f : FtState → FtState) : (modFt s f).sg = s.sg := rfl
@[simp] theorem modFt_ba (s : State) (f : FtState → FtState) : (modFt s f).ba = s.ba := rfl
@[simp] theorem modFt_cx (s : State) (f : FtState → FtState) : (modFt s f).cx = s.cx := rfl
@[simp] theorem modFt_sw (s : State) (f : FtState → FtState) : (modFt s f).sw = s.sw := rfl
@[simp] theorem modFt_ft (s : State) (f : FtState → FtState) : (modFt s f).ft = f s.ft := rfl
@[simp] theorem modFt_pe (s : State) (f : FtState → FtState) : (modFt s f).pe = s.pe := rfl
@[simp] theorem modFt_cl (s : State) (f : FtState → FtState) : (modFt s f).cl = s.cl := rfl
@[simp] theorem modFt_tf (s : State) (f : FtState → FtState) : (modFt s f).tf = s.tf := rfl
@[simp] theorem modFt_hb (s : State) (f : FtState → FtState) : (modFt s f).hb = s.hb := rfl
@[simp] theorem modFt_cmd (s : State) (f : FtState → FtState) : (modFt s f).cmd = s.cmd := rfl
@[simp] theorem modFt_wk (s : State) (f : FtState → FtState) : (modFt s f).wk = s.wk := rfl
@[simp] theorem modFt_bt (s : State) (f : FtState → FtState) : (modFt s f).bt = s.bt := rfl
@[simp] theorem modFt_lc (s : State) (f : FtState → FtState) : (modFt s f).lc = s.lc := rfl
@[simp] theorem modFt_out (s : State) (f : FtState → FtState) : (modFt s f).out = s.out := rfl
@[simp] theorem modFt_freeCtr (s : State) (f : FtState → FtState) : (modFt s f).freeCtr = s.freeCtr := rfl
@[simp] theorem modFt_pending (s : State) (f : FtState → FtState) : (modFt s f).pending = s.pending := rfl

@[simp] theorem modSw_now (s : State) (f : SwState → SwState) : (modSw s f).now = s.now := rfl
@[simp] theorem modSw_regs (s : State) (f : SwState → SwState) : (modSw s f).regs = s.regs := rfl
@[simp] theorem modSw_irq (s : State) (f : SwState → SwState) : (modSw s f).irq = s.irq := rfl
@[simp] theorem modSw_dt (s : State) (f : SwState → SwState) : (modSw s f).dt = s.dt := rfl
@[simp] theorem modSw_ev (s : State) (f : SwState → SwState) : (modSw s f).ev = s.ev := rfl
@[simp] theorem modSw_mp (s : State) (f : SwState → SwState) : (modSw s f).mp = s.mp := rfl
@[simp] theorem modSw_lr (s : State) (f : SwState → SwState) : (modSw s f).lr = s.lr := rfl
@[simp] theorem modSw_can (s : State) (f : SwState → SwState) : (modSw s f).can = s.can := rfl
@[simp] theorem modSw_mem (s : State) (f : SwState → SwState) : (modSw s f).mem = s.mem := rfl
@[simp] theorem modSw_sg (s : State) (f : SwState → SwState) : (modSw s f).sg = s.sg := rfl
@[simp] theorem modSw_ba (s : State) (f : SwState → SwState) : (modSw s f).ba = s.ba := rfl
@[simp] theorem modSw_cx (s : State) (f : SwState → SwState) : (modSw s f).cx = s.cx := rfl
@[simp] theorem modSw_sw (s : State) (f : SwState → SwState) : (modSw s f).sw = f s.sw := rfl
@[simp] theorem modSw_ft (s : State) (f : SwState → SwState) : (modSw s f).ft = s.ft := rfl
@[simp] theorem modSw_pe (s : State) (f : SwState → SwState) : (modSw s f).pe = s.pe := rfl
@[simp] theorem modSw_cl (s : State) (f : SwState → SwState) : (modSw s f).cl = s.cl := rfl
@[simp] theorem modSw_tf (s : State) (f : SwState → SwState) : (modSw s f).tf = s.tf := rfl
@[simp] theorem modSw_hb (s : State) (f : SwState → SwState) : (modSw s f).hb = s.hb := rfl
@[simp] theorem modSw_cmd (s : State) (f : SwState → SwState) : (modSw s f).cmd = s.cmd := rfl
@[simp] theorem modSw_wk (s : State) (f : SwState → SwState) : (modSw s f).wk = s.wk := rfl
@[simp] theorem modSw_bt (s : State) (f : SwState → SwState) : (modSw s f).bt = s.bt := rfl
@[simp] theorem modSw_lc (s : State) (f : SwState → SwState) : (modSw s f).lc = s.lc := rfl
@[simp] theorem modSw_out (s : State) (f : SwState → SwState) : (modSw s f).out = s.out := rfl
@[simp] theorem modSw_freeCtr (s : State) (f : SwState → SwState) : (modSw s f).freeCtr = s.freeCtr := rfl
@[simp] theorem modSw_pending (s : State) (f : SwState → SwState) : (modSw s f).pending = s.pending := rfl

@[simp] theorem modHb_now (s : State) (f : HbState → HbState) : (modHb s f).now = s.now := rfl
@[simp] theorem modHb_regs (s : State) (f : HbState → HbState) : (modHb s f).regs = s.regs := rfl
@[simp] theorem modHb_irq (s : State) (f : HbState → HbState) : (modHb s f).irq = s.irq := rfl
@[simp] theorem modHb_dt (s : State) (f : HbState → HbState) : (modHb s f).dt = s.dt := rfl
@[simp] theorem modHb_ev (s : State) (f : HbState → HbState) : (modHb s f).ev = s.ev := rfl
@[simp] theorem modHb_mp (s : State) (f : HbState → HbState) : (modHb s f).mp = s.mp := rfl
@[simp] theorem modHb_lr (s : State) (f : HbState → HbState) : (modHb s f).lr = s.lr := rfl
@[simp] theorem modHb_can (s : State) (f : HbState → HbState) : (modHb s f).can = s.can := rfl
@[simp] theorem modHb_mem (s : State) (f : HbState → HbState) : (modHb s f).mem = s.mem := rfl
@[simp] theorem modHb_sg (s : State) (f : HbState → HbState) : (modHb s f).sg = s.sg := rfl
@[simp] theorem modHb_ba (s : State) (f : HbState → HbState) : (modHb s f).ba = s.ba := rfl
@[simp] theorem modHb_cx (s : State) (f : HbState → HbState) : (modHb s f).cx = s.cx := rfl
@[simp] theorem modHb_sw (s : State) (f : HbState → HbState) : (modHb s f).sw = s.sw := rfl
@[simp] theorem modHb_ft (s : State) (f : HbState → HbState) : (modHb s f).ft = s.ft := rfl
@[simp] theorem modHb_pe (s : State) (f : HbState → HbState) : (modHb s f).pe = s.pe := rfl
@[simp] theorem modHb_cl (s : State) (f : HbState → HbState) : (modHb s f).cl = s.cl := rfl
@[simp] theorem modHb_tf (s : State) (f : HbState → HbState) : (modHb s f).tf = s.tf := rfl
@[simp] theorem modHb_hb (s : State) (f : HbState → HbState) : (modHb s f).hb = f s.hb := rfl
@[simp] theorem modHb_cmd (s : State) (f : HbState → HbState) : (modHb s f).cmd = s.cmd := rfl
@[simp] theorem modHb_wk (s : State) (f : HbState → HbState) : (modHb s f).wk = s.wk := rfl
@[simp] theorem modHb_bt (s : State) (f : HbState → HbState) : (modHb s f).bt = s.bt := rfl
@[simp] theorem modHb_lc (s : State) (f : HbState → HbState) : (modHb s f).lc = s.lc := rfl
@[simp] theorem modHb_out (s : State) (f : HbState → HbState) : (modHb s f).out = s.out := rfl
@[simp] theorem modHb_freeCtr (s : State) (f : HbState → HbState) : (modHb s f).freeCtr = s.freeCtr := rfl
@[simp] theorem modHb_pending (s : State) (f : HbState → HbState) : (modHb s f).pending = s.pending := rfl

@[simp] theorem modCan_now (s : State) (n : Nat) (f : CanCh → CanCh) : (modCan s n f).now = s.now := rfl
@[simp] theorem modCan_regs (s : State) (n : Nat) (f : CanCh → CanCh) : (modCan s n f).regs = s.regs := rfl
@[simp] theorem modCan_irq (s : State) (n : Nat) (f : CanCh → CanCh) : (modCan s n f).irq = s.irq := rfl
@[simp] theorem modCan_dt (s : State) (n : Nat) (f : CanCh → CanCh) : (modCan s n f).dt = s.dt := rfl
@[simp] theorem modCan_ev (s : State) (n : Nat) (f : CanCh → CanCh) : (modCan s n f).ev = s.ev := rfl
@[simp] theorem modCan_mp (s : State) (n : Nat) (f : CanCh → CanCh) : (modCan s n f).mp = s.mp := rfl
@[simp] theorem modCan_lr (s : State) (n : Nat) (f : CanCh → CanCh) : (modCan s n f).lr = s.lr := rfl
@[simp] theorem modCan_can (s : State) (n : Nat) (f : CanCh → CanCh) : (modCan s n f).can = Tab.put s.can n (f (canCh s n)) := rfl
@[simp] theorem modCan_mem (s : State) (n : Nat) (f : CanCh → CanCh) : (modCan s n f).mem = s.mem := rfl
@[simp] theorem modCan_sg (s : State) (n : Nat) (f : CanCh → CanCh) : (modCan s n f).sg = s.sg := rfl
@[simp] theorem modCan_ba (s : State) (n : Nat) (f : CanCh → CanCh) : (modCan s n f).ba = s.ba := rfl
@[simp] theorem modCan_cx (s : State) (n : Nat) (f : CanCh → CanCh) : (modCan s n f).cx = s.cx := rfl
@[simp] theorem modCan_sw (s : State) (n : Nat) (f : CanCh → CanCh) : (modCan s n f).sw = s.sw := rfl
@[simp] theorem modCan_ft (s : State) (n : Nat) (f : CanCh → CanCh) : (modCan s n f).ft = s.ft := rfl
@[simp] theorem modCan_pe (s : State) (n : Nat) (f : CanCh → CanCh) : (modCan s n f).pe = s.pe := rfl
@[simp] theorem modCan_cl (s : State) (n : Nat) (f : CanCh → CanCh) : (modCan s n f).cl = s.cl := rfl
@[simp] theorem modCan_tf (s : State) (n : Nat) (f : CanCh → CanCh) : (modCan s n f).tf = s.tf := rfl
@[simp] theorem modCan_hb (s : State) (n : Nat) (f : CanCh → CanCh) : (modCan s n f).hb = s.hb := rfl
@[simp] theorem modCan_cmd (s : State) (n : Nat) (f : CanCh → CanCh) : (modCan s n f).cmd = s.cmd := rfl
@[simp] theorem modCan_wk (s : State) (n : Nat) (f : CanCh → CanCh) : (modCan s n f).wk = s.wk := rfl
@[simp] theorem modCan_bt (s : State) (n : Nat) (f : CanCh → CanCh) : (modCan s n f).bt = s.bt := rfl
@[simp] theorem modCan_lc (s : State) (n : Nat) (f : CanCh → CanCh) : (modCan s n f).lc = s.lc := rfl
@[simp] theorem modCan_out (s : State) (n : Nat) (f : CanCh → CanCh) : (modCan s n f).out = s.out := rfl
@[simp] theorem modCan_freeCtr (s : State) (n : Nat) (f : CanCh → CanCh) : (modCan s n f).freeCtr = s.freeCtr := rfl
@[simp] theorem modCan_pending (s : State) (n : Nat) (f : CanCh → CanCh) : (modCan s n f).pending = s.pending := rfl

end Sys2Proof.Machine
end

