-- ==== Sys2Proof/Laws/State.lean ====
section
/-! SUPPORT. What the shared updates of the state change and leave, field by field. -/

namespace Sys2Proof.Machine

@[simp] theorem wr_now (s : State) (f : Fld) (v i j : Nat) : (wr s f v i j).now = s.now := rfl
@[simp] theorem wr_regs (s : State) (f : Fld) (v i j : Nat) : (wr s f v i j).regs = Tab.set s.regs (f.key i j) (f.resetAt i j) (v % 2 ^ f.len) := rfl
@[simp] theorem wr_irq (s : State) (f : Fld) (v i j : Nat) : (wr s f v i j).irq = s.irq := rfl
@[simp] theorem wr_dt (s : State) (f : Fld) (v i j : Nat) : (wr s f v i j).dt = s.dt := rfl
@[simp] theorem wr_ev (s : State) (f : Fld) (v i j : Nat) : (wr s f v i j).ev = s.ev := rfl
@[simp] theorem wr_mp (s : State) (f : Fld) (v i j : Nat) : (wr s f v i j).mp = s.mp := rfl
@[simp] theorem wr_lr (s : State) (f : Fld) (v i j : Nat) : (wr s f v i j).lr = s.lr := rfl
@[simp] theorem wr_can (s : State) (f : Fld) (v i j : Nat) : (wr s f v i j).can = s.can := rfl
@[simp] theorem wr_mem (s : State) (f : Fld) (v i j : Nat) : (wr s f v i j).mem = s.mem := rfl
@[simp] theorem wr_sg (s : State) (f : Fld) (v i j : Nat) : (wr s f v i j).sg = s.sg := rfl
@[simp] theorem wr_ba (s : State) (f : Fld) (v i j : Nat) : (wr s f v i j).ba = s.ba := rfl
@[simp] theorem wr_cx (s : State) (f : Fld) (v i j : Nat) : (wr s f v i j).cx = s.cx := rfl
@[simp] theorem wr_sw (s : State) (f : Fld) (v i j : Nat) : (wr s f v i j).sw = s.sw := rfl
@[simp] theorem wr_ft (s : State) (f : Fld) (v i j : Nat) : (wr s f v i j).ft = s.ft := rfl
@[simp] theorem wr_pe (s : State) (f : Fld) (v i j : Nat) : (wr s f v i j).pe = s.pe := rfl
@[simp] theorem wr_cl (s : State) (f : Fld) (v i j : Nat) : (wr s f v i j).cl = s.cl := rfl
@[simp] theorem wr_tf (s : State) (f : Fld) (v i j : Nat) : (wr s f v i j).tf = s.tf := rfl
@[simp] theorem wr_hb (s : State) (f : Fld) (v i j : Nat) : (wr s f v i j).hb = s.hb := rfl
@[simp] theorem wr_cmd (s : State) (f : Fld) (v i j : Nat) : (wr s f v i j).cmd = s.cmd := rfl
@[simp] theorem wr_wk (s : State) (f : Fld) (v i j : Nat) : (wr s f v i j).wk = s.wk := rfl
@[simp] theorem wr_bt (s : State) (f : Fld) (v i j : Nat) : (wr s f v i j).bt = s.bt := rfl
@[simp] theorem wr_lc (s : State) (f : Fld) (v i j : Nat) : (wr s f v i j).lc = s.lc := rfl
@[simp] theorem wr_out (s : State) (f : Fld) (v i j : Nat) : (wr s f v i j).out = s.out := rfl
@[simp] theorem wr_freeCtr (s : State) (f : Fld) (v i j : Nat) : (wr s f v i j).freeCtr = s.freeCtr := rfl
@[simp] theorem wr_pending (s : State) (f : Fld) (v i j : Nat) : (wr s f v i j).pending = s.pending := rfl

@[simp] theorem tick_now (t : Nat) (s : State) : (tick t s).now = max s.now t := rfl
@[simp] theorem tick_regs (t : Nat) (s : State) : (tick t s).regs = s.regs := rfl
@[simp] theorem tick_irq (t : Nat) (s : State) : (tick t s).irq = s.irq := rfl
@[simp] theorem tick_dt (t : Nat) (s : State) : (tick t s).dt = s.dt := rfl
@[simp] theorem tick_ev (t : Nat) (s : State) : (tick t s).ev = s.ev := rfl
@[simp] theorem tick_mp (t : Nat) (s : State) : (tick t s).mp = s.mp := rfl
@[simp] theorem tick_lr (t : Nat) (s : State) : (tick t s).lr = s.lr := rfl
@[simp] theorem tick_can (t : Nat) (s : State) : (tick t s).can = s.can := rfl
@[simp] theorem tick_mem (t : Nat) (s : State) : (tick t s).mem = s.mem := rfl
@[simp] theorem tick_sg (t : Nat) (s : State) : (tick t s).sg = s.sg := rfl
@[simp] theorem tick_ba (t : Nat) (s : State) : (tick t s).ba = s.ba := rfl
@[simp] theorem tick_cx (t : Nat) (s : State) : (tick t s).cx = s.cx := rfl
@[simp] theorem tick_sw (t : Nat) (s : State) : (tick t s).sw = s.sw := rfl
@[simp] theorem tick_ft (t : Nat) (s : State) : (tick t s).ft = s.ft := rfl
@[simp] theorem tick_pe (t : Nat) (s : State) : (tick t s).pe = s.pe := rfl
@[simp] theorem tick_cl (t : Nat) (s : State) : (tick t s).cl = s.cl := rfl
@[simp] theorem tick_tf (t : Nat) (s : State) : (tick t s).tf = s.tf := rfl
@[simp] theorem tick_hb (t : Nat) (s : State) : (tick t s).hb = s.hb := rfl
@[simp] theorem tick_cmd (t : Nat) (s : State) : (tick t s).cmd = s.cmd := rfl
@[simp] theorem tick_wk (t : Nat) (s : State) : (tick t s).wk = s.wk := rfl
@[simp] theorem tick_bt (t : Nat) (s : State) : (tick t s).bt = s.bt := rfl
@[simp] theorem tick_lc (t : Nat) (s : State) : (tick t s).lc = s.lc := rfl
@[simp] theorem tick_out (t : Nat) (s : State) : (tick t s).out = s.out := rfl
@[simp] theorem tick_freeCtr (t : Nat) (s : State) : (tick t s).freeCtr = s.freeCtr := rfl
@[simp] theorem tick_pending (t : Nat) (s : State) : (tick t s).pending = s.pending := rfl

@[simp] theorem emit_now (s : State) (o : Out) : (emit s o).now = s.now := rfl
@[simp] theorem emit_regs (s : State) (o : Out) : (emit s o).regs = s.regs := rfl
@[simp] theorem emit_irq (s : State) (o : Out) : (emit s o).irq = s.irq := rfl
@[simp] theorem emit_dt (s : State) (o : Out) : (emit s o).dt = s.dt := rfl
@[simp] theorem emit_ev (s : State) (o : Out) : (emit s o).ev = s.ev := rfl
@[simp] theorem emit_mp (s : State) (o : Out) : (emit s o).mp = s.mp := rfl
@[simp] theorem emit_lr (s : State) (o : Out) : (emit s o).lr = s.lr := rfl
@[simp] theorem emit_can (s : State) (o : Out) : (emit s o).can = s.can := rfl
@[simp] theorem emit_mem (s : State) (o : Out) : (emit s o).mem = s.mem := rfl
@[simp] theorem emit_sg (s : State) (o : Out) : (emit s o).sg = s.sg := rfl
@[simp] theorem emit_ba (s : State) (o : Out) : (emit s o).ba = s.ba := rfl
@[simp] theorem emit_cx (s : State) (o : Out) : (emit s o).cx = s.cx := rfl
@[simp] theorem emit_sw (s : State) (o : Out) : (emit s o).sw = s.sw := rfl
@[simp] theorem emit_ft (s : State) (o : Out) : (emit s o).ft = s.ft := rfl
@[simp] theorem emit_pe (s : State) (o : Out) : (emit s o).pe = s.pe := rfl
@[simp] theorem emit_cl (s : State) (o : Out) : (emit s o).cl = s.cl := rfl
@[simp] theorem emit_tf (s : State) (o : Out) : (emit s o).tf = s.tf := rfl
@[simp] theorem emit_hb (s : State) (o : Out) : (emit s o).hb = s.hb := rfl
@[simp] theorem emit_cmd (s : State) (o : Out) : (emit s o).cmd = s.cmd := rfl
@[simp] theorem emit_wk (s : State) (o : Out) : (emit s o).wk = s.wk := rfl
@[simp] theorem emit_bt (s : State) (o : Out) : (emit s o).bt = s.bt := rfl
@[simp] theorem emit_lc (s : State) (o : Out) : (emit s o).lc = s.lc := rfl
@[simp] theorem emit_out (s : State) (o : Out) : (emit s o).out = s.out ++ [o] := rfl
@[simp] theorem emit_freeCtr (s : State) (o : Out) : (emit s o).freeCtr = s.freeCtr := rfl
@[simp] theorem emit_pending (s : State) (o : Out) : (emit s o).pending = s.pending := rfl

@[simp] theorem drawn_now (s : State) : (drawn s).now = s.now := rfl
@[simp] theorem drawn_regs (s : State) : (drawn s).regs = s.regs := rfl
@[simp] theorem drawn_irq (s : State) : (drawn s).irq = s.irq := rfl
@[simp] theorem drawn_dt (s : State) : (drawn s).dt = s.dt := rfl
@[simp] theorem drawn_ev (s : State) : (drawn s).ev = s.ev := rfl
@[simp] theorem drawn_mp (s : State) : (drawn s).mp = s.mp := rfl
@[simp] theorem drawn_lr (s : State) : (drawn s).lr = s.lr := rfl
@[simp] theorem drawn_can (s : State) : (drawn s).can = s.can := rfl
@[simp] theorem drawn_mem (s : State) : (drawn s).mem = s.mem := rfl
@[simp] theorem drawn_sg (s : State) : (drawn s).sg = s.sg := rfl
@[simp] theorem drawn_ba (s : State) : (drawn s).ba = s.ba := rfl
@[simp] theorem drawn_cx (s : State) : (drawn s).cx = s.cx := rfl
@[simp] theorem drawn_sw (s : State) : (drawn s).sw = s.sw := rfl
@[simp] theorem drawn_ft (s : State) : (drawn s).ft = s.ft := rfl
@[simp] theorem drawn_pe (s : State) : (drawn s).pe = s.pe := rfl
@[simp] theorem drawn_cl (s : State) : (drawn s).cl = s.cl := rfl
@[simp] theorem drawn_tf (s : State) : (drawn s).tf = s.tf := rfl
@[simp] theorem drawn_hb (s : State) : (drawn s).hb = s.hb := rfl
@[simp] theorem drawn_cmd (s : State) : (drawn s).cmd = s.cmd := rfl
@[simp] theorem drawn_wk (s : State) : (drawn s).wk = s.wk := rfl
@[simp] theorem drawn_bt (s : State) : (drawn s).bt = s.bt := rfl
@[simp] theorem drawn_lc (s : State) : (drawn s).lc = s.lc := rfl
@[simp] theorem drawn_out (s : State) : (drawn s).out = s.out := rfl
@[simp] theorem drawn_freeCtr (s : State) : (drawn s).freeCtr = s.freeCtr + 1 := rfl
@[simp] theorem drawn_pending (s : State) : (drawn s).pending = s.pending := rfl

@[simp] theorem bumpBy_now (s : State) (f : Fld) (n i j : Nat) : (bumpBy s f n i j).now = s.now := rfl
@[simp] theorem bumpBy_irq (s : State) (f : Fld) (n i j : Nat) : (bumpBy s f n i j).irq = s.irq := rfl
@[simp] theorem bumpBy_dt (s : State) (f : Fld) (n i j : Nat) : (bumpBy s f n i j).dt = s.dt := rfl
@[simp] theorem bumpBy_ev (s : State) (f : Fld) (n i j : Nat) : (bumpBy s f n i j).ev = s.ev := rfl
@[simp] theorem bumpBy_mp (s : State) (f : Fld) (n i j : Nat) : (bumpBy s f n i j).mp = s.mp := rfl
@[simp] theorem bumpBy_lr (s : State) (f : Fld) (n i j : Nat) : (bumpBy s f n i j).lr = s.lr := rfl
@[simp] theorem bumpBy_can (s : State) (f : Fld) (n i j : Nat) : (bumpBy s f n i j).can = s.can := rfl
@[simp] theorem bumpBy_mem (s : State) (f : Fld) (n i j : Nat) : (bumpBy s f n i j).mem = s.mem := rfl
@[simp] theorem bumpBy_sg (s : State) (f : Fld) (n i j : Nat) : (bumpBy s f n i j).sg = s.sg := rfl
@[simp] theorem bumpBy_ba (s : State) (f : Fld) (n i j : Nat) : (bumpBy s f n i j).ba = s.ba := rfl
@[simp] theorem bumpBy_cx (s : State) (f : Fld) (n i j : Nat) : (bumpBy s f n i j).cx = s.cx := rfl
@[simp] theorem bumpBy_sw (s : State) (f : Fld) (n i j : Nat) : (bumpBy s f n i j).sw = s.sw := rfl
@[simp] theorem bumpBy_ft (s : State) (f : Fld) (n i j : Nat) : (bumpBy s f n i j).ft = s.ft := rfl
@[simp] theorem bumpBy_pe (s : State) (f : Fld) (n i j : Nat) : (bumpBy s f n i j).pe = s.pe := rfl
@[simp] theorem bumpBy_cl (s : State) (f : Fld) (n i j : Nat) : (bumpBy s f n i j).cl = s.cl := rfl
@[simp] theorem bumpBy_tf (s : State) (f : Fld) (n i j : Nat) : (bumpBy s f n i j).tf = s.tf := rfl
@[simp] theorem bumpBy_hb (s : State) (f : Fld) (n i j : Nat) : (bumpBy s f n i j).hb = s.hb := rfl
@[simp] theorem bumpBy_cmd (s : State) (f : Fld) (n i j : Nat) : (bumpBy s f n i j).cmd = s.cmd := rfl
@[simp] theorem bumpBy_wk (s : State) (f : Fld) (n i j : Nat) : (bumpBy s f n i j).wk = s.wk := rfl
@[simp] theorem bumpBy_bt (s : State) (f : Fld) (n i j : Nat) : (bumpBy s f n i j).bt = s.bt := rfl
@[simp] theorem bumpBy_lc (s : State) (f : Fld) (n i j : Nat) : (bumpBy s f n i j).lc = s.lc := rfl
@[simp] theorem bumpBy_out (s : State) (f : Fld) (n i j : Nat) : (bumpBy s f n i j).out = s.out := rfl
@[simp] theorem bumpBy_freeCtr (s : State) (f : Fld) (n i j : Nat) : (bumpBy s f n i j).freeCtr = s.freeCtr := rfl
@[simp] theorem bumpBy_pending (s : State) (f : Fld) (n i j : Nat) : (bumpBy s f n i j).pending = s.pending := rfl

@[simp] theorem bump_now (s : State) (f : Fld) (i j : Nat) : (bump s f i j).now = s.now := rfl
@[simp] theorem bump_irq (s : State) (f : Fld) (i j : Nat) : (bump s f i j).irq = s.irq := rfl
@[simp] theorem bump_dt (s : State) (f : Fld) (i j : Nat) : (bump s f i j).dt = s.dt := rfl
@[simp] theorem bump_ev (s : State) (f : Fld) (i j : Nat) : (bump s f i j).ev = s.ev := rfl
@[simp] theorem bump_mp (s : State) (f : Fld) (i j : Nat) : (bump s f i j).mp = s.mp := rfl
@[simp] theorem bump_lr (s : State) (f : Fld) (i j : Nat) : (bump s f i j).lr = s.lr := rfl
@[simp] theorem bump_can (s : State) (f : Fld) (i j : Nat) : (bump s f i j).can = s.can := rfl
@[simp] theorem bump_mem (s : State) (f : Fld) (i j : Nat) : (bump s f i j).mem = s.mem := rfl
@[simp] theorem bump_sg (s : State) (f : Fld) (i j : Nat) : (bump s f i j).sg = s.sg := rfl
@[simp] theorem bump_ba (s : State) (f : Fld) (i j : Nat) : (bump s f i j).ba = s.ba := rfl
@[simp] theorem bump_cx (s : State) (f : Fld) (i j : Nat) : (bump s f i j).cx = s.cx := rfl
@[simp] theorem bump_sw (s : State) (f : Fld) (i j : Nat) : (bump s f i j).sw = s.sw := rfl
@[simp] theorem bump_ft (s : State) (f : Fld) (i j : Nat) : (bump s f i j).ft = s.ft := rfl
@[simp] theorem bump_pe (s : State) (f : Fld) (i j : Nat) : (bump s f i j).pe = s.pe := rfl
@[simp] theorem bump_cl (s : State) (f : Fld) (i j : Nat) : (bump s f i j).cl = s.cl := rfl
@[simp] theorem bump_tf (s : State) (f : Fld) (i j : Nat) : (bump s f i j).tf = s.tf := rfl
@[simp] theorem bump_hb (s : State) (f : Fld) (i j : Nat) : (bump s f i j).hb = s.hb := rfl
@[simp] theorem bump_cmd (s : State) (f : Fld) (i j : Nat) : (bump s f i j).cmd = s.cmd := rfl
@[simp] theorem bump_wk (s : State) (f : Fld) (i j : Nat) : (bump s f i j).wk = s.wk := rfl
@[simp] theorem bump_bt (s : State) (f : Fld) (i j : Nat) : (bump s f i j).bt = s.bt := rfl
@[simp] theorem bump_lc (s : State) (f : Fld) (i j : Nat) : (bump s f i j).lc = s.lc := rfl
@[simp] theorem bump_out (s : State) (f : Fld) (i j : Nat) : (bump s f i j).out = s.out := rfl
@[simp] theorem bump_freeCtr (s : State) (f : Fld) (i j : Nat) : (bump s f i j).freeCtr = s.freeCtr := rfl
@[simp] theorem bump_pending (s : State) (f : Fld) (i j : Nat) : (bump s f i j).pending = s.pending := rfl

@[simp] theorem setBitF_now (s : State) (f : Fld) (k i j : Nat) : (setBitF s f k i j).now = s.now := rfl
@[simp] theorem setBitF_irq (s : State) (f : Fld) (k i j : Nat) : (setBitF s f k i j).irq = s.irq := rfl
@[simp] theorem setBitF_dt (s : State) (f : Fld) (k i j : Nat) : (setBitF s f k i j).dt = s.dt := rfl
@[simp] theorem setBitF_ev (s : State) (f : Fld) (k i j : Nat) : (setBitF s f k i j).ev = s.ev := rfl
@[simp] theorem setBitF_mp (s : State) (f : Fld) (k i j : Nat) : (setBitF s f k i j).mp = s.mp := rfl
@[simp] theorem setBitF_lr (s : State) (f : Fld) (k i j : Nat) : (setBitF s f k i j).lr = s.lr := rfl
@[simp] theorem setBitF_can (s : State) (f : Fld) (k i j : Nat) : (setBitF s f k i j).can = s.can := rfl
@[simp] theorem setBitF_mem (s : State) (f : Fld) (k i j : Nat) : (setBitF s f k i j).mem = s.mem := rfl
@[simp] theorem setBitF_sg (s : State) (f : Fld) (k i j : Nat) : (setBitF s f k i j).sg = s.sg := rfl
@[simp] theorem setBitF_ba (s : State) (f : Fld) (k i j : Nat) : (setBitF s f k i j).ba = s.ba := rfl
@[simp] theorem setBitF_cx (s : State) (f : Fld) (k i j : Nat) : (setBitF s f k i j).cx = s.cx := rfl
@[simp] theorem setBitF_sw (s : State) (f : Fld) (k i j : Nat) : (setBitF s f k i j).sw = s.sw := rfl
@[simp] theorem setBitF_ft (s : State) (f : Fld) (k i j : Nat) : (setBitF s f k i j).ft = s.ft := rfl
@[simp] theorem setBitF_pe (s : State) (f : Fld) (k i j : Nat) : (setBitF s f k i j).pe = s.pe := rfl
@[simp] theorem setBitF_cl (s : State) (f : Fld) (k i j : Nat) : (setBitF s f k i j).cl = s.cl := rfl
@[simp] theorem setBitF_tf (s : State) (f : Fld) (k i j : Nat) : (setBitF s f k i j).tf = s.tf := rfl
@[simp] theorem setBitF_hb (s : State) (f : Fld) (k i j : Nat) : (setBitF s f k i j).hb = s.hb := rfl
@[simp] theorem setBitF_cmd (s : State) (f : Fld) (k i j : Nat) : (setBitF s f k i j).cmd = s.cmd := rfl
@[simp] theorem setBitF_wk (s : State) (f : Fld) (k i j : Nat) : (setBitF s f k i j).wk = s.wk := rfl
@[simp] theorem setBitF_bt (s : State) (f : Fld) (k i j : Nat) : (setBitF s f k i j).bt = s.bt := rfl
@[simp] theorem setBitF_lc (s : State) (f : Fld) (k i j : Nat) : (setBitF s f k i j).lc = s.lc := rfl
@[simp] theorem setBitF_out (s : State) (f : Fld) (k i j : Nat) : (setBitF s f k i j).out = s.out := rfl
@[simp] theorem setBitF_freeCtr (s : State) (f : Fld) (k i j : Nat) : (setBitF s f k i j).freeCtr = s.freeCtr := rfl
@[simp] theorem setBitF_pending (s : State) (f : Fld) (k i j : Nat) : (setBitF s f k i j).pending = s.pending := rfl

@[simp] theorem clrBitF_now (s : State) (f : Fld) (k i j : Nat) : (clrBitF s f k i j).now = s.now := rfl
@[simp] theorem clrBitF_irq (s : State) (f : Fld) (k i j : Nat) : (clrBitF s f k i j).irq = s.irq := rfl
@[simp] theorem clrBitF_dt (s : State) (f : Fld) (k i j : Nat) : (clrBitF s f k i j).dt = s.dt := rfl
@[simp] theorem clrBitF_ev (s : State) (f : Fld) (k i j : Nat) : (clrBitF s f k i j).ev = s.ev := rfl
@[simp] theorem clrBitF_mp (s : State) (f : Fld) (k i j : Nat) : (clrBitF s f k i j).mp = s.mp := rfl
@[simp] theorem clrBitF_lr (s : State) (f : Fld) (k i j : Nat) : (clrBitF s f k i j).lr = s.lr := rfl
@[simp] theorem clrBitF_can (s : State) (f : Fld) (k i j : Nat) : (clrBitF s f k i j).can = s.can := rfl
@[simp] theorem clrBitF_mem (s : State) (f : Fld) (k i j : Nat) : (clrBitF s f k i j).mem = s.mem := rfl
@[simp] theorem clrBitF_sg (s : State) (f : Fld) (k i j : Nat) : (clrBitF s f k i j).sg = s.sg := rfl
@[simp] theorem clrBitF_ba (s : State) (f : Fld) (k i j : Nat) : (clrBitF s f k i j).ba = s.ba := rfl
@[simp] theorem clrBitF_cx (s : State) (f : Fld) (k i j : Nat) : (clrBitF s f k i j).cx = s.cx := rfl
@[simp] theorem clrBitF_sw (s : State) (f : Fld) (k i j : Nat) : (clrBitF s f k i j).sw = s.sw := rfl
@[simp] theorem clrBitF_ft (s : State) (f : Fld) (k i j : Nat) : (clrBitF s f k i j).ft = s.ft := rfl
@[simp] theorem clrBitF_pe (s : State) (f : Fld) (k i j : Nat) : (clrBitF s f k i j).pe = s.pe := rfl
@[simp] theorem clrBitF_cl (s : State) (f : Fld) (k i j : Nat) : (clrBitF s f k i j).cl = s.cl := rfl
@[simp] theorem clrBitF_tf (s : State) (f : Fld) (k i j : Nat) : (clrBitF s f k i j).tf = s.tf := rfl
@[simp] theorem clrBitF_hb (s : State) (f : Fld) (k i j : Nat) : (clrBitF s f k i j).hb = s.hb := rfl
@[simp] theorem clrBitF_cmd (s : State) (f : Fld) (k i j : Nat) : (clrBitF s f k i j).cmd = s.cmd := rfl
@[simp] theorem clrBitF_wk (s : State) (f : Fld) (k i j : Nat) : (clrBitF s f k i j).wk = s.wk := rfl
@[simp] theorem clrBitF_bt (s : State) (f : Fld) (k i j : Nat) : (clrBitF s f k i j).bt = s.bt := rfl
@[simp] theorem clrBitF_lc (s : State) (f : Fld) (k i j : Nat) : (clrBitF s f k i j).lc = s.lc := rfl
@[simp] theorem clrBitF_out (s : State) (f : Fld) (k i j : Nat) : (clrBitF s f k i j).out = s.out := rfl
@[simp] theorem clrBitF_freeCtr (s : State) (f : Fld) (k i j : Nat) : (clrBitF s f k i j).freeCtr = s.freeCtr := rfl
@[simp] theorem clrBitF_pending (s : State) (f : Fld) (k i j : Nat) : (clrBitF s f k i j).pending = s.pending := rfl

end Sys2Proof.Machine
end

