-- ==== Sys2Proof/Laws/Table.lean ====
section
/-! SUPPORT. Sparse tables and the register fields kept in them: a read after a write. -/

namespace Sys2Proof.Machine

theorem Tab.find_put_same {α : Type} (t : Tab α) (k : Nat) (v : α) : Tab.find (Tab.put t k v) k = some v := by
  induction t with
  | nil => simp [Tab.put, Tab.find]
  | cons p t ih =>
    obtain ⟨n, x⟩ := p
    simp only [Tab.put]
    split
    · simp [Tab.find]
    · split
      · simp [Tab.find]
      · rename_i h
        simp [Tab.find, h, ih]

theorem Tab.find_put_other {α : Type} (t : Tab α) (k m : Nat) (v : α) (h : m ≠ k) :
    Tab.find (Tab.put t k v) m = Tab.find t m := by
  induction t with
  | nil => simp [Tab.put, Tab.find, Ne.symm h]
  | cons p t ih =>
    obtain ⟨n, x⟩ := p
    simp only [Tab.put]
    split
    · simp [Tab.find, Ne.symm h]
    · split
      · rename_i h2
        subst h2
        simp [Tab.find, Ne.symm h]
      · simp [Tab.find, ih]

theorem Tab.find_del_same {α : Type} (t : Tab α) (k : Nat) : Tab.find (Tab.del t k) k = none := by
  induction t with
  | nil => rfl
  | cons p t ih =>
    obtain ⟨n, x⟩ := p
    simp only [Tab.del]
    split
    · exact ih
    · rename_i h
      simp [Tab.find, h, ih]

theorem Tab.find_del_other {α : Type} (t : Tab α) (k m : Nat) (h : m ≠ k) : Tab.find (Tab.del t k) m = Tab.find t m := by
  induction t with
  | nil => rfl
  | cons p t ih =>
    obtain ⟨n, x⟩ := p
    simp only [Tab.del]
    split
    · rename_i h2
      subst h2
      simp [Tab.find, Ne.symm h, ih]
    · simp [Tab.find, ih]

theorem Tab.get_set_same {α : Type} [DecidableEq α] (t : Tab α) (k : Nat) (d v : α) : Tab.get (Tab.set t k d v) k d = v := by
  unfold Tab.set Tab.get
  split
  · rename_i h
    simp [Tab.find_del_same, h]
  · simp [Tab.find_put_same]

theorem Tab.get_set_other {α : Type} [DecidableEq α] (t : Tab α) (k m : Nat) (d d' v : α) (h : m ≠ k) :
    Tab.get (Tab.set t k d v) m d' = Tab.get t m d' := by
  unfold Tab.set Tab.get
  split
  · simp [Tab.find_del_other _ _ _ h]
  · simp [Tab.find_put_other _ _ _ _ h]

/-- A field reads back the low bits of what was written to it. -/
@[simp] theorem rd_wr_same (s : State) (f : Fld) (v i j : Nat) : rd (wr s f v i j) f i j = v % 2 ^ f.len := by
  simp [rd, Tab.get_set_same]

/-- A field under another key is not touched. -/
theorem rd_wr_other (s : State) (f g : Fld) (v i j i' j' : Nat) (h : g.key i' j' ≠ f.key i j) :
    rd (wr s f v i j) g i' j' = rd s g i' j' := by
  simp [rd, Tab.get_set_other _ _ _ _ _ _ h]

/-- A field reads the same in two states with the same registers. -/
theorem rd_congr {s u : State} (h : u.regs = s.regs) (f : Fld) (i j : Nat) : rd u f i j = rd s f i j := by
  simp [rd, h]

@[simp] theorem rd_tick (t : Nat) (s : State) (f : Fld) (i j : Nat) : rd (tick t s) f i j = rd s f i j := rfl
@[simp] theorem rd_emit (s : State) (o : Out) (f : Fld) (i j : Nat) : rd (emit s o) f i j = rd s f i j := rfl
@[simp] theorem rd_drawn (s : State) (f : Fld) (i j : Nat) : rd (drawn s) f i j = rd s f i j := rfl

end Sys2Proof.Machine
end

