-- ==== Sys2Proof/Laws/Irq.lean ====
section
/-! SUPPORT. What the end of a command can do: note the pending sources and send their messages, and nothing else. -/

namespace Sys2Proof.Machine

/-- A message sent, or its PBA bit set. -/
theorem msixSend_cases (s : State) (k : Nat) :
    msixSend s k = s ∨ (∃ v, msixSend s k = { s with hb := { s.hb with pba := orBit s.hb.pba v } }) ∨
      ∃ v, msixSend s k = { s with out := s.out ++ [.msix v] } := by
  unfold msixSend
  split
  · dsimp only
    split
    · exact .inr (.inl ⟨_, rfl⟩)
    · exact .inr (.inr ⟨_, rfl⟩)
  · exact .inl rfl

/-- What sending messages leaves: everything but the PBA and what is put out. -/
theorem msixSendAll_shape (srcs : List Nat) (s : State) :
    ∃ (p : Nat) (vs : List Nat), msixSendAll srcs s =
      { s with hb := { s.hb with pba := p }, out := s.out ++ vs.map Out.msix } := by
  induction srcs generalizing s with
  | nil => exact ⟨s.hb.pba, [], by simp [msixSendAll]⟩
  | cons k srcs ih =>
    obtain ⟨p, vs, h⟩ := ih (msixSend s k)
    change msixSendAll srcs (msixSend s k) = _ at h
    change ∃ p vs, msixSendAll srcs (msixSend s k) = _
    rw [h]
    obtain h1 | ⟨v, h1⟩ | ⟨v, h1⟩ := msixSend_cases s k
    · exact ⟨p, vs, by rw [h1]⟩
    · exact ⟨p, vs, by rw [h1]⟩
    · exact ⟨p, v :: vs, by rw [h1]; simp⟩

/-- What the end of a command leaves. -/
theorem settle_shape (s : State) :
    ∃ (p : Nat) (vs : List Nat), settle s =
      { s with hb := { s.hb with pba := p }, out := s.out ++ vs.map Out.msix, irq := irqMask s } := by
  obtain ⟨p, vs, h⟩ := msixSendAll_shape (becamePending s.irq (irqMask s)) s
  exact ⟨p, vs, by simp [settle, h]⟩

theorem settle_untouched (s : State) : Untouched s (settle s) := by
  obtain ⟨p, vs, h⟩ := settle_shape s
  rw [h]
  exact ⟨rfl, rfl, rfl, rfl, rfl, rfl, rfl, rfl, rfl, rfl, rfl, rfl, rfl, rfl, rfl, rfl, rfl, rfl, rfl, rfl, rfl, rfl, vs, rfl⟩

theorem settle_now (s : State) : (settle s).now = s.now := by
  obtain ⟨p, vs, h⟩ := settle_shape s
  rw [h]

/-- A block source's instance is pending by the registers alone. -/
theorem instPending_congr {s u : State} (h : u.regs = s.regs) : instPending u = instPending s := by
  funext b i
  have e : ∀ f i j, rd u f i j = rd s f i j := rd_congr h
  simp only [instPending, wordOf, e]

theorem blockPending_congr {s u : State} (h : u.regs = s.regs) : blockPending u = blockPending s := by
  funext b
  simp only [blockPending, instPending_congr h]

theorem cmdPending_congr {s u : State} (h : u.regs = s.regs) : cmdPending u = cmdPending s := by
  funext k
  have e : ∀ f i j, rd u f i j = rd s f i j := rd_congr h
  simp only [cmdPending, wordOf, e]

/-- The pending sources follow from the registers and from what the host rings' sources hold. -/
theorem irqMask_congr {s u : State} (h : u.regs = s.regs) (r : u.hb.ringIrq = s.hb.ringIrq) : irqMask u = irqMask s := by
  simp only [irqMask, blockPending_congr h, cmdPending_congr h, r]

theorem settle_irq (s : State) : (settle s).irq = irqMask s := rfl

theorem settle_regs (s : State) : (settle s).regs = s.regs := (settle_untouched s).regs

theorem settle_ringIrq (s : State) : (settle s).hb.ringIrq = s.hb.ringIrq := by
  obtain ⟨p, vs, h⟩ := settle_shape s
  rw [h]

/-- After the end of a command the sources noted are those that are pending. -/
theorem settle_settled (s : State) : Settled (settle s) :=
  (settle_irq s).trans (irqMask_congr (settle_regs s) (settle_ringIrq s)).symm

/-- The end of a command, and the state it ends in. -/
theorem done_eq (s : State) : done s = .next (settle s) := rfl

end Sys2Proof.Machine
end

