-- ==== Sys2Proof/Laws/Events.lean ====
section
/-! SUPPORT. What a frame sent over the fabric and an event raised can change: registers, what is put out, the events held, and the
fabric's own counts; nothing else. -/

namespace Sys2Proof.Machine

/-- Everything an event leaves as it was. -/
structure EventFrame (s u : State) : Prop where
  now : u.now = s.now
  irq : u.irq = s.irq
  dt : u.dt = s.dt
  mp : u.mp = s.mp
  lr : u.lr = s.lr
  can : u.can = s.can
  mem : u.mem = s.mem
  sg : u.sg = s.sg
  ba : u.ba = s.ba
  cx : u.cx = s.cx
  sw : u.sw = s.sw
  ft : u.ft = s.ft
  pe : u.pe = s.pe
  cl : u.cl = s.cl
  hb : u.hb = s.hb
  cmd : u.cmd = s.cmd
  wk : u.wk = s.wk
  bt : u.bt = s.bt
  lc : u.lc = s.lc
  freeCtr : u.freeCtr = s.freeCtr
  pending : u.pending = s.pending

theorem EventFrame.refl (s : State) : EventFrame s s :=
  ⟨rfl, rfl, rfl, rfl, rfl, rfl, rfl, rfl, rfl, rfl, rfl, rfl, rfl, rfl, rfl, rfl, rfl, rfl, rfl, rfl, rfl⟩

theorem EventFrame.trans {s u v : State} (a : EventFrame s u) (b : EventFrame u v) : EventFrame s v :=
  ⟨b.now.trans a.now, b.irq.trans a.irq, b.dt.trans a.dt, b.mp.trans a.mp, b.lr.trans a.lr, b.can.trans a.can,
    b.mem.trans a.mem, b.sg.trans a.sg, b.ba.trans a.ba, b.cx.trans a.cx, b.sw.trans a.sw, b.ft.trans a.ft, b.pe.trans a.pe,
    b.cl.trans a.cl, b.hb.trans a.hb, b.cmd.trans a.cmd, b.wk.trans a.wk, b.bt.trans a.bt, b.lc.trans a.lc,
    b.freeCtr.trans a.freeCtr, b.pending.trans a.pending⟩

theorem wr_frame (s : State) (f : Fld) (v i j : Nat) : EventFrame s (wr s f v i j) :=
  ⟨rfl, rfl, rfl, rfl, rfl, rfl, rfl, rfl, rfl, rfl, rfl, rfl, rfl, rfl, rfl, rfl, rfl, rfl, rfl, rfl, rfl⟩

theorem emit_frame (s : State) (o : Out) : EventFrame s (emit s o) :=
  ⟨rfl, rfl, rfl, rfl, rfl, rfl, rfl, rfl, rfl, rfl, rfl, rfl, rfl, rfl, rfl, rfl, rfl, rfl, rfl, rfl, rfl⟩

theorem ev_frame (s : State) (e : EvState) : EventFrame s { s with ev := e } :=
  ⟨rfl, rfl, rfl, rfl, rfl, rfl, rfl, rfl, rfl, rfl, rfl, rfl, rfl, rfl, rfl, rfl, rfl, rfl, rfl, rfl, rfl⟩

theorem tf_frame (s : State) (t : TfState) : EventFrame s { s with tf := t } :=
  ⟨rfl, rfl, rfl, rfl, rfl, rfl, rfl, rfl, rfl, rfl, rfl, rfl, rfl, rfl, rfl, rfl, rfl, rfl, rfl, rfl, rfl⟩

theorem bump_frame (s : State) (f : Fld) (i j : Nat) : EventFrame s (bump s f i j) := wr_frame ..

theorem setBitF_frame (s : State) (f : Fld) (k i j : Nat) : EventFrame s (setBitF s f k i j) := wr_frame ..

theorem sendOnLink_frame (s : State) (l : Nat) (f : FabFrame) (tag : Bytes) : EventFrame s (sendOnLink s l f tag) :=
  (emit_frame _ _).trans (bump_frame _ _ _ _)

theorem putOnLink_frame (s : State) (l : Nat) (f : FabFrame) : EventFrame s (putOnLink s l f) := by
  unfold putOnLink
  dsimp only
  split
  · exact sendOnLink_frame _ _ _ _
  · split
    · exact EventFrame.refl s
    · split
      · exact tf_frame s _
      · exact (tf_frame s _).trans (sendOnLink_frame _ _ _ _)

theorem fabSend_frame (s : State) (f : FabFrame) : EventFrame s (fabSend s f).1 := by
  unfold fabSend
  split
  · exact bump_frame _ _ _ _
  · split
    · exact bump_frame _ _ _ _
    · split
      · dsimp only
        have a : ∀ (b : Bool) (t : TfState), EventFrame s (if b = true then { s with tf := t } else s) := by
          intro b t
          cases b
          · exact EventFrame.refl s
          · exact tf_frame s t
        generalize hd : (f.dual && linkUp s (bitsOf (routeOf s f.dst) 6 3) &&
          !(s.tf.protected_).contains (bitsOf (routeOf s f.dst) 6 3)) = d
        cases d
        · exact (a _ _).trans (putOnLink_frame _ _ _)
        · exact ((a _ _).trans (putOnLink_frame _ _ _)).trans (putOnLink_frame _ _ _)
      · exact bump_frame _ _ _ _

theorem ringStore_frame (s : State) (r : Nat) (e : Event) : EventFrame s (ringStore s r e).1 := by
  unfold ringStore
  split
  · dsimp only
    split
    · exact ((bump_frame s _ _ _).trans (wr_frame _ _ _ _ _)).trans (ev_frame _ _)
    · exact (((emit_frame s _).trans (wr_frame _ _ _ _ _)).trans (setBitF_frame _ _ _ _ _)).trans (ev_frame _ _)
  · exact EventFrame.refl s

theorem bufferStore_frame (s : State) (e : Event) : EventFrame s (bufferStore s e).1 := by
  unfold bufferStore
  split <;> exact ev_frame s _

theorem forwardEvent_frame (s : State) (e : Event) : EventFrame s (forwardEvent s e).1 := by
  unfold forwardEvent
  split
  · dsimp only
    have h := fabSend_frame s (fabHeader s 7 (rd s Reg.TF_CTRL.rra_class) (rd s Reg.CMD_EVT_FWD.device)
      (packet 0 0x0020 0 (rd s Reg.CMD_EVT_FWD.device) (ownId s) 0 0 (eventBytes e false)))
    generalize fabSend s _ = x at h ⊢
    obtain ⟨u, r⟩ := x
    cases r
    · exact h
    · exact h.trans (bump_frame _ _ _ _)
    · exact h.trans (bump_frame _ _ _ _)
  · exact EventFrame.refl s

theorem lossEvent_frame {offer : Event → State → State} (ih : ∀ e s, EventFrame s (offer e s)) (dropped : Bool)
    (src code inst : Nat) (s : State) : EventFrame s (lossEvent offer dropped src code inst s) := by
  unfold lossEvent
  split
  · split
    · exact ev_frame s _
    · exact ((ev_frame s _).trans (setBitF_frame _ _ _ _ _)).trans (ih _ _)
  · exact EventFrame.refl s

theorem offerEvent_frame (n : Nat) (fwd : Bool) (e : Event) (s : State) : EventFrame s (offerEvent n fwd e s) := by
  induction n generalizing fwd e s with
  | zero => exact EventFrame.refl s
  | succ n ih =>
    have lost := @lossEvent_frame (offerEvent n true) (fun e s => ih true e s)
    unfold offerEvent
    dsimp only
    have h0 := ringStore_frame s 0 e
    generalize ringStore s 0 e = a0 at h0 ⊢
    have h1 := ringStore_frame a0.1 1 e
    generalize ringStore a0.1 1 e = a1 at h1 ⊢
    have h2 := bufferStore_frame a1.1 e
    generalize bufferStore a1.1 e = a2 at h2 ⊢
    have h3 : EventFrame a2.1 (if fwd = true then forwardEvent a2.1 e else (a2.1, false)).1 := by
      cases fwd
      · exact EventFrame.refl a2.1
      · exact forwardEvent_frame a2.1 e
    generalize (if fwd = true then forwardEvent a2.1 e else (a2.1, false)) = a3 at h3 ⊢
    exact (((((((h0.trans h1).trans h2).trans h3).trans (lost _ _ _ _ _)).trans (lost _ _ _ _ _)).trans
      (lost _ _ _ _ _)).trans (lost _ _ _ _ _))

/-- Raising an event changes registers, events, the fabric's counts and what is put out alone. -/
theorem raise_frame (s : State) (src code inst : Nat) (data : Bytes) : EventFrame s (raise s src code inst data) :=
  offerEvent_frame 5 true _ s

theorem raiseLimited_frame (s : State) (src code inst scope n : Nat) (data : Nat → Bytes) :
    EventFrame s (raiseLimited s src code inst scope n data) := by
  unfold raiseLimited
  split
  · exact ev_frame s _
  · exact (ev_frame s _).trans (raise_frame _ _ _ _ _)

theorem raiseIn_frame (s : State) (f : Fld) (i src code inst : Nat) (data : Bytes) :
    EventFrame s (raiseIn s f i src code inst data) := (setBitF_frame s f _ i _).trans (raise_frame _ _ _ _ _)

theorem raiseInLimited_frame (s : State) (f : Fld) (i src code inst scope n : Nat) (data : Nat → Bytes) :
    EventFrame s (raiseInLimited s f i src code inst scope n data) := by
  unfold raiseInLimited
  dsimp only
  split
  · exact (setBitF_frame s f _ i _).trans (raiseLimited_frame _ _ _ _ _ _ _)
  · exact raiseLimited_frame _ _ _ _ _ _ _

/-- Every register outside SYS, TF and CMD reads as it did: those three blocks count and flag what events do. -/
def KeepsRegs (s u : State) : Prop :=
  ∀ (f : Fld) (i j : Nat), f.key i j / 2 ^ 21 ≠ 0 → f.key i j / 2 ^ 21 ≠ 16 → f.key i j / 2 ^ 21 ≠ 18 → rd u f i j = rd s f i j

theorem KeepsRegs.refl (s : State) : KeepsRegs s s := fun _ _ _ _ _ _ => rfl

theorem KeepsRegs.trans {s u v : State} (a : KeepsRegs s u) (b : KeepsRegs u v) : KeepsRegs s v :=
  fun f i j h0 h1 h2 => (b f i j h0 h1 h2).trans (a f i j h0 h1 h2)

theorem KeepsRegs.of_regs {s u : State} (h : u.regs = s.regs) : KeepsRegs s u := fun f i j _ _ _ => rd_congr h f i j

theorem wr_keeps (s : State) (f : Fld) (v i j : Nat)
    (h : f.key i j / 2 ^ 21 = 0 ∨ f.key i j / 2 ^ 21 = 16 ∨ f.key i j / 2 ^ 21 = 18) : KeepsRegs s (wr s f v i j) := by
  intro g k l h0 h1 h2
  apply rd_wr_other
  intro e
  rw [e] at h0 h1 h2
  rcases h with h | h | h
  · exact h0 h
  · exact h1 h
  · exact h2 h

theorem bump_keeps (s : State) (f : Fld) (i j : Nat)
    (h : f.key i j / 2 ^ 21 = 0 ∨ f.key i j / 2 ^ 21 = 16 ∨ f.key i j / 2 ^ 21 = 18) : KeepsRegs s (bump s f i j) :=
  wr_keeps s f _ i j h

theorem setBitF_keeps (s : State) (f : Fld) (k i j : Nat)
    (h : f.key i j / 2 ^ 21 = 0 ∨ f.key i j / 2 ^ 21 = 16 ∨ f.key i j / 2 ^ 21 = 18) : KeepsRegs s (setBitF s f k i j) :=
  wr_keeps s f _ i j h

theorem ev_keeps (s : State) (e : EvState) : KeepsRegs s { s with ev := e } := KeepsRegs.of_regs rfl

theorem emit_keeps (s : State) (o : Out) : KeepsRegs s (emit s o) := KeepsRegs.of_regs rfl

theorem sendOnLink_keeps (s : State) (l : Nat) (f : FabFrame) (tag : Bytes) : KeepsRegs s (sendOnLink s l f tag) :=
  wr_keeps (emit s _) _ _ _ _ (by decide)

theorem putOnLink_keeps (s : State) (l : Nat) (f : FabFrame) : KeepsRegs s (putOnLink s l f) := by
  unfold putOnLink
  dsimp only
  split
  · exact sendOnLink_keeps _ _ _ _
  · split
    · exact KeepsRegs.refl s
    · split
      · exact KeepsRegs.of_regs rfl
      · exact (KeepsRegs.of_regs rfl : KeepsRegs s { s with tf := _ }).trans (sendOnLink_keeps _ _ _ _)

theorem fabSend_keeps (s : State) (f : FabFrame) : KeepsRegs s (fabSend s f).1 := by
  unfold fabSend
  split
  · exact wr_keeps _ _ _ _ _ (by decide)
  · split
    · exact wr_keeps _ _ _ _ _ (by decide)
    · split
      · dsimp only
        have a : ∀ (b : Bool) (t : TfState), KeepsRegs s (if b = true then { s with tf := t } else s) := by
          intro b t
          cases b <;> exact KeepsRegs.of_regs rfl
        generalize hd : (f.dual && linkUp s (bitsOf (routeOf s f.dst) 6 3) &&
          !(s.tf.protected_).contains (bitsOf (routeOf s f.dst) 6 3)) = d
        cases d
        · exact (a _ _).trans (putOnLink_keeps _ _ _)
        · exact ((a _ _).trans (putOnLink_keeps _ _ _)).trans (putOnLink_keeps _ _ _)
      · exact wr_keeps _ _ _ _ _ (by decide)

theorem ringStore_keeps (s : State) (r : Nat) (e : Event) (h : r < 2) : KeepsRegs s (ringStore s r e).1 := by
  unfold ringStore
  split
  · dsimp only
    split
    · exact ((bump_keeps s _ _ _ (by decide)).trans (wr_keeps _ _ _ _ _ (by decide))).trans (ev_keeps _ _)
    · have k : Reg.CMD_EVR_PUT.put.key r 0 / 2 ^ 21 = 18 := by
        obtain rfl | rfl : r = 0 ∨ r = 1 := by omega
        · decide
        · decide
      exact (((emit_keeps s _).trans (wr_keeps _ _ _ _ _ (.inr (.inr k)))).trans
        (setBitF_keeps _ _ _ _ _ (by decide))).trans (ev_keeps _ _)
  · exact KeepsRegs.refl s

theorem bufferStore_keeps (s : State) (e : Event) : KeepsRegs s (bufferStore s e).1 := by
  unfold bufferStore
  split <;> exact ev_keeps s _

theorem forwardEvent_keeps (s : State) (e : Event) : KeepsRegs s (forwardEvent s e).1 := by
  unfold forwardEvent
  split
  · dsimp only
    have h := fabSend_keeps s (fabHeader s 7 (rd s Reg.TF_CTRL.rra_class) (rd s Reg.CMD_EVT_FWD.device)
      (packet 0 0x0020 0 (rd s Reg.CMD_EVT_FWD.device) (ownId s) 0 0 (eventBytes e false)))
    generalize fabSend s _ = x at h ⊢
    obtain ⟨u, r⟩ := x
    cases r
    · exact h
    · exact h.trans (bump_keeps _ _ _ _ (by decide))
    · exact h.trans (bump_keeps _ _ _ _ (by decide))
  · exact KeepsRegs.refl s

theorem lossEvent_keeps {offer : Event → State → State} (ih : ∀ e s, KeepsRegs s (offer e s)) (dropped : Bool)
    (src code inst : Nat) (s : State) : KeepsRegs s (lossEvent offer dropped src code inst s) := by
  unfold lossEvent
  split
  · split
    · exact ev_keeps s _
    · refine ((ev_keeps s _).trans (setBitF_keeps _ _ _ _ _ ?_)).trans (ih _ _)
      split <;> decide
  · exact KeepsRegs.refl s

theorem offerEvent_keeps (n : Nat) (fwd : Bool) (e : Event) (s : State) : KeepsRegs s (offerEvent n fwd e s) := by
  induction n generalizing fwd e s with
  | zero => exact KeepsRegs.refl s
  | succ n ih =>
    have lost := @lossEvent_keeps (offerEvent n true) (fun e s => ih true e s)
    unfold offerEvent
    dsimp only
    have h0 := ringStore_keeps s 0 e (by decide)
    generalize ringStore s 0 e = a0 at h0 ⊢
    have h1 := ringStore_keeps a0.1 1 e (by decide)
    generalize ringStore a0.1 1 e = a1 at h1 ⊢
    have h2 := bufferStore_keeps a1.1 e
    generalize bufferStore a1.1 e = a2 at h2 ⊢
    have h3 : KeepsRegs a2.1 (if fwd = true then forwardEvent a2.1 e else (a2.1, false)).1 := by
      cases fwd
      · exact KeepsRegs.refl a2.1
      · exact forwardEvent_keeps a2.1 e
    generalize (if fwd = true then forwardEvent a2.1 e else (a2.1, false)) = a3 at h3 ⊢
    exact (((((((h0.trans h1).trans h2).trans h3).trans (lost _ _ _ _ _)).trans (lost _ _ _ _ _)).trans
      (lost _ _ _ _ _)).trans (lost _ _ _ _ _))

/-- Raising an event leaves every register of the other blocks. -/
theorem raise_keeps (s : State) (src code inst : Nat) (data : Bytes) : KeepsRegs s (raise s src code inst data) :=
  offerEvent_keeps 5 true _ s

theorem raiseLimited_keeps (s : State) (src code inst scope n : Nat) (data : Nat → Bytes) :
    KeepsRegs s (raiseLimited s src code inst scope n data) := by
  unfold raiseLimited
  split
  · exact ev_keeps s _
  · exact (ev_keeps s _).trans (raise_keeps _ _ _ _ _)

end Sys2Proof.Machine
end

