-- ==== Sys2Proof/Laws/Reply.lean ====
section
/-! SUPPORT. What a reply can change: registers, what is put out, the transports, the fabric's own counts and the free values drawn;
nothing else. And that it puts the reply out. -/

namespace Sys2Proof.Machine

/-- Everything a reply leaves as it was. -/
structure ReplyFrame (s u : State) : Prop where
  now : u.now = s.now
  irq : u.irq = s.irq
  dt : u.dt = s.dt
  ev : u.ev = s.ev
  mp : u.mp = s.mp
  lr : u.lr = s.lr
  can : u.can = s.can
  mem : u.mem = s.mem
  sg : u.sg = s.sg
  ba : u.ba = s.ba
  cx : u.cx = s.cx
  sw : u.sw = s.sw
  ft : u.ft = s.ft
  pe : u.pe = s.pe
  cl : u.cl = s.cl
  hb : u.hb = s.hb
  wk : u.wk = s.wk
  bt : u.bt = s.bt
  lc : u.lc = s.lc
  pending : u.pending = s.pending
  out : s.out <+: u.out

theorem ReplyFrame.refl (s : State) : ReplyFrame s s :=
  ⟨rfl, rfl, rfl, rfl, rfl, rfl, rfl, rfl, rfl, rfl, rfl, rfl, rfl, rfl, rfl, rfl, rfl, rfl, rfl, rfl, List.prefix_refl _⟩

theorem ReplyFrame.trans {s u v : State} (a : ReplyFrame s u) (b : ReplyFrame u v) : ReplyFrame s v :=
  ⟨b.now.trans a.now, b.irq.trans a.irq, b.dt.trans a.dt, b.ev.trans a.ev, b.mp.trans a.mp, b.lr.trans a.lr,
    b.can.trans a.can, b.mem.trans a.mem, b.sg.trans a.sg, b.ba.trans a.ba, b.cx.trans a.cx, b.sw.trans a.sw,
    b.ft.trans a.ft, b.pe.trans a.pe, b.cl.trans a.cl, b.hb.trans a.hb, b.wk.trans a.wk, b.bt.trans a.bt,
    b.lc.trans a.lc, b.pending.trans a.pending, a.out.trans b.out⟩

theorem reply_wr (s : State) (f : Fld) (v i j : Nat) : ReplyFrame s (wr s f v i j) :=
  ⟨rfl, rfl, rfl, rfl, rfl, rfl, rfl, rfl, rfl, rfl, rfl, rfl, rfl, rfl, rfl, rfl, rfl, rfl, rfl, rfl, List.prefix_refl _⟩

theorem reply_emit (s : State) (o : Out) : ReplyFrame s (emit s o) :=
  ⟨rfl, rfl, rfl, rfl, rfl, rfl, rfl, rfl, rfl, rfl, rfl, rfl, rfl, rfl, rfl, rfl, rfl, rfl, rfl, rfl, List.prefix_append _ _⟩

theorem reply_drawn (s : State) : ReplyFrame s (drawn s) :=
  ⟨rfl, rfl, rfl, rfl, rfl, rfl, rfl, rfl, rfl, rfl, rfl, rfl, rfl, rfl, rfl, rfl, rfl, rfl, rfl, rfl, List.prefix_refl _⟩

theorem reply_cmd (s : State) (c : CmdState) : ReplyFrame s { s with cmd := c } :=
  ⟨rfl, rfl, rfl, rfl, rfl, rfl, rfl, rfl, rfl, rfl, rfl, rfl, rfl, rfl, rfl, rfl, rfl, rfl, rfl, rfl, List.prefix_refl _⟩

theorem reply_tf (s : State) (c : TfState) : ReplyFrame s { s with tf := c } :=
  ⟨rfl, rfl, rfl, rfl, rfl, rfl, rfl, rfl, rfl, rfl, rfl, rfl, rfl, rfl, rfl, rfl, rfl, rfl, rfl, rfl, List.prefix_refl _⟩

theorem reply_bump (s : State) (f : Fld) (i j : Nat) : ReplyFrame s (bump s f i j) := reply_wr ..

theorem reply_sendOnLink (s : State) (l : Nat) (f : FabFrame) (tag : Bytes) : ReplyFrame s (sendOnLink s l f tag) :=
  (reply_emit _ _).trans (reply_bump _ _ _ _)

theorem reply_putOnLink (s : State) (l : Nat) (f : FabFrame) : ReplyFrame s (putOnLink s l f) := by
  unfold putOnLink
  dsimp only
  split
  · exact reply_sendOnLink _ _ _ _
  · split
    · exact ReplyFrame.refl s
    · split
      · exact reply_tf s _
      · exact (reply_tf s _).trans (reply_sendOnLink _ _ _ _)

theorem reply_fabSend (s : State) (f : FabFrame) : ReplyFrame s (fabSend s f).1 := by
  unfold fabSend
  split
  · exact reply_bump _ _ _ _
  · split
    · exact reply_bump _ _ _ _
    · split
      · dsimp only
        have a : ∀ (b : Bool) (t : TfState), ReplyFrame s (if b = true then { s with tf := t } else s) := by
          intro b t
          cases b
          · exact ReplyFrame.refl s
          · exact reply_tf s t
        generalize (f.dual && linkUp s (bitsOf (routeOf s f.dst) 6 3) &&
          !(s.tf.protected_).contains (bitsOf (routeOf s f.dst) 6 3)) = d
        cases d
        · exact (a _ _).trans (reply_putOnLink _ _ _)
        · exact ((a _ _).trans (reply_putOnLink _ _ _)).trans (reply_putOnLink _ _ _)
      · exact reply_bump _ _ _ _

theorem queueReply_frame (s : State) (q slot size addr tag st : Nat) (pkt : Bytes) :
    ReplyFrame s (queueReply s q slot size addr tag st pkt) := by
  unfold queueReply
  split
  · dsimp only
    have a : ReplyFrame s (if pkt.isEmpty = true then s else emit s (.hostWrite addr (pkt.take size))) := by
      split
      · exact ReplyFrame.refl s
      · exact reply_emit s _
    generalize (if pkt.isEmpty = true then s else emit s (.hostWrite addr (pkt.take size))) = u at a ⊢
    split
    · exact a.trans (((reply_emit u _).trans (reply_wr _ _ _ _ _)).trans ((reply_wr _ _ _ _ _).trans (reply_wr _ _ _ _ _)))
    · exact a.trans (((reply_emit u _).trans (reply_wr _ _ _ _ _)).trans (reply_wr _ _ _ _ _))
  · exact ReplyFrame.refl s

theorem inbandReply_frame (s : State) (d op : Nat) (c : Call) (st : Nat) (result : Bytes) (port k mac : Nat) (tagged : Bool)
    (vid : Nat) : ReplyFrame s (inbandReply s d op c st result port k mac tagged vid) :=
  (reply_drawn s).trans (reply_emit _ _)

/-- A reply is put out, and leaves everything but the transports, registers, the fabric's counts and free values. -/
theorem sendReplyFrom_frame (s : State) (d op : Nat) (c : Call) (st : Nat) (result : Bytes) :
    ReplyFrame s (sendReplyFrom s d op c st result) ∧ Out.reply op c st result ∈ (sendReplyFrom s d op c st result).out := by
  unfold sendReplyFrom
  dsimp only
  have pre := (reply_cmd s { s.cmd with long := s.cmd.long.filter (fun l => l.call != c) }).trans
    (reply_emit _ (.reply op c st result))
  have mem : Out.reply op c st result ∈
      (emit { s with cmd := { s.cmd with long := s.cmd.long.filter (fun l => l.call != c) } } (.reply op c st result)).out := by
    simp
  have fin : ∀ {u : State},
      ReplyFrame (emit { s with cmd := { s.cmd with long := s.cmd.long.filter (fun l => l.call != c) } } (.reply op c st result)) u →
        ReplyFrame s u ∧ Out.reply op c st result ∈ u.out :=
    fun h => ⟨pre.trans h, h.out.subset mem⟩
  split
  · split
    · exact fin (queueReply_frame ..)
    · exact fin (ReplyFrame.refl _)
  · exact fin ((reply_cmd _ _).trans (reply_wr _ _ _ _ _))
  · exact fin (inbandReply_frame ..)
  · exact fin (reply_fabSend _ _)

theorem sendReply_frame (s : State) (op : Nat) (c : Call) (st : Nat) (result : Bytes) :
    ReplyFrame s (sendReply s op c st result) := (sendReplyFrom_frame ..).1

theorem sendReply_mem (s : State) (op : Nat) (c : Call) (st : Nat) (result : Bytes) :
    Out.reply op c st result ∈ (sendReply s op c st result).out := (sendReplyFrom_frame ..).2

/-- A command's answer: the reply, or its place on the long list. -/
theorem answer_cases (op : Nat) (c : Call) (a : CmdAnswer) :
    (∃ st result, a.2 = some (st, result) ∧ answer op c a = sendReply a.1 op c st result) ∨
      (a.2 = none ∧ answer op c a = { a.1 with cmd := { a.1.cmd with long := a.1.cmd.long ++ [⟨op, c, a.1.now⟩] } }) := by
  unfold answer
  cases h : a.2 with
  | none => exact .inr ⟨rfl, rfl⟩
  | some x => exact .inl ⟨x.1, x.2, rfl, rfl⟩

end Sys2Proof.Machine
end

