-- ==== Sys2Proof/Laws/Rows.lean ====
section
/-! SUPPORT. The wrappers of the rows: what a row comes to where what it needs runs, and where it does not. -/

namespace Sys2Proof.Machine

@[simp] theorem coreOn_tick (t : Nat) (s : State) : coreOn (tick t s) = coreOn s := rfl
@[simp] theorem operating_tick (t : Nat) (s : State) : operating (tick t s) = operating s := rfl
@[simp] theorem tapOn_tick (t : Nat) (s : State) : tapOn (tick t s) = tapOn s := rfl

theorem powered_on {t : Nat} {s : State} {r : Host.Outcome State Fault Refusal} (h : coreOn s = true) :
    powered t s r = r := by simp [powered, h]

theorem powered_off {t : Nat} {s : State} {r : Host.Outcome State Fault Refusal} (h : coreOn s = false) :
    powered t s r = done (tick t s) := by simp [powered, h]

theorem running_on {t : Nat} {s : State} {r : Host.Outcome State Fault Refusal} (h : operating s = true) :
    running t s r = r := by simp [running, h]

theorem running_off {t : Nat} {s : State} {r : Host.Outcome State Fault Refusal} (h : operating s = false) :
    running t s r = done (tick t s) := by simp [running, h]

theorem looping_on {t : Nat} {s : State} {r : Host.Outcome State Fault Refusal} (h : loopOn s = true) :
    looping t s r = r := by simp [looping, h]

theorem looping_off {t : Nat} {s : State} {r : Host.Outcome State Fault Refusal} (h : loopOn s = false) :
    looping t s r = done (tick t s) := by simp [looping, h]

theorem inDoze_on {t : Nat} {s : State} {r : Host.Outcome State Fault Refusal} (h : cycling s = true) :
    inDoze t s r = r := by simp [inDoze, h]

theorem inDoze_off {t : Nat} {s : State} {r : Host.Outcome State Fault Refusal} (h : cycling s = false) :
    inDoze t s r = done (tick t s) := by simp [inDoze, h]

theorem runningNow_on {s : State} {r : Host.Outcome State Fault Refusal} (h : operating s = true) :
    runningNow s r = r := by simp [runningNow, h]

theorem runningNow_off {s : State} {r : Host.Outcome State Fault Refusal} (h : operating s = false) :
    runningNow s r = done s := by simp [runningNow, h]

theorem receiving_on {t : Nat} {s : State} {r : Host.Outcome State Fault Refusal} (h : operating s = true)
    (g : s.wk.entry = none) : receiving t s r = r := by simp [receiving, h, g]

theorem receiving_off {t : Nat} {s : State} {r : Host.Outcome State Fault Refusal} (h : operating s = false) :
    receiving t s r = done (tick t s) := by simp [receiving, h]

theorem vbat_of_tapOn {s : State} (h : tapOn s = true) : s.bt.vbatLow = false := by
  simp only [tapOn, Bool.and_eq_true, Bool.not_eq_true'] at h
  exact h.2

theorem tap_on {t : Nat} {s : State} {f : State → State} (h : tapOn (arrive t s) = true) :
    tap t s f = done (serveAll (f (arrive t s))) := by
  simp only [tap, h, if_true]

theorem tap_off {t : Nat} {s : State} {f : State → State} (h : tapOn (arrive t s) = false) : tap t s f = done (arrive t s) := by
  simp [tap, h]

theorem spi_on {t zero : Nat} {s : State} {f : State → State} (g : wakesDevice (arrive t s) 3 = false)
    (h : tapOn (arrive t s) = true) : spi t s zero f = done (serveAll (f (arrive t s))) := by
  simp [spi, g, h, vbat_of_tapOn h]

theorem commandRow_on {t op : Nat} {c : Call} {p : Bytes} {s : State} {f : State → State} (h : Executes op c (tick t s)) :
    commandRow t op c p s f = done (f (atWork t s)) := by
  obtain ⟨a, b, d, e⟩ := h
  simp only [commandRow, atWork, a, b, d, e]
  rfl

theorem commandRow_off {t op : Nat} {c : Call} {p : Bytes} {s : State} {f : State → State} (h : coreOn s = false) :
    commandRow t op c p s f = done (tick t s) := by
  simp [commandRow, h]

theorem gatewayRow_on {t op : Nat} {c : Call} {p : Bytes} {s : State} {f : State → State} (h : Executes op c (tick t s)) :
    gatewayRow t op c p s f = done (f (channelsSync (atWork t s))) := commandRow_on h

/-- Bringing the channels up changes nothing where none is bus-off and none has a rebuild under way. -/
theorem channelsSync_quiet {s : State} (h : ∀ x ∈ s.can, x.2.rebuild = none ∧ isBusOff s x.1 = false) : channelsSync s = s := by
  have step : ∀ l : List (Nat × CanCh), (∀ x ∈ l, x.2.rebuild = none ∧ isBusOff s x.1 = false) →
      l.foldl (fun s x => recoverySync (if x.2.rebuild.isSome then canSync s x.1 else s) x.1) s = s := by
    intro l
    induction l with
    | nil => exact fun _ => rfl
    | cons x l ih =>
      intro h
      obtain ⟨a, b⟩ := h x (List.mem_cons_self ..)
      have now : recoverySync (if x.2.rebuild.isSome then canSync s x.1 else s) x.1 = s := by
        simp [a, recoverySync, b]
      rw [List.foldl_cons, now]
      exact ih (fun y hy => h y (List.mem_cons_of_mem _ hy))
  exact step s.can h

/-- A row that finds no channel bus-off or rebuilding, and no refused link frame to report, finds the state at its instant. -/
theorem arrive_quiet {t : Nat} {s : State} (r : s.tf.refused = 0)
    (h : ∀ x ∈ s.can, x.2.rebuild = none ∧ isBusOff s x.1 = false) : arrive t s = tick t s := by
  have q : channelsSync (tick t s) = tick t s := channelsSync_quiet h
  simp [arrive, reportRefused, r, q]

/-- An outcome that is the end of a command. -/
def Ends (o : Host.Outcome State Fault Refusal) : Prop := ∃ v, o = done v

theorem ends_done (v : State) : Ends (done v) := ⟨v, rfl⟩

theorem powered_ends {t : Nat} {s : State} {r : Host.Outcome State Fault Refusal} (h : Ends r) : Ends (powered t s r) := by
  unfold powered; split
  · exact h
  · exact ends_done _

theorem running_ends {t : Nat} {s : State} {r : Host.Outcome State Fault Refusal} (h : Ends r) : Ends (running t s r) := by
  unfold running; split
  · exact h
  · exact ends_done _

theorem receiving_ends {t : Nat} {s : State} {r : Host.Outcome State Fault Refusal} (h : Ends r) : Ends (receiving t s r) := by
  unfold receiving; split
  · exact h
  · exact ends_done _

theorem looping_ends {t : Nat} {s : State} {r : Host.Outcome State Fault Refusal} (h : Ends r) : Ends (looping t s r) := by
  unfold looping; split
  · exact h
  · exact ends_done _

theorem inDoze_ends {t : Nat} {s : State} {r : Host.Outcome State Fault Refusal} (h : Ends r) : Ends (inDoze t s r) := by
  unfold inDoze; split
  · exact h
  · exact ends_done _

theorem runningNow_ends {s : State} {r : Host.Outcome State Fault Refusal} (h : Ends r) : Ends (runningNow s r) := by
  unfold runningNow; split
  · exact h
  · exact ends_done _

theorem tap_ends (t : Nat) (s : State) (f : State → State) : Ends (tap t s f) := ends_done _

theorem spi_ends (t : Nat) (s : State) (zero : Nat) (f : State → State) : Ends (spi t s zero f) := ends_done _

theorem commandRow_ends (t op : Nat) (c : Call) (p : Bytes) (s : State) (f : State → State) : Ends (commandRow t op c p s f) := by
  unfold commandRow; dsimp only; repeat' split
  all_goals exact ends_done _

/-- Which processor is halted does not depend on the instant. -/
@[simp] theorem cpHalted_tick (t op : Nat) (s : State) : cpHalted (tick t s) op = cpHalted s op := rfl
@[simp] theorem halted_tick (t p : Nat) (s : State) : halted (tick t s) p = halted s p := rfl

end Sys2Proof.Machine
end

