-- ==== Sys2Proof/Laws/Commands.lean ====
section
/-! SUPPORT. The command packets' rows in one view: each is `commandRow` at its opcode with its own effect, and most of those effects
are an answer. -/

namespace Sys2Proof.Machine

/-- The effect of a command packet's row, where it executes. -/
def commandEffect (i : Instr) (s : State) : State :=
  match i with
  | .lrReadPage _ c p => answer 0x8010 c (opReadPage p s)
  | .lrCheckpoint _ c p => answer 0x8011 c (opCheckpoint p s)
  | .canSetMode _ c p => serveAll (answer 0x2001 c (opSetMode p (channelsSync s)))
  | .canTxEnqueue _ c p => answer 0x2010 c (opTxEnqueue p (channelsSync s))
  | .canTxCancel _ c p => serveAll (answer 0x2011 c (opTxCancel c p (channelsSync s)))
  | .canGetState _ c p => answer 0x2020 c (opGetState p (channelsSync s))
  | .canFltWrite _ c p => answer 0x2030 c (opFltWrite p (channelsSync s))
  | .canFltRead _ c p => answer 0x2031 c (opFltRead p (channelsSync s))
  | .sgTableWrite _ c p => serveAll (answer 0x3001 c (opTableWrite p (channelsSync s)))
  | .sgTableRead _ c p => answer 0x3002 c (opTableRead p (channelsSync s))
  | .sgCanrtAdd _ c p => answer 0x3010 c (opCanrtAdd p (channelsSync s))
  | .sgCanrtDel _ c p => answer 0x3011 c (opCanrtDel p (channelsSync s))
  | .sgCanrtFind _ c p => answer 0x3012 c (opCanrtFind p (channelsSync s))
  | .sgSlotRead g c p => withGatewayErrors g.errors (fun s => answer 0x3020 c (opSlotRead p s)) (channelsSync s)
  | .sgSlotWrite g c p => withGatewayErrors g.errors (fun s => serveAll (answer 0x3021 c (opSlotWrite p s))) (channelsSync s)
  | .sgSlotConfig _ c p => answer 0x3022 c (opSlotConfig p (channelsSync s))
  | .sgTplTrigger g c p =>
    withGatewayErrors g.errors (fun s => serveAll (answer 0x3030 c (opTplTrigger c p s))) (channelsSync s)
  | .sgTplExt _ c p => answer 0x3031 c (opTplExt p (channelsSync s))
  | .sgAgeQuery g c p => withGatewayErrors g.errors (fun s => answer 0x3032 c (opAgeQuery p s)) (channelsSync s)
  | .ethGclWrite _ c p => answer 0x1400 c (opGclWrite p s)
  | .ethGclRead _ c p => answer 0x1401 c (opGclRead p s)
  | .swTableWrite _ c p => answer 0x1420 c (opSwTableWrite p s)
  | .swTableRead _ c p => answer 0x1421 c (opSwTableRead p s)
  | .ftTableWrite _ c p => answer 0x1001 c (opFtTableWrite p s)
  | .ftTableRead _ c p => answer 0x1002 c (opFtTableRead p s)
  | .ftL2Add _ c p => answer 0x1010 c (opL2Add p s)
  | .ftL2Del _ c p => answer 0x1011 c (opL2Del p s)
  | .ftL2Find _ c p => answer 0x1012 c (opL2Find p s)
  | .ftL2Flush _ c p => answer 0x1013 c (opL2Flush p s)
  | .ftLpmAdd _ c p => answer 0x1020 c (opLpmAdd p s)
  | .ftLpmDel _ c p => answer 0x1021 c (opLpmDel p s)
  | .ftLpmFind _ c p => answer 0x1022 c (opLpmFind p s)
  | .peLoadOpen _ c p => answer 0x1500 c (opLoadOpen p s)
  | .peLoadChunk _ c p => answer 0x1501 c (opLoadChunk p s)
  | .peLoadClose _ c p => answer 0x1502 c (opLoadClose p s)
  | .peBankSwitch _ c p => answer 0x1503 c (opBankSwitch p s)
  | .clTurnOpen _ c p => answer 0x1600 c (opTurnOpen p s)
  | .clRuleAdd _ c p => answer 0x1601 c (opRuleAdd p s)
  | .clRuleDel _ c p => answer 0x1602 c (opRuleDel p s)
  | .clTurnCommit _ c p => answer 0x1603 c (opTurnCommit c p s)
  | .clTurnAbort _ c p => answer 0x1604 c (opTurnAbort p s)
  | .clRuleRead _ c p => answer 0x1605 c (opRuleRead p s)
  | .ckChWrite _ c p => answer 0x3040 c (opCkWrite p (channelsSync s))
  | .ckChRead _ c p => answer 0x3041 c (opCkRead p (channelsSync s))
  | .ckChResync _ c p => answer 0x3042 c (opCkResync p (channelsSync s))
  | .cxKeyLoad _ c p => answer 0x4001 c (opKeyLoad p s)
  | .cxKeyErase _ c p => answer 0x4002 c (opKeyErase p s)
  | .cxKeyInfo _ c p => answer 0x4003 c (opKeyInfo p s)
  | .cxRequest _ c p => answer 0x4010 c (opCxRequest c p s)
  | .cxVoidReg _ c p => answer 0x4011 c (opVoidReg p s)
  | .cxVoidUnreg _ c p => answer 0x4012 c (opVoidUnreg p s)
  | .cxSecpduWrite _ c p => answer 0x4020 c (opSecpduWrite p s)
  | .cxFvRead _ c p => answer 0x4021 c (opFvRead p s)
  | .cxFvSet _ c p => answer 0x4022 c (opFvSetAll p s)
  | .cxProfileWrite _ c p => answer 0x4030 c (opProfileWrite p s)
  | .macsecPortCfg _ c p => answer 0x4040 c (opMacsecPort p s)
  | .macsecSaInstall _ c p => answer 0x4041 c (opMacsecInstall p s)
  | .macsecSaCtrl _ c p => answer 0x4042 c (opMacsecCtrl p s)
  | .tfTopoRead _ c p => answer 0x5001 c (opTopoRead p s)
  | .tfIdRelease _ c p => answer 0x5002 c (opIdRelease p s)
  | .tfRouteRead _ c p => answer 0x5003 c (opRouteRead p s)
  | .tfFence _ c p => answer 0x5010 c (opFence c p s)
  | .tfRra _ c p => longAnswer 0x5011 c s (opRra c p)
  | .tfRekey _ c p => answer 0x5020 c (opRekey p s)
  | .sysInfo _ c p => answer 0x0001 c (opInfo p s)
  | .sysEcho _ c p => answer 0x0002 c (opEcho p s)
  | .sysNonce _ c p => answer 0x0003 c (opNonce p s)
  | .sysShutdown _ c p => answer 0x0004 c (opShutdown p s)
  | .sysRestart _ c p => ownAnswer 0x0005 c (opRestart c p s)
  | .sysEventRead _ c p => answer 0x0006 c (opEventRead p (reportRefused s))
  | .sysEventPush _ c p => ownAnswer 0x0020 c (opEventPush c p s)
  | .pwrGrpRequest _ c p => serveAll (answer 0x6001 c (opGrpRequest p (channelsSync s)))
  | .pwrGrpState _ c p => answer 0x6002 c (opGrpState p s)
  | .pwrNodesRead _ c p => answer 0x6003 c (opNodesRead p s)
  | .pwrSchedWrite _ c p => answer 0x6010 c (opSchedWrite p s)
  | .pwrSchedRead _ c p => answer 0x6011 c (opSchedRead p s)
  | .updOpen _ c p => answer 0x7001 c (opUpdOpen c p s)
  | .updWrite _ c p => answer 0x7002 c (opUpdWrite p s)
  | .updClose _ c p => answer 0x7003 c (opUpdClose p s)
  | .updPrepare _ c p => answer 0x7004 c (opUpdPrepare p s)
  | .updActivate _ c p => ownAnswer 0x7005 c (opUpdActivate c p s)
  | .updAbort _ c p => answer 0x7006 c (opUpdAbort p s)
  | .updConfirm _ c p => answer 0x7007 c (opUpdConfirm p s)
  | .updRevert _ c p => ownAnswer 0x7008 c (opUpdRevert c p s)
  | .updStatus _ c p => answer 0x7009 c (opUpdStatus p s)
  | .updFabBegin _ c p => answer 0x7010 c (opFabBegin p s)
  | .updFabMsg _ c p => ownAnswer 0x7011 c (opFabMsg c p s)
  | .btAltClear _ c p => answer 0x7020 c (opAltClear p s)
  | .settingsSave _ c p => answer 0x7030 c (opSettingsSave p s)
  | .settingsInfo _ c p => answer 0x7031 c (opSettingsInfo p s)
  | .lcInfo _ c p => answer 0x4050 c (opLcInfo p s)
  | .lcAdvance _ c p => ownAnswer 0x4051 c (opLcAdvance c p s)
  | .lcReturn _ c p => ownAnswer 0x4052 c (opLcReturn c p s)
  | .lcScrap _ c p => ownAnswer 0x4053 c (opLcScrap c p s)
  | .lcRelock _ c p => answer 0x4054 c (opLcRelock p s)
  | .lcVkeyWrite _ c p => answer 0x4055 c (opVkeyWrite p s)
  | .lcVkeyRevoke _ c p => answer 0x4056 c (opVkeyRevoke p s)
  | .lcTamperClear _ c p => answer 0x4057 c (opTamperClear p s)
  | .registerWrite .. | .rcCounterRead .. | .syncReceived .. | .stepApplied .. | .residualWithin1us .. | .syncLoss ..
  | .holdoverLimitExpired .. | .uncertaintySaturated .. | .announceReceived .. | .announceReceiptTimeout ..
  | .peerDelayMessage .. | .syncTransmission .. | .siSample .. | .derateRecompute .. | .plannerLower .. | .avsReadback ..
  | .avsRetry .. | .temperatureReading .. | .vreq125Record .. | .hemReplan .. | .lifeRecordCheckpoint ..
  | .checkpointPeriod .. | .lrCtrlCheckpoint .. | .lrSnapTake .. | .canCtrlModeWrite .. | .modeChangeAtIdle ..
  | .integrationComplete .. | .canFrameAccepted .. | .rxStoreComplete .. | .protocolException .. | .selectionPoint ..
  | .rebuildComplete .. | .canTransmitComplete .. | .arbitrationLost .. | .canErrorDetected .. | .busoffHoldoffExpired ..
  | .busoffRecovery .. | .canTxbufReq .. | .canTxqPut .. | .canTxbufCancel .. | .canTxqCancel .. | .canRxfAck ..
  | .canTxefAck .. | .canMbNdClear .. | .hostTxElementWrite .. | .cloakIgnoredFrame .. | .signalRecordSend ..
  | .signalRecordReceived .. | .canCopyReceived .. | .sgNdClr .. | .cycleInstant .. | .minIntervalExpired ..
  | .tokenRefill .. | .sgChrateWrite .. | .acfPduSeal .. | .sgMirrorNWrite .. | .ethCfgWrite .. | .ethLinkUp ..
  | .ethLinkDown .. | .ethFrameReceived .. | .outputFrameStart .. | .outputFrameEnd .. | .gateEntryChange ..
  | .configChangeTime .. | .recoveryResetTimer .. | .swMirrorNWrite .. | .octetCounterLoRead .. | .learnEngineOperation ..
  | .ageingSweep .. | .quarantineExpired .. | .ftPortQuarRelease .. | .ftLockWrite .. | .lockHeld .. | .lockExpired ..
  | .ftDmaTailWrite .. | .ftDmaCtrlWrite .. | .dmaDescriptorComplete .. | .lpmNodeFree .. | .frameReady ..
  | .parseDispatch .. | .nop .. | .add .. | .sub .. | .and .. | .or .. | .xor .. | .shl .. | .shr .. | .addi .. | .andi ..
  | .ori .. | .xori .. | .movi .. | .movhi .. | .shli .. | .shri .. | .ext .. | .ins .. | .ldw .. | .setc .. | .advc ..
  | .getc .. | .ldm .. | .emit .. | .emitf .. | .lkt .. | .beq .. | .bne .. | .bltu .. | .bgeu .. | .beqi .. | .bnei ..
  | .bbs .. | .bbc .. | .jmp .. | .end_ .. | .drop .. | .rcirc .. | .peDbgHalt .. | .peDbgResume .. | .peDbgStep ..
  | .bankDrained .. | .classificationDecision .. | .commitInstant .. | .drainTimeout .. | .clMissActWrite ..
  | .ternaryScrub .. | .cipherTagVerified .. | .streamingChunkRelease .. | .tlLinkUp .. | .tlLinkDown ..
  | .protectionApplied .. | .destinationUnreachableTimeout .. | .fabricFrameReceived .. | .helloTimer .. | .helloReceived ..
  | .deviceRecordTimer .. | .deviceRecordReceived .. | .deviceRecordExpired .. | .electionSettled .. | .idAssign ..
  | .routeUpdate .. | .routeActivate .. | .acknowledge .. | .sleeveClose .. | .sleeveOpen .. | .linkKeyOffer ..
  | .linkRekeyTimer .. | .rraRequest .. | .rraResponse .. | .postedWriteTimeout .. | .npTimeout .. | .lockReleaseTimeout ..
  | .hostBridgeReset .. | .pcieLinkUp .. | .windowRead .. | .windowWrite .. | .atomicOp .. | .deferredResultArrival ..
  | .heldReadExpired .. | .hbRingTailWrite .. | .hbRingSizeWrite .. | .spiRegisterWrite .. | .spiRegisterRead ..
  | .spiStatus .. | .spiCommandWrite .. | .spiReplyRead .. | .spiCommandStatus .. | .cmdQpSqTailWrite ..
  | .cmdQpCqHeadWrite .. | .cmdQpCtrlWrite .. | .cmdEvrCfgWrite .. | .inbandCommandFrame .. | .forwardedCommand ..
  | .forwardedReply .. | .forwardTimeout .. | .dominantTimeout .. | .busWakePattern .. | .swkDecodedFrame .. | .wakePin ..
  | .pcieWake .. | .ethernetSignalWake .. | .tyethSignalWake .. | .debugTckWake .. | .nmTimeout .. | .nmPeriod ..
  | .wakeHoldExpired .. | .sleepCommit .. | .keepAwakeOffender .. | .idleEntry .. | .lowPowerChoice .. | .switchOff ..
  | .scheduleWake .. | .scheduleHoldEnd .. | .returnToRun .. | .deviceStart .. | .startStepTimeout .. | .startRetry ..
  | .slotEraseComplete .. | .fabCommitTimeout .. | .fabQueryTimer .. | .commitAtRestart .. | .btAltWrite .. | .extest ..
  | .samplePreload .. | .idcode .. | .dbgAccess .. | .dbgLevel .. | .unlockChal .. | .unlockResp .. | .bypass ..
  | .tapReset .. | .debugSessionExpired .. | .cpdbgHalt .. | .cpdbgResume .. | .cpdbgStep .. | .cpdbgMdataAccess ..
  | .alarm .. | .alarmReset .. | .supplyMonitorCrossing .. | .wakeDieReset .. | .resetN .. | .readDeferred ..
  | .cipherRequestCompleted .. => s

/-- A command packet's row is its effect, run where and when commands are executed. -/
theorem exec_command (i : Instr) (t op : Nat) (c : Call) (p : Bytes) (s : State) (h : commandOf i = some (t, op, c, p)) :
    exec i s = commandRow t op c p s (commandEffect i) := by
  cases i
  case lrReadPage => cases h; dsimp only [exec]; delta execLrReadPage; rfl
  case lrCheckpoint => cases h; dsimp only [exec]; delta execLrCheckpoint; rfl
  case canSetMode => cases h; dsimp only [exec]; delta execCanSetMode; rfl
  case canTxEnqueue => cases h; dsimp only [exec]; delta execCanTxEnqueue; rfl
  case canTxCancel => cases h; dsimp only [exec]; delta execCanTxCancel; rfl
  case canGetState => cases h; dsimp only [exec]; delta execCanGetState; rfl
  case canFltWrite => cases h; dsimp only [exec]; delta execCanFltWrite; rfl
  case canFltRead => cases h; dsimp only [exec]; delta execCanFltRead; rfl
  case sgTableWrite => cases h; dsimp only [exec]; delta execSgTableWrite; rfl
  case sgTableRead => cases h; dsimp only [exec]; delta execSgTableRead; rfl
  case sgCanrtAdd => cases h; dsimp only [exec]; delta execSgCanrtAdd; rfl
  case sgCanrtDel => cases h; dsimp only [exec]; delta execSgCanrtDel; rfl
  case sgCanrtFind => cases h; dsimp only [exec]; delta execSgCanrtFind; rfl
  case sgSlotRead g _ _ => cases h; dsimp only [exec]; delta execSgSlotRead; rfl
  case sgSlotWrite g _ _ => cases h; dsimp only [exec]; delta execSgSlotWrite; rfl
  case sgSlotConfig => cases h; dsimp only [exec]; delta execSgSlotConfig; rfl
  case sgTplTrigger g _ _ => cases h; dsimp only [exec]; delta execSgTplTrigger; rfl
  case sgTplExt => cases h; dsimp only [exec]; delta execSgTplExt; rfl
  case sgAgeQuery g _ _ => cases h; dsimp only [exec]; delta execSgAgeQuery; rfl
  case ethGclWrite => cases h; dsimp only [exec]; delta execEthGclWrite; rfl
  case ethGclRead => cases h; dsimp only [exec]; delta execEthGclRead; rfl
  case swTableWrite => cases h; dsimp only [exec]; delta execSwTableWrite; rfl
  case swTableRead => cases h; dsimp only [exec]; delta execSwTableRead; rfl
  case ftTableWrite => cases h; dsimp only [exec]; delta execFtTableWrite; rfl
  case ftTableRead => cases h; dsimp only [exec]; delta execFtTableRead; rfl
  case ftL2Add => cases h; dsimp only [exec]; delta execFtL2Add; rfl
  case ftL2Del => cases h; dsimp only [exec]; delta execFtL2Del; rfl
  case ftL2Find => cases h; dsimp only [exec]; delta execFtL2Find; rfl
  case ftL2Flush => cases h; dsimp only [exec]; delta execFtL2Flush; rfl
  case ftLpmAdd => cases h; dsimp only [exec]; delta execFtLpmAdd; rfl
  case ftLpmDel => cases h; dsimp only [exec]; delta execFtLpmDel; rfl
  case ftLpmFind => cases h; dsimp only [exec]; delta execFtLpmFind; rfl
  case peLoadOpen => cases h; dsimp only [exec]; delta execPeLoadOpen; rfl
  case peLoadChunk => cases h; dsimp only [exec]; delta execPeLoadChunk; rfl
  case peLoadClose => cases h; dsimp only [exec]; delta execPeLoadClose; rfl
  case peBankSwitch => cases h; dsimp only [exec]; delta execPeBankSwitch; rfl
  case clTurnOpen => cases h; dsimp only [exec]; delta execClTurnOpen; rfl
  case clRuleAdd => cases h; dsimp only [exec]; delta execClRuleAdd; rfl
  case clRuleDel => cases h; dsimp only [exec]; delta execClRuleDel; rfl
  case clTurnCommit => cases h; dsimp only [exec]; delta execClTurnCommit; rfl
  case clTurnAbort => cases h; dsimp only [exec]; delta execClTurnAbort; rfl
  case clRuleRead => cases h; dsimp only [exec]; delta execClRuleRead; rfl
  case ckChWrite => cases h; dsimp only [exec]; delta execCkChWrite; rfl
  case ckChRead => cases h; dsimp only [exec]; delta execCkChRead; rfl
  case ckChResync => cases h; dsimp only [exec]; delta execCkChResync; rfl
  case cxKeyLoad => cases h; dsimp only [exec]; delta execCxKeyLoad; rfl
  case cxKeyErase => cases h; dsimp only [exec]; delta execCxKeyErase; rfl
  case cxKeyInfo => cases h; dsimp only [exec]; delta execCxKeyInfo; rfl
  case cxRequest => cases h; dsimp only [exec]; delta execCxRequest; rfl
  case cxVoidReg => cases h; dsimp only [exec]; delta execCxVoidReg; rfl
  case cxVoidUnreg => cases h; dsimp only [exec]; delta execCxVoidUnreg; rfl
  case cxSecpduWrite => cases h; dsimp only [exec]; delta execCxSecpduWrite; rfl
  case cxFvRead => cases h; dsimp only [exec]; delta execCxFvRead; rfl
  case cxFvSet => cases h; dsimp only [exec]; delta execCxFvSet; rfl
  case cxProfileWrite => cases h; dsimp only [exec]; delta execCxProfileWrite; rfl
  case macsecPortCfg => cases h; dsimp only [exec]; delta execMacsecPortCfg; rfl
  case macsecSaInstall => cases h; dsimp only [exec]; delta execMacsecSaInstall; rfl
  case macsecSaCtrl => cases h; dsimp only [exec]; delta execMacsecSaCtrl; rfl
  case tfTopoRead => cases h; dsimp only [exec]; delta execTfTopoRead; rfl
  case tfIdRelease => cases h; dsimp only [exec]; delta execTfIdRelease; rfl
  case tfRouteRead => cases h; dsimp only [exec]; delta execTfRouteRead; rfl
  case tfFence => cases h; dsimp only [exec]; delta execTfFence; rfl
  case tfRra => cases h; dsimp only [exec]; delta execTfRra; rfl
  case tfRekey => cases h; dsimp only [exec]; delta execTfRekey; rfl
  case sysInfo => cases h; dsimp only [exec]; delta execSysInfo; rfl
  case sysEcho => cases h; dsimp only [exec]; delta execSysEcho; rfl
  case sysNonce => cases h; dsimp only [exec]; delta execSysNonce; rfl
  case sysShutdown => cases h; dsimp only [exec]; delta execSysShutdown; rfl
  case sysRestart => cases h; dsimp only [exec]; delta execSysRestart; rfl
  case sysEventRead => cases h; dsimp only [exec]; delta execSysEventRead; rfl
  case sysEventPush => cases h; dsimp only [exec]; delta execSysEventPush; rfl
  case pwrGrpRequest => cases h; dsimp only [exec]; delta execPwrGrpRequest; rfl
  case pwrGrpState => cases h; dsimp only [exec]; delta execPwrGrpState; rfl
  case pwrNodesRead => cases h; dsimp only [exec]; delta execPwrNodesRead; rfl
  case pwrSchedWrite => cases h; dsimp only [exec]; delta execPwrSchedWrite; rfl
  case pwrSchedRead => cases h; dsimp only [exec]; delta execPwrSchedRead; rfl
  case updOpen => cases h; dsimp only [exec]; delta execUpdOpen; rfl
  case updWrite => cases h; dsimp only [exec]; delta execUpdWrite; rfl
  case updClose => cases h; dsimp only [exec]; delta execUpdClose; rfl
  case updPrepare => cases h; dsimp only [exec]; delta execUpdPrepare; rfl
  case updActivate => cases h; dsimp only [exec]; delta execUpdActivate; rfl
  case updAbort => cases h; dsimp only [exec]; delta execUpdAbort; rfl
  case updConfirm => cases h; dsimp only [exec]; delta execUpdConfirm; rfl
  case updRevert => cases h; dsimp only [exec]; delta execUpdRevert; rfl
  case updStatus => cases h; dsimp only [exec]; delta execUpdStatus; rfl
  case updFabBegin => cases h; dsimp only [exec]; delta execUpdFabBegin; rfl
  case updFabMsg => cases h; dsimp only [exec]; delta execUpdFabMsg; rfl
  case btAltClear => cases h; dsimp only [exec]; delta execBtAltClear; rfl
  case settingsSave => cases h; dsimp only [exec]; delta execSettingsSave; rfl
  case settingsInfo => cases h; dsimp only [exec]; delta execSettingsInfo; rfl
  case lcInfo => cases h; dsimp only [exec]; delta execLcInfo; rfl
  case lcAdvance => cases h; dsimp only [exec]; delta execLcAdvance; rfl
  case lcReturn => cases h; dsimp only [exec]; delta execLcReturn; rfl
  case lcScrap => cases h; dsimp only [exec]; delta execLcScrap; rfl
  case lcRelock => cases h; dsimp only [exec]; delta execLcRelock; rfl
  case lcVkeyWrite => cases h; dsimp only [exec]; delta execLcVkeyWrite; rfl
  case lcVkeyRevoke => cases h; dsimp only [exec]; delta execLcVkeyRevoke; rfl
  case lcTamperClear => cases h; dsimp only [exec]; delta execLcTamperClear; rfl
  all_goals cases h

/-- Where it executes, a command packet's row ends in what its effect leaves. -/
theorem exec_executes {i : Instr} {t op : Nat} {c : Call} {p : Bytes} {s : State} (h : commandOf i = some (t, op, c, p))
    (x : Executes op c (tick t s)) : exec i s = .next (settle (commandEffect i (atWork t s))) :=
  (exec_command i t op c p s h).trans (commandRow_on x)

/-- But for the opcodes that reply in a way of their own, the effect is an answer, and what the channels go on with. -/
theorem commandEffect_answer (i : Instr) (t op : Nat) (c : Call) (p : Bytes) (s : State) (h : commandOf i = some (t, op, c, p))
    (hl : op ∉ ownReplies) (he : gatewayErrorsOf i = []) : ∃ a, commandEffect i s = servedBy op (answer op c a) := by
  cases i
  case lrReadPage => cases h; exact ⟨_, rfl⟩
  case lrCheckpoint => cases h; exact ⟨_, rfl⟩
  case canSetMode => cases h; exact ⟨_, rfl⟩
  case canTxEnqueue => cases h; exact ⟨_, rfl⟩
  case canTxCancel => cases h; exact ⟨_, rfl⟩
  case canGetState => cases h; exact ⟨_, rfl⟩
  case canFltWrite => cases h; exact ⟨_, rfl⟩
  case canFltRead => cases h; exact ⟨_, rfl⟩
  case sgTableWrite => cases h; exact ⟨_, rfl⟩
  case sgTableRead => cases h; exact ⟨_, rfl⟩
  case sgCanrtAdd => cases h; exact ⟨_, rfl⟩
  case sgCanrtDel => cases h; exact ⟨_, rfl⟩
  case sgCanrtFind => cases h; exact ⟨_, rfl⟩
  case sgSlotRead g _ _ => cases h; obtain ⟨_, _⟩ := g; cases he; exact ⟨_, rfl⟩
  case sgSlotWrite g _ _ => cases h; obtain ⟨_, _⟩ := g; cases he; exact ⟨_, rfl⟩
  case sgSlotConfig => cases h; exact ⟨_, rfl⟩
  case sgTplTrigger g _ _ => cases h; obtain ⟨_, _⟩ := g; cases he; exact ⟨_, rfl⟩
  case sgTplExt => cases h; exact ⟨_, rfl⟩
  case sgAgeQuery g _ _ => cases h; obtain ⟨_, _⟩ := g; cases he; exact ⟨_, rfl⟩
  case ethGclWrite => cases h; exact ⟨_, rfl⟩
  case ethGclRead => cases h; exact ⟨_, rfl⟩
  case swTableWrite => cases h; exact ⟨_, rfl⟩
  case swTableRead => cases h; exact ⟨_, rfl⟩
  case ftTableWrite => cases h; exact ⟨_, rfl⟩
  case ftTableRead => cases h; exact ⟨_, rfl⟩
  case ftL2Add => cases h; exact ⟨_, rfl⟩
  case ftL2Del => cases h; exact ⟨_, rfl⟩
  case ftL2Find => cases h; exact ⟨_, rfl⟩
  case ftL2Flush => cases h; exact ⟨_, rfl⟩
  case ftLpmAdd => cases h; exact ⟨_, rfl⟩
  case ftLpmDel => cases h; exact ⟨_, rfl⟩
  case ftLpmFind => cases h; exact ⟨_, rfl⟩
  case peLoadOpen => cases h; exact ⟨_, rfl⟩
  case peLoadChunk => cases h; exact ⟨_, rfl⟩
  case peLoadClose => cases h; exact ⟨_, rfl⟩
  case peBankSwitch => cases h; exact ⟨_, rfl⟩
  case clTurnOpen => cases h; exact ⟨_, rfl⟩
  case clRuleAdd => cases h; exact ⟨_, rfl⟩
  case clRuleDel => cases h; exact ⟨_, rfl⟩
  case clTurnCommit => cases h; exact ⟨_, rfl⟩
  case clTurnAbort => cases h; exact ⟨_, rfl⟩
  case clRuleRead => cases h; exact ⟨_, rfl⟩
  case ckChWrite => cases h; exact ⟨_, rfl⟩
  case ckChRead => cases h; exact ⟨_, rfl⟩
  case ckChResync => cases h; exact ⟨_, rfl⟩
  case cxKeyLoad => cases h; exact ⟨_, rfl⟩
  case cxKeyErase => cases h; exact ⟨_, rfl⟩
  case cxKeyInfo => cases h; exact ⟨_, rfl⟩
  case cxRequest => cases h; exact ⟨_, rfl⟩
  case cxVoidReg => cases h; exact ⟨_, rfl⟩
  case cxVoidUnreg => cases h; exact ⟨_, rfl⟩
  case cxSecpduWrite => cases h; exact ⟨_, rfl⟩
  case cxFvRead => cases h; exact ⟨_, rfl⟩
  case cxFvSet => cases h; exact ⟨_, rfl⟩
  case cxProfileWrite => cases h; exact ⟨_, rfl⟩
  case macsecPortCfg => cases h; exact ⟨_, rfl⟩
  case macsecSaInstall => cases h; exact ⟨_, rfl⟩
  case macsecSaCtrl => cases h; exact ⟨_, rfl⟩
  case tfTopoRead => cases h; exact ⟨_, rfl⟩
  case tfIdRelease => cases h; exact ⟨_, rfl⟩
  case tfRouteRead => cases h; exact ⟨_, rfl⟩
  case tfFence => cases h; exact ⟨_, rfl⟩
  case tfRra => cases h; exact absurd (by decide) hl
  case tfRekey => cases h; exact ⟨_, rfl⟩
  case sysInfo => cases h; exact ⟨_, rfl⟩
  case sysEcho => cases h; exact ⟨_, rfl⟩
  case sysNonce => cases h; exact ⟨_, rfl⟩
  case sysShutdown => cases h; exact ⟨_, rfl⟩
  case sysRestart => cases h; exact absurd (by decide) hl
  case sysEventRead => cases h; exact ⟨_, rfl⟩
  case sysEventPush => cases h; exact absurd (by decide) hl
  case pwrGrpRequest => cases h; exact ⟨_, rfl⟩
  case pwrGrpState => cases h; exact ⟨_, rfl⟩
  case pwrNodesRead => cases h; exact ⟨_, rfl⟩
  case pwrSchedWrite => cases h; exact ⟨_, rfl⟩
  case pwrSchedRead => cases h; exact ⟨_, rfl⟩
  case updOpen => cases h; exact ⟨_, rfl⟩
  case updWrite => cases h; exact ⟨_, rfl⟩
  case updClose => cases h; exact ⟨_, rfl⟩
  case updPrepare => cases h; exact ⟨_, rfl⟩
  case updActivate => cases h; exact absurd (by decide) hl
  case updAbort => cases h; exact ⟨_, rfl⟩
  case updConfirm => cases h; exact ⟨_, rfl⟩
  case updRevert => cases h; exact absurd (by decide) hl
  case updStatus => cases h; exact ⟨_, rfl⟩
  case updFabBegin => cases h; exact ⟨_, rfl⟩
  case updFabMsg => cases h; exact absurd (by decide) hl
  case btAltClear => cases h; exact ⟨_, rfl⟩
  case settingsSave => cases h; exact ⟨_, rfl⟩
  case settingsInfo => cases h; exact ⟨_, rfl⟩
  case lcInfo => cases h; exact ⟨_, rfl⟩
  case lcAdvance => cases h; exact absurd (by decide) hl
  case lcReturn => cases h; exact absurd (by decide) hl
  case lcScrap => cases h; exact absurd (by decide) hl
  case lcRelock => cases h; exact ⟨_, rfl⟩
  case lcVkeyWrite => cases h; exact ⟨_, rfl⟩
  case lcVkeyRevoke => cases h; exact ⟨_, rfl⟩
  case lcTamperClear => cases h; exact ⟨_, rfl⟩
  all_goals cases h

end Sys2Proof.Machine
end

