-- ==== Sys2Proof/Laws/Memory.lean ====
section
/-! SUPPORT. Every memory operation keeps the canonical form, and a read after a write. -/

namespace Sys2Proof.Machine

theorem Memory.okFrom_weaken {m : Memory} {a b : Nat} (h : b ≤ a) (w : Memory.okFrom a m = true) :
    Memory.okFrom b m = true := by
  cases m with
  | nil => rfl
  | cons c m =>
    obtain ⟨n, v⟩ := c
    simp only [Memory.okFrom, Bool.and_eq_true, decide_eq_true_eq] at w ⊢
    exact ⟨⟨Nat.le_trans h w.1.1, w.1.2⟩, w.2⟩

theorem Memory.erase_okFrom {m : Memory} {lo : Nat} (a : Nat) (w : Memory.okFrom lo m = true) :
    Memory.okFrom lo (Memory.erase m a) = true := by
  induction m generalizing lo with
  | nil => rfl
  | cons c m ih =>
    obtain ⟨n, v⟩ := c
    simp only [Memory.okFrom, Bool.and_eq_true, decide_eq_true_eq] at w
    simp only [Memory.erase]
    split
    · exact Memory.okFrom_weaken (by omega) w.2
    · simp only [Memory.okFrom, Bool.and_eq_true, decide_eq_true_eq]
      exact ⟨w.1, ih w.2⟩

theorem Memory.insert_okFrom {m : Memory} {lo : Nat} {a : Nat} {v : Byte} (h : lo ≤ a) (hv : v ≠ Memory.blank)
    (w : Memory.okFrom lo m = true) : Memory.okFrom lo (Memory.insert m a v) = true := by
  induction m generalizing lo with
  | nil => simp [Memory.insert, Memory.okFrom, h, hv]
  | cons c m ih =>
    obtain ⟨n, x⟩ := c
    simp only [Memory.okFrom, Bool.and_eq_true, decide_eq_true_eq] at w
    simp only [Memory.insert]
    split
    · rename_i hlt
      simp only [Memory.okFrom, Bool.and_eq_true, decide_eq_true_eq]
      exact ⟨⟨h, hv⟩, ⟨by omega, w.1.2⟩, w.2⟩
    · split
      · rename_i he
        subst he
        simp only [Memory.okFrom, Bool.and_eq_true, decide_eq_true_eq]
        exact ⟨⟨h, hv⟩, w.2⟩
      · simp only [Memory.okFrom, Bool.and_eq_true, decide_eq_true_eq]
        exact ⟨w.1, ih (by omega) w.2⟩

theorem Memory.write_wf (m : Memory) (a : Nat) (v : Byte) (w : Memory.wf m = true) : Memory.wf (Memory.write m a v) = true := by
  unfold Memory.write
  split
  · exact Memory.erase_okFrom a w
  · exact Memory.insert_okFrom (Nat.zero_le a) (by assumption) w

theorem Memory.writeBytes_wf (bs : Bytes) (m : Memory) (a : Nat) (w : Memory.wf m = true) :
    Memory.wf (Memory.writeBytes m a bs) = true := by
  induction bs generalizing m a with
  | nil => exact w
  | cons b bs ih => exact ih _ _ (Memory.write_wf m a b w)

theorem Memory.reset_wf : Memory.wf [] = true := rfl

theorem Memory.read_insert_same (m : Memory) (a : Nat) (v : Byte) : Memory.read (Memory.insert m a v) a = v := by
  induction m with
  | nil => simp [Memory.insert, Memory.read]
  | cons c m ih =>
    obtain ⟨n, x⟩ := c
    simp only [Memory.insert]
    split
    · simp [Memory.read]
    · split
      · simp [Memory.read]
      · rename_i h
        simp [Memory.read, h, ih]

theorem Memory.read_insert_other (m : Memory) (a b : Nat) (v : Byte) (h : b ≠ a) :
    Memory.read (Memory.insert m a v) b = Memory.read m b := by
  induction m with
  | nil => simp [Memory.insert, Memory.read, Ne.symm h]
  | cons c m ih =>
    obtain ⟨n, x⟩ := c
    simp only [Memory.insert]
    split
    · simp [Memory.read, Ne.symm h]
    · split
      · rename_i h2
        subst h2
        simp [Memory.read, Ne.symm h]
      · simp [Memory.read, ih]

theorem Memory.read_low {m : Memory} {lo a : Nat} (h : a < lo) (w : Memory.okFrom lo m = true) :
    Memory.read m a = Memory.blank := by
  induction m generalizing lo with
  | nil => rfl
  | cons c m ih =>
    obtain ⟨n, x⟩ := c
    simp only [Memory.okFrom, Bool.and_eq_true, decide_eq_true_eq] at w
    have hn : n ≠ a := by omega
    simp only [Memory.read, hn, if_false]
    exact ih (by omega) w.2

theorem Memory.read_erase_same {m : Memory} {lo : Nat} (a : Nat) (w : Memory.okFrom lo m = true) :
    Memory.read (Memory.erase m a) a = Memory.blank := by
  induction m generalizing lo with
  | nil => rfl
  | cons c m ih =>
    obtain ⟨n, x⟩ := c
    simp only [Memory.okFrom, Bool.and_eq_true, decide_eq_true_eq] at w
    simp only [Memory.erase]
    split
    · rename_i h
      exact Memory.read_low (by omega) w.2
    · rename_i h
      simp only [Memory.read, h, if_false]
      exact ih w.2

theorem Memory.read_erase_other (m : Memory) (a b : Nat) (h : b ≠ a) : Memory.read (Memory.erase m a) b = Memory.read m b := by
  induction m with
  | nil => rfl
  | cons c m ih =>
    obtain ⟨n, x⟩ := c
    simp only [Memory.erase]
    split
    · rename_i h2
      subst h2
      simp [Memory.read, Ne.symm h]
    · simp [Memory.read, ih]

/-- A byte reads back what was written to it. -/
theorem Memory.read_write_same (m : Memory) (a : Nat) (v : Byte) (w : Memory.wf m = true) :
    Memory.read (Memory.write m a v) a = v := by
  unfold Memory.write
  split
  · rename_i h
    rw [h]
    exact Memory.read_erase_same a w
  · exact Memory.read_insert_same m a v

/-- A write leaves every other byte as it was. -/
theorem Memory.read_write_other (m : Memory) (a b : Nat) (v : Byte) (h : b ≠ a) :
    Memory.read (Memory.write m a v) b = Memory.read m b := by
  unfold Memory.write
  split
  · exact Memory.read_erase_other m a b h
  · exact Memory.read_insert_other m a b v h

/-- A write of bytes leaves every byte outside them as it was. -/
theorem Memory.read_writeBytes_other (bs : Bytes) (m : Memory) (a b : Nat) (h : b < a ∨ a + bs.length ≤ b) :
    Memory.read (Memory.writeBytes m a bs) b = Memory.read m b := by
  induction bs generalizing m a with
  | nil => rfl
  | cons v bs ih =>
    simp only [List.length_cons] at h
    simp only [Memory.writeBytes]
    rw [ih _ _ (by omega)]
    exact Memory.read_write_other m a b v (by omega)

/-- A write of bytes reads back, byte by byte. -/
theorem Memory.read_writeBytes_same (bs : Bytes) (m : Memory) (a k : Nat) (w : Memory.wf m = true) (h : k < bs.length) :
    Memory.read (Memory.writeBytes m a bs) (a + k) = bs.getD k 0#8 := by
  induction bs generalizing m a k with
  | nil => simp at h
  | cons v bs ih =>
    simp only [Memory.writeBytes]
    cases k with
    | zero =>
      rw [Memory.read_writeBytes_other _ _ _ _ (by omega)]
      simpa using Memory.read_write_same m a v w
    | succ k =>
      simp only [List.length_cons] at h
      have := ih (Memory.write m a v) (a + 1) k (Memory.write_wf m a v w) (by omega)
      rw [show a + (k + 1) = a + 1 + k by omega, this]
      simp

end Sys2Proof.Machine
end

