-- ==== Sys2Proof/Laws/Registers.lean ====
section
/-! SUPPORT. The register map as a whole: what holds of each of its registers, checked block by block. -/

namespace Sys2Proof.Machine

theorem regAt_mem {a : Nat} {r : RegDef} {i j : Nat} (h : regAt a = some (r, i, j)) : r ∈ regsOfBlock a := by
  unfold regAt at h
  obtain ⟨x, hx, hm⟩ := List.exists_of_findSome?_eq_some h
  cases hi : x.inst a with
  | none => simp [hi] at hm
  | some p =>
    simp only [hi, Option.map_some, Option.some.injEq, Prod.mk.injEq] at hm
    exact hm.1 ▸ hx

/-- What holds of the registers of each of the 22 blocks holds of whatever register an address names. -/
theorem regAt_forall (P : RegDef → Bool) (h : (List.range 22).all (fun b => (regsOfBlock (b * 0x10000)).all P) = true)
    {a : Nat} {r : RegDef} {i j : Nat} (e : regAt a = some (r, i, j)) : P r = true := by
  have m := regAt_mem e
  by_cases lt : a / 0x10000 < 22
  · have same : regsOfBlock a = regsOfBlock (a / 0x10000 * 0x10000) := by
      unfold regsOfBlock
      rw [Nat.mul_div_cancel _ (by omega : 0 < 0x10000)]
    have := List.all_eq_true.mp h (a / 0x10000) (List.mem_range.mpr lt)
    rw [same] at m
    exact List.all_eq_true.mp this r m
  · exfalso
    unfold regsOfBlock at m
    split at m <;> first | omega | exact absurd m (List.not_mem_nil)

/-- Whether the pieces of a register lie in rising order and apart. -/
def partsApart : List RegPart → Bool
  | [] => true
  | p :: ps => decide (p.lo + p.len ≤ 32) && ps.all (fun q => decide (p.lo + p.len ≤ q.lo)) && partsApart ps

theorem parts_apart {a : Nat} {r : RegDef} {i j : Nat} (e : regAt a = some (r, i, j)) : partsApart r.parts = true :=
  regAt_forall (fun r => partsApart r.parts) (by decide +kernel) e

/-- A register of read-only pieces has no write operation of its own, entails nothing, and shows no block's status bits. -/
theorem readOnly_plain {a : Nat} {r : RegDef} {i j : Nat} (e : regAt a = some (r, i, j))
    (h : r.parts.all (fun p => p.fld.acc == .ro || p.fld.acc == .rv || p.fld.acc == .rc) = true) :
    ownWrites.lookup r.addr = none ∧ entailed.lookup r.addr = none ∧
      blockSources.all (fun b => b.bits.all (fun f => f.addr != r.addr)) = true := by
  have := regAt_forall (fun r => !r.parts.all (fun p => p.fld.acc == .ro || p.fld.acc == .rv || p.fld.acc == .rc) ||
    ((ownWrites.lookup r.addr).isNone && (entailed.lookup r.addr).isNone &&
      blockSources.all (fun b => b.bits.all (fun f => f.addr != r.addr)))) (by decide +kernel) e
  simp only [h, Bool.not_true, Bool.false_or, Bool.and_eq_true, Option.isNone_iff_eq_none] at this
  exact ⟨this.1.1, this.1.2, this.2⟩

end Sys2Proof.Machine
end

