-- ==== Sys2Proof/WellFormed.lean ====
section
/-! DEFINITION. The commands that can arrive: operands within the widths the chapters give them. `exec` gives every command a
meaning, well-formed or not. -/

namespace Sys2Proof

/-- Whether a number fits `n` bits. -/
def fits (n v : Nat) : Bool := decide (v < 2 ^ n)

/-- A local register address: 21 bits, word-aligned (Table 0.4). -/
def addrOk (a : Nat) : Bool := fits 21 a && a % 4 == 0

/-- A gPTP port: ETH0–ETH11 are 0–11, TL0–TL3 are 16–19 (R17). -/
def portOk (p : Fin 20) : Bool := decide (p.val < 12) || decide (16 ≤ p.val)

/-- A command's parameters: their length is a 16-bit field of the header (Table 16.1). -/
def paramsOk (p : Bytes) : Bool := decide (p.length ≤ 65535)

/-- The header fields of an accepted command within their widths (Table 16.1). -/
def Call.wf (c : Call) : Bool := fits 8 c.flags && fits 16 c.tag && fits 8 c.dst && fits 8 c.src && fits 32 c.seq

/-- The fields of an Announce within their widths (R18). -/
def Announce.wf (a : Announce) : Bool :=
  fits 8 a.priority1 && fits 32 a.clockQuality && fits 8 a.priority2 && fits 64 a.gmIdentity && fits 16 a.stepsRemoved &&
    fits 64 a.senderIdentity && fits 6 a.gmDevice

/-- A frame that can stand on a CAN bus: its format and identifier, and as many data bytes as its format can carry. -/
def CanFrame.wf (f : CanFrame) : Bool :=
  decide (f.fmt < 3) && fits (if f.fmt = 2 || !f.xtd then 11 else 29) f.id && fits 4 f.dlc && fits 8 f.sdt && fits 8 f.vcid &&
    fits 32 f.af && (match f.fmt with
      | 0 => decide (f.data.length ≤ 8)
      | 1 => decide (f.data.length ≤ 64)
      | _ => decide (1 ≤ f.data.length ∧ f.data.length ≤ 2048))

/-- The header fields of a fabric frame within their widths (Table 14.2). -/
def FabFrame.wf (f : FabFrame) : Bool :=
  fits 4 f.typ && fits 3 f.cls && fits 7 f.hops && fits 1 f.keyIx && fits 6 f.src && fits 6 f.dst && fits 5 f.dstPort &&
    fits 5 f.orgPort && fits 12 f.vid && fits 3 f.pcp && fits 16 f.seq && fits 2 f.init && fits 16 f.incarnation

/-- The fields of a hello within their widths (Table 14.6). -/
def Hello.wf (h : Hello) : Bool :=
  decide (h.link < 4) && fits 16 h.compat && fits 96 h.uid && fits 6 h.id && fits 6 h.persisted && fits 6 h.coord &&
    fits 16 h.routeGen && fits 16 h.incarnation

/-- A device record names a neighbour for each of TL0–TL3 (Table 14.6). -/
def DevRecord.wf (r : DevRecord) : Bool := r.hello.wf && r.neighbours.length == 4 && r.neighbours.all (fits 96)

/-- The fields of an RRA request or response within their widths (Table 14.9). -/
def Rra.wf (r : Rra) : Bool := fits 16 r.tag && fits 2 r.init && fits 16 r.incarnation && fits 64 r.data && fits 8 r.be

/-- A frame the selective-wake decoder reads (R427, R428). -/
def SwkFrame.wf (f : SwkFrame) : Bool := fits (if f.xtd then 29 else 11) f.id && fits 4 f.dlc && decide (f.data.length ≤ 8)

/-- Whether a command's operands are ones that can arrive. -/
def Instr.wf (i : Instr) : Bool :=
  match i with
  | .registerWrite _ addr _ => addrOk addr
  | .rcCounterRead _ addr _ => addrOk addr
  | .syncReceived _ port gm _ n => portOk port && fits 64 gm && fits 16 n
  | .stepApplied _ => true
  | .residualWithin1us _ => true
  | .syncLoss _ => true
  | .holdoverLimitExpired _ => true
  | .uncertaintySaturated _ => true
  | .announceReceived _ port a => portOk port && a.wf
  | .announceReceiptTimeout _ port => portOk port
  | .peerDelayMessage _ port m => portOk port && (match m.external with
    | some (some p) => portOk p
    | _ => true)
  | .syncTransmission _ port => portOk port
  | .siSample _ si => si.length == 48
  | .derateRecompute _ => true
  | .plannerLower _ => true
  | .avsReadback _ _ _ _ => true
  | .avsRetry _ _ _ _ => true
  | .temperatureReading _ x => x.length == 16
  | .vreq125Record _ _ => true
  | .hemReplan _ _ _ _ => true
  | .lifeRecordCheckpoint _ _ worn => worn.all (fun p => decide (p < 256))
  | .checkpointPeriod _ => true
  | .lrCtrlCheckpoint _ => true
  | .lrSnapTake _ => true
  | .lrReadPage _ c p => c.wf && paramsOk p
  | .lrCheckpoint _ c p => c.wf && paramsOk p
  | .canCtrlModeWrite _ _ _ => true
  | .modeChangeAtIdle _ _ => true
  | .integrationComplete _ _ => true
  | .canFrameAccepted _ _ rx => rx.frame.wf
  | .rxStoreComplete _ _ => true
  | .protocolException _ _ _ => true
  | .selectionPoint _ _ _ _ _ => true
  | .rebuildComplete _ _ => true
  | .canTransmitComplete _ _ _ _ => true
  | .arbitrationLost _ _ => true
  | .canErrorDetected _ _ _ => true
  | .busoffHoldoffExpired _ _ => true
  | .busoffRecovery _ _ => true
  | .canTxbufReq _ _ _ => true
  | .canTxqPut _ _ _ => true
  | .canTxbufCancel _ _ _ => true
  | .canTxqCancel _ _ _ => true
  | .canSetMode _ c p => c.wf && paramsOk p
  | .canTxEnqueue _ c p => c.wf && paramsOk p
  | .canTxCancel _ c p => c.wf && paramsOk p
  | .canGetState _ c p => c.wf && paramsOk p
  | .canRxfAck _ _ _ _ _ => true
  | .canTxefAck _ _ _ _ => true
  | .canMbNdClear _ _ _ => true
  | .hostTxElementWrite _ _ offset data => decide (offset + data.length ≤ 65536)
  | .canFltWrite _ c p => c.wf && paramsOk p
  | .canFltRead _ c p => c.wf && paramsOk p
  | .cloakIgnoredFrame _ _ => true
  | .signalRecordSend _ d => d != 0
  | .signalRecordReceived _ d _ => d != 0
  | .canCopyReceived _ d _ => d != 0
  | .sgTableWrite _ c p => c.wf && paramsOk p
  | .sgTableRead _ c p => c.wf && paramsOk p
  | .sgCanrtAdd _ c p => c.wf && paramsOk p
  | .sgCanrtDel _ c p => c.wf && paramsOk p
  | .sgCanrtFind _ c p => c.wf && paramsOk p
  | .sgSlotRead _ c p => c.wf && paramsOk p
  | .sgSlotWrite _ c p => c.wf && paramsOk p
  | .sgSlotConfig _ c p => c.wf && paramsOk p
  | .sgNdClr _ _ => true
  | .cycleInstant _ _ _ => true
  | .minIntervalExpired _ _ => true
  | .tokenRefill _ _ => true
  | .sgChrateWrite _ _ _ => true
  | .sgTplTrigger _ c p => c.wf && paramsOk p
  | .sgTplExt _ c p => c.wf && paramsOk p
  | .sgAgeQuery _ c p => c.wf && paramsOk p
  | .acfPduSeal _ _ => true
  | .sgMirrorNWrite _ _ _ => true
  | .ethCfgWrite _ _ _ => true
  | .ethLinkUp _ _ _ => true
  | .ethLinkDown _ _ _ _ => true
  | .ethFrameReceived _ _ rx => decide (rx.start ≤ 18446744073709551615)
  | .outputFrameStart _ _ _ => true
  | .outputFrameEnd _ _ _ => true
  | .gateEntryChange _ _ => true
  | .configChangeTime _ _ => true
  | .recoveryResetTimer _ _ => true
  | .swMirrorNWrite _ _ _ => true
  | .octetCounterLoRead _ addr _ _ => addrOk addr
  | .ethGclWrite _ c p => c.wf && paramsOk p
  | .ethGclRead _ c p => c.wf && paramsOk p
  | .swTableWrite _ c p => c.wf && paramsOk p
  | .swTableRead _ c p => c.wf && paramsOk p
  | .learnEngineOperation _ => true
  | .ageingSweep _ => true
  | .quarantineExpired _ _ => true
  | .ftPortQuarRelease _ _ => true
  | .ftLockWrite _ _ => true
  | .lockHeld _ => true
  | .lockExpired _ _ => true
  | .ftDmaTailWrite _ _ => true
  | .ftDmaCtrlWrite _ _ => true
  | .dmaDescriptorComplete _ d _ => d.length == 32
  | .lpmNodeFree _ => true
  | .ftTableWrite _ c p => c.wf && paramsOk p
  | .ftTableRead _ c p => c.wf && paramsOk p
  | .ftL2Add _ c p => c.wf && paramsOk p
  | .ftL2Del _ c p => c.wf && paramsOk p
  | .ftL2Find _ c p => c.wf && paramsOk p
  | .ftL2Flush _ c p => c.wf && paramsOk p
  | .ftLpmAdd _ c p => c.wf && paramsOk p
  | .ftLpmDel _ c p => c.wf && paramsOk p
  | .ftLpmFind _ c p => c.wf && paramsOk p
  | .frameReady _ _ e => match e with | none => true | some x => decide (x.head.length ≤ 256)
  | .parseDispatch _ _ _ => true
  | .nop _ _ => true
  | .add _ _ _ _ _ => true
  | .sub _ _ _ _ _ => true
  | .and _ _ _ _ _ => true
  | .or _ _ _ _ _ => true
  | .xor _ _ _ _ _ => true
  | .shl _ _ _ _ _ => true
  | .shr _ _ _ _ _ => true
  | .addi _ _ _ _ _ => true
  | .andi _ _ _ _ _ => true
  | .ori _ _ _ _ _ => true
  | .xori _ _ _ _ _ => true
  | .movi _ _ _ _ => true
  | .movhi _ _ _ _ _ => true
  | .shli _ _ _ _ _ => true
  | .shri _ _ _ _ _ => true
  | .ext _ _ _ _ pos len1 => decide (pos.val + len1.val + 1 ≤ 32)
  | .ins _ _ _ _ pos len1 => decide (pos.val + len1.val + 1 ≤ 32)
  | .ldw _ _ _ _ _ _ => true
  | .setc _ _ _ _ => true
  | .advc _ _ _ _ => true
  | .getc _ _ _ => true
  | .ldm _ _ _ _ => true
  | .emit _ _ _ _ => true
  | .emitf _ _ _ _ pos len1 => decide (pos.val + len1.val + 1 ≤ 32)
  | .lkt _ _ _ _ _ => true
  | .beq _ _ _ _ _ => true
  | .bne _ _ _ _ _ => true
  | .bltu _ _ _ _ _ => true
  | .bgeu _ _ _ _ _ => true
  | .beqi _ _ _ _ _ => true
  | .bnei _ _ _ _ _ => true
  | .bbs _ _ _ _ _ => true
  | .bbc _ _ _ _ _ => true
  | .jmp _ _ _ => true
  | .end_ _ _ => true
  | .drop _ _ _ => true
  | .rcirc _ _ _ _ => true
  | .peDbgHalt _ => true
  | .peDbgResume _ => true
  | .peDbgStep _ _ => true
  | .peLoadOpen _ c p => c.wf && paramsOk p
  | .peLoadChunk _ c p => c.wf && paramsOk p
  | .peLoadClose _ c p => c.wf && paramsOk p
  | .peBankSwitch _ c p => c.wf && paramsOk p
  | .bankDrained _ _ => true
  | .classificationDecision _ _ _ => true
  | .clTurnOpen _ c p => c.wf && paramsOk p
  | .clRuleAdd _ c p => c.wf && paramsOk p
  | .clRuleDel _ c p => c.wf && paramsOk p
  | .clTurnCommit _ c p => c.wf && paramsOk p
  | .commitInstant _ => true
  | .drainTimeout _ => true
  | .clTurnAbort _ c p => c.wf && paramsOk p
  | .clRuleRead _ c p => c.wf && paramsOk p
  | .clMissActWrite _ _ _ => true
  | .ternaryScrub _ _ _ => true
  | .ckChWrite _ c p => c.wf && paramsOk p
  | .ckChRead _ c p => c.wf && paramsOk p
  | .ckChResync _ c p => c.wf && paramsOk p
  | .cipherTagVerified _ _ _ _ _ => true
  | .streamingChunkRelease _ _ _ => true
  | .cxKeyLoad _ c p => c.wf && paramsOk p
  | .cxKeyErase _ c p => c.wf && paramsOk p
  | .cxKeyInfo _ c p => c.wf && paramsOk p
  | .cxRequest _ c p => c.wf && paramsOk p
  | .cxVoidReg _ c p => c.wf && paramsOk p
  | .cxVoidUnreg _ c p => c.wf && paramsOk p
  | .cxSecpduWrite _ c p => c.wf && paramsOk p
  | .cxFvRead _ c p => c.wf && paramsOk p
  | .cxFvSet _ c p => c.wf && paramsOk p
  | .cxProfileWrite _ c p => c.wf && paramsOk p
  | .macsecPortCfg _ c p => c.wf && paramsOk p
  | .macsecSaInstall _ c p => c.wf && paramsOk p
  | .macsecSaCtrl _ c p => c.wf && paramsOk p
  | .tlLinkUp _ _ => true
  | .tlLinkDown _ _ _ => true
  | .protectionApplied _ _ => true
  | .destinationUnreachableTimeout _ _ => true
  | .fabricFrameReceived _ _ f _ x => f.wf && fits 64 x.counter && (x.tag.isEmpty || x.tag.length == 16)
  | .helloTimer _ _ => true
  | .helloReceived _ _ h => h.wf
  | .deviceRecordTimer _ => true
  | .deviceRecordReceived _ r => r.wf
  | .deviceRecordExpired _ uid => fits 96 uid
  | .electionSettled _ => true
  | .idAssign _ uid _ _ => fits 96 uid
  | .routeUpdate _ _ _ e u => e.length == 63 && u.length == 63 && e.all (fits 64) && u.all (fits 96)
  | .routeActivate _ _ => true
  | .acknowledge _ d _ _ _ => d != 0
  | .sleeveClose _ _ _ => true
  | .sleeveOpen _ _ => true
  | .linkKeyOffer _ _ n _ _ => n.length == 16
  | .linkRekeyTimer _ _ => true
  | .rraRequest _ d r => d != 0 && r.wf
  | .rraResponse _ d r => d != 0 && r.wf
  | .postedWriteTimeout _ _ _ _ => true
  | .npTimeout _ _ _ _ => true
  | .lockReleaseTimeout _ => true
  | .tfTopoRead _ c p => c.wf && paramsOk p
  | .tfIdRelease _ c p => c.wf && paramsOk p
  | .tfRouteRead _ c p => c.wf && paramsOk p
  | .tfFence _ c p => c.wf && paramsOk p
  | .tfRra _ c p => c.wf && paramsOk p
  | .tfRekey _ c p => c.wf && paramsOk p
  | .hostBridgeReset _ _ => true
  | .pcieLinkUp _ _ _ => true
  | .windowRead _ _ o n => decide (0 < n) && fits 64 (o + n)
  | .windowWrite _ _ o d => decide (0 < d.length) && fits 64 (o + d.length)
  | .atomicOp _ _ _ _ x y => (x.length == 4 || x.length == 8) && decide (y.length ≤ x.length)
  | .deferredResultArrival _ d r => d != 0 && r.wf
  | .heldReadExpired _ _ => true
  | .hbRingTailWrite _ _ _ _ => true
  | .hbRingSizeWrite _ _ _ => true
  | .spiRegisterWrite _ _ _ => true
  | .spiRegisterRead _ _ _ => true
  | .spiStatus _ => true
  | .spiCommandWrite _ _ => true
  | .spiReplyRead _ _ => true
  | .spiCommandStatus _ => true
  | .cmdQpSqTailWrite _ _ _ _ => true
  | .cmdQpCqHeadWrite _ _ _ => true
  | .cmdQpCtrlWrite _ _ _ => true
  | .cmdEvrCfgWrite _ _ _ => true
  | .inbandCommandFrame _ _ f => decide (14 ≤ f.length)
  | .forwardedCommand _ d _ => d != 0
  | .forwardedReply _ d _ => d != 0
  | .forwardTimeout _ d tag => d != 0 && fits 16 tag
  | .sysInfo _ c p => c.wf && paramsOk p
  | .sysEcho _ c p => c.wf && paramsOk p
  | .sysNonce _ c p => c.wf && paramsOk p
  | .sysShutdown _ c p => c.wf && paramsOk p
  | .sysRestart _ c p => c.wf && paramsOk p
  | .sysEventRead _ c p => c.wf && paramsOk p
  | .sysEventPush _ c p => c.wf && paramsOk p
  | .dominantTimeout _ _ _ => true
  | .busWakePattern _ _ => true
  | .swkDecodedFrame _ _ f => f.wf
  | .wakePin _ _ _ => true
  | .pcieWake _ _ => true
  | .ethernetSignalWake _ _ => true
  | .tyethSignalWake _ _ => true
  | .debugTckWake _ => true
  | .nmTimeout _ _ _ => true
  | .nmPeriod _ _ => true
  | .wakeHoldExpired _ _ => true
  | .sleepCommit _ _ => true
  | .keepAwakeOffender _ _ => true
  | .pwrGrpRequest _ c p => c.wf && paramsOk p
  | .pwrGrpState _ c p => c.wf && paramsOk p
  | .pwrNodesRead _ c p => c.wf && paramsOk p
  | .pwrSchedWrite _ c p => c.wf && paramsOk p
  | .pwrSchedRead _ c p => c.wf && paramsOk p
  | .idleEntry _ => true
  | .lowPowerChoice _ => true
  | .switchOff _ => true
  | .scheduleWake _ _ => true
  | .scheduleHoldEnd _ _ => true
  | .returnToRun _ inputs => inputs.sample.length == 48
  | .deviceStart _ inputs => inputs.sample.isEmpty || inputs.sample.length == 48
  | .startStepTimeout _ => true
  | .startRetry _ inputs => inputs.sample.isEmpty || inputs.sample.length == 48
  | .slotEraseComplete _ _ o => fits 32 o
  | .updOpen _ c p => c.wf && paramsOk p
  | .updWrite _ c p => c.wf && paramsOk p
  | .updClose _ c p => c.wf && paramsOk p
  | .updPrepare _ c p => c.wf && paramsOk p
  | .updActivate _ c p => c.wf && paramsOk p
  | .updAbort _ c p => c.wf && paramsOk p
  | .updConfirm _ c p => c.wf && paramsOk p
  | .updRevert _ c p => c.wf && paramsOk p
  | .updStatus _ c p => c.wf && paramsOk p
  | .updFabBegin _ c p => c.wf && paramsOk p
  | .updFabMsg _ c p => c.wf && paramsOk p
  | .fabCommitTimeout _ => true
  | .fabQueryTimer _ => true
  | .commitAtRestart _ => true
  | .btAltClear _ c p => c.wf && paramsOk p
  | .btAltWrite _ _ => true
  | .settingsSave _ c p => c.wf && paramsOk p
  | .settingsInfo _ c p => c.wf && paramsOk p
  | .extest _ _ _ => true
  | .samplePreload _ _ _ => true
  | .idcode _ => true
  | .dbgAccess _ _ => true
  | .dbgLevel _ _ => true
  | .unlockChal _ => true
  | .unlockResp _ r => r.length == 112
  | .bypass _ _ _ => true
  | .tapReset _ => true
  | .debugSessionExpired _ => true
  | .cpdbgHalt _ _ => true
  | .cpdbgResume _ _ => true
  | .cpdbgStep _ _ => true
  | .cpdbgMdataAccess _ _ _ => true
  | .alarm _ _ _ => true
  | .alarmReset _ => true
  | .lcInfo _ c p => c.wf && paramsOk p
  | .lcAdvance _ c p => c.wf && paramsOk p
  | .lcReturn _ c p => c.wf && paramsOk p
  | .lcScrap _ c p => c.wf && paramsOk p
  | .lcRelock _ c p => c.wf && paramsOk p
  | .lcVkeyWrite _ c p => c.wf && paramsOk p
  | .lcVkeyRevoke _ c p => c.wf && paramsOk p
  | .lcTamperClear _ c p => c.wf && paramsOk p
  | .supplyMonitorCrossing _ _ _ => true
  | .wakeDieReset _ _ => true
  | .resetN _ _ => true
  | .readDeferred _ _ => true
  | .cipherRequestCompleted _ _ _ _ => true

end Sys2Proof
end

