-- ==== Sys2Proof/Tests/Slice0.lean ====
section
/-! SUPPORT. The model's own tests: ill-formed commands refused by well-formedness, states and operands that meet the hypotheses of
the statements, and single commands on small states whose results the chapters give. -/

namespace Sys2Proof.Tests

open Sys2Proof Sys2Proof.Machine

/-- A command packet on queue pair 0. -/
def call : Call := ⟨.queue 0 0 4096 0 0, 0, 1, 0, 1, 0⟩

/-- A CAN frame with 11-bit identifier and two data bytes. -/
def ccFrame : CanFrame := ⟨0, 0x123, false, false, false, false, 2, false, 0, 0, 0, [0x11#8, 0x22#8]⟩

/-- A device record's hello. -/
def hello : Hello := ⟨0, true, true, false, 0x100, 5, 0, 0, 5, 0, 0⟩

/-- An RRA read. -/
def rra : Rra := ⟨1, 0, 0, 1, 2, 0, 0, 0, 0⟩

/-- A data frame from device 1 to device 2. -/
def fabFrame : FabFrame := ⟨0, 0, false, 0, 0, 1, 2, false, false, 0, 0, 1, 0, false, 0, 0, 0, []⟩

/-! ### Well-formed commands: one ill-formed term for each check -/

theorem test_wf_address : (Instr.registerWrite 0 0x10002 0#32).wf = false ∧ (Instr.rcCounterRead 0 0x200000 false).wf = false ∧
    (Instr.registerWrite 0 0x1FFFFC 0#32).wf = true := by decide

theorem test_wf_port : (Instr.syncTransmission 0 12).wf = false ∧ (Instr.syncTransmission 0 15).wf = false ∧
    (Instr.syncTransmission 0 11).wf = true ∧ (Instr.syncTransmission 0 16).wf = true := by decide

theorem test_wf_announce : (Instr.announceReceived 0 0 ⟨256, 0, 0, 0, 0, 0, 0⟩).wf = false ∧
    (Instr.announceReceived 0 0 ⟨0, 2 ^ 32, 0, 0, 0, 0, 0⟩).wf = false ∧ (Instr.announceReceived 0 0 ⟨0, 0, 0, 0, 0, 0, 64⟩).wf = false ∧
    (Instr.syncReceived 0 0 (2 ^ 64) 0 0).wf = false ∧ (Instr.announceReceived 0 0 ⟨0, 0, 0, 0, 0, 0, 63⟩).wf = true := by decide

theorem test_wf_call : (Instr.sysInfo 0 { call with flags := 256 } []).wf = false ∧
    (Instr.sysInfo 0 { call with tag := 65536 } []).wf = false ∧ (Instr.sysInfo 0 { call with dst := 256 } []).wf = false ∧
    (Instr.sysInfo 0 { call with src := 256 } []).wf = false ∧ (Instr.sysInfo 0 { call with seq := 2 ^ 32 } []).wf = false ∧
    (Instr.sysInfo 0 call []).wf = true := by decide

theorem test_wf_params (p : Bytes) (h : p.length = 65536) : (Instr.sysEcho 0 call p).wf = false := by
  simp [Instr.wf, paramsOk, h]

theorem test_wf_lengths : (Instr.siSample 0 (List.replicate 47 0#16)).wf = false ∧ (Instr.temperatureReading 0 [0]).wf = false ∧
    (Instr.dmaDescriptorComplete 0 (zeros 31) []).wf = false ∧
    (Instr.unlockResp 0 (zeros 111)).wf = false ∧
    (Instr.linkKeyOffer 0 0 (zeros 15) 0 false).wf = false ∧
    (Instr.hostTxElementWrite 0 0 65535 (zeros 2)).wf = false ∧ (Instr.windowWrite 0 0 0 []).wf = false ∧
    (Instr.windowRead ⟨0, []⟩ 0 0 0).wf = false ∧ (Instr.windowRead ⟨0, []⟩ 0 (2 ^ 64 - 1) 1).wf = false ∧
    (Instr.inbandCommandFrame 0 0 (zeros 13)).wf = false ∧
    (Instr.atomicOp 0 none 0 0 (zeros 3) []).wf = false ∧
    (Instr.atomicOp 0 none 0 2 (zeros 4) (zeros 8)).wf = false ∧
    (Instr.routeUpdate 0 1 0 (List.replicate 64 0) (List.replicate 63 0)).wf = false ∧
    (Instr.routeUpdate 0 1 0 (List.replicate 63 0) []).wf = false ∧ (Instr.slotEraseComplete 0 0 (2 ^ 32)).wf = false := by decide

theorem test_wf_early_frame (h : Bytes) (l : h.length = 257) : (Instr.frameReady 0 0 (some ⟨h, 300, 0⟩)).wf = false := by
  simp [Instr.wf, l]

theorem test_wf_reception (x : EthRx) (l : x.start = 2 ^ 64) : (Instr.ethFrameReceived 0 0 x).wf = false := by
  simp [Instr.wf, l]

theorem test_wf_can_frame : (Instr.canFrameAccepted 0 0 ⟨{ ccFrame with data := zeros 9 }, 0, false, [], []⟩).wf = false ∧
    (Instr.canFrameAccepted 0 0 ⟨{ ccFrame with id := 0x800 }, 0, false, [], []⟩).wf = false ∧
    (Instr.canFrameAccepted 0 0 ⟨{ ccFrame with fmt := 3 }, 0, false, [], []⟩).wf = false ∧
    (Instr.canFrameAccepted 0 0 ⟨{ ccFrame with fmt := 1, data := zeros 65 }, 0, false, [], []⟩).wf = false ∧
    (Instr.canFrameAccepted 0 0 ⟨{ ccFrame with fmt := 2, data := [] }, 0, false, [], []⟩).wf = false ∧
    (Instr.canFrameAccepted 0 0 ⟨ccFrame, 0, false, [], []⟩).wf = true := by decide

theorem test_wf_swk_frame : (Instr.swkDecodedFrame 0 0 ⟨false, false, false, false, 0x800, 0, []⟩).wf = false ∧
    (Instr.swkDecodedFrame 0 0 ⟨false, false, false, true, 0x800, 16, []⟩).wf = false ∧
    (Instr.swkDecodedFrame 0 0 ⟨false, false, false, true, 0x800, 8, zeros 9⟩).wf = false := by decide

theorem test_wf_fabric : (Instr.fabricFrameReceived 0 0 { fabFrame with hops := 128 } true ⟨0, []⟩).wf = false ∧
    (Instr.fabricFrameReceived 0 0 { fabFrame with vid := 4096 } true ⟨0, []⟩).wf = false ∧
    (Instr.fabricFrameReceived 0 0 fabFrame true ⟨2 ^ 64, []⟩).wf = false ∧
    (Instr.fabricFrameReceived 0 0 fabFrame true ⟨0, zeros 15⟩).wf = false ∧
    (Instr.fabricFrameReceived 0 0 fabFrame true ⟨0, zeros 16⟩).wf = true ∧
    (Instr.helloReceived 0 0 { hello with link := 4 }).wf = false ∧
    (Instr.deviceRecordReceived 0 ⟨hello, [0, 0, 0]⟩).wf = false ∧ (Instr.deviceRecordReceived 0 ⟨hello, [0, 0, 0, 2 ^ 96]⟩).wf = false ∧
    (Instr.deviceRecordExpired 0 (2 ^ 96)).wf = false ∧ (Instr.rraRequest 0 0 rra).wf = false ∧
    (Instr.rraRequest 0 1 { rra with init := 4 }).wf = false ∧ (Instr.rraRequest 0 1 rra).wf = true ∧
    (Instr.forwardTimeout 0 1 65536).wf = false := by decide

theorem test_wf_engine_fields : (Instr.ext 0 0 1 1 31 1).wf = false ∧ (Instr.ext 0 0 1 1 31 0).wf = true ∧
    (Instr.ins 0 0 1 1 1 31).wf = false ∧ (Instr.emitf 0 0 1 0 1 31).wf = false := by decide

/-! ### States and operands that meet the hypotheses of the statements -/

/-- The part with its core die held in reset by RESET_N. -/
def heldInReset : State := { State.reset with bt := { BtState.reset with holds := 8 } }

/-- The part in RECOVERY. -/
def inRecovery : State := { State.reset with bt := { BtState.reset with record := { StartRecord.reset with recovery := true } } }

/-- The part with the SP halted at the debug port. -/
def spHalted : State := { State.reset with lc := { LcState.reset with cps := [(2, ⟨true, 1, 0, 0, 0, [], []⟩)] } }

/-- An engine with a running pass. -/
def engine : Engine := { Engine.reset with frame := some 0, g := [0, 5, 7, 0xFFFFFFFF, 0, 0, 0, 0, 0, 0, 0, 0, 0, 0, 0, 0] }

/-- The part with engine 0 in a pass. -/
def inPass : State := { State.reset with pe := { PeState.reset with engines := [(0, engine)] } }

/-- A rule of a priority and an ID that matches every key. -/
def anyRule (prio id : Nat) : Bytes := leBytes 2 id ++ leBytes 2 prio ++ zeros 4 ++ zeros 80 ++ leBytes 8 1 ++ zeros 16

/-- The state after a command. -/
def after (i : Instr) (s : State) : State :=
  match exec i s with
  | .next u => u
  | _ => s

/-- The replies put out, as opcode, status and payload. -/
def replies (s : State) : List (Nat × Nat × Bytes) :=
  s.out.filterMap (fun o => match o with | .reply op _ st d => some (op, st, d) | _ => none)

theorem executes_reset (op : Nat) (c : Call) (t : Nat) : Executes op c (tick t State.reset) :=
  ⟨rfl, rfl, rfl, by simp [halted, tick, State.reset, LcState.reset]⟩

theorem witness_StepTakesFront : ∃ (c : Instr) (rest : List Instr) (s : State), s.pending = c :: rest :=
  ⟨.idcode 0, [], { State.reset with pending := [.idcode 0] }, rfl⟩

theorem witness_EmptyQueueIdles : (State.reset.pending = [] ∧ State.reset.cmd.held = [] ∧ State.reset.cmd.subs = []) ∧
    (∃ s : State, s.pending = [] ∧ s.cmd.held ≠ []) ∧ (∃ s : State, s.pending = [] ∧ s.cmd.subs ≠ []) :=
  ⟨⟨rfl, rfl, rfl⟩, ⟨{ State.reset with cmd := { CmdState.reset with held := [⟨.spi, [], false⟩] } }, rfl, by simp⟩,
    ⟨{ State.reset with cmd := { CmdState.reset with subs := [(0, [⟨[], []⟩])] } }, rfl, by simp⟩⟩

theorem witness_StepKeepsSettled : Settled State.reset ∧ step State.reset = .next State.reset := ⟨by unfold Settled; decide, rfl⟩

theorem witness_CoreOffNothingHappens : coreOn heldInReset = false ∧ needsOf (.syncLoss 0) = .coreDie ∧
    needsOf (.ageingSweep 0) = .forwarding ∧ needsOf (.sysInfo 0 call []) = .command ∧ loopOn heldInReset = false ∧
    needsOf (.derateRecompute 0) = .loop ∧ diePowered heldInReset = false ∧ needsOf (.cycleInstant 0 0 []) = .doze := by decide

theorem witness_RecoveryStopsForwarding : needsOf (.ageingSweep 0) = .forwarding ∧ needsOf (.cycleInstant 0 0 []) = .doze ∧ inRecovery.bt.record.recovery = true := by decide

theorem witness_RecoveryDeniesCommands : coreOn inRecovery = true ∧ inRecovery.bt.record.recovery = true ∧
    commandOf (.sgTableRead 0 call []) = some (0, 0x3002, call, []) ∧ recoveryVia call.via = true ∧ 0x3002 ∉ recoveryOps ∧
    recoveryVia (.queue 1 0 0 0 0) = false ∧ recoveryVia .spi = true ∧ recoveryVia (.fabric 1) = false := by decide

theorem witness_HaltedProcessorHolds : coreOn spHalted = true ∧ spHalted.bt.record.recovery = false ∧
    commandOf (.cxKeyLoad 0 call []) = some (0, 0x4001, call, []) ∧ (needsSp 0x4001 call && halted spHalted 2) = true := by decide

theorem witness_CommandsAnswered : commandOf (.sysEcho 0 call []) = some (0, 2, call, []) ∧ 2 ∉ ownReplies ∧
    gatewayErrorsOf (.sgSlotWrite ⟨0, []⟩ call []) = [] ∧ Executes 2 call (tick 0 State.reset) := ⟨rfl, by decide, rfl, executes_reset ..⟩

theorem witness_QueriesOnlyAnswer : commandOf (.sysEcho 0 call []) = some (0, 2, call, []) ∧ 2 ∈ queries ∧
    gatewayOps.contains 2 = false ∧ 0x3020 ∈ queries ∧ gatewayOps.contains 0x3020 = true ∧
    gatewayErrorsOf (.sgSlotRead ⟨0, []⟩ call []) = [] ∧ Executes 2 call (tick 0 State.reset) :=
  ⟨rfl, by decide, by decide, by decide, by decide, rfl, executes_reset ..⟩

theorem witness_NoParametersWanted : commandOf (.sysInfo 0 call [0#8]) = some (0, 1, call, [0#8]) ∧ 1 ∈ parameterless ∧
    Executes 1 call (tick 0 State.reset) ∧ [0#8] ≠ ([] : Bytes) := ⟨rfl, by decide, executes_reset .., by simp⟩

/-- At reset nothing has happened on the channels. -/
theorem arrive_reset : arrive 0 State.reset = tick 0 State.reset := rfl

/-- Reserved bit 5 of DT_CTRL, and a reserved offset of the DT block. -/
theorem witness_ReservedReadsZero : areaWord State.reset 0x10010 = none ∧ shadowWord State.reset 0x10010 = none ∧
    (∃ x, regAt 0x10010 = some x ∧ ∀ p ∈ x.1.parts, ¬(p.lo ≤ 5 ∧ 5 < p.lo + p.len)) ∧ coreOn State.reset = true ∧
    (arrive 0 State.reset).tf.lock = none ∧ regAt 0x10FFC = none ∧ areaWord State.reset 0x10FFC = none ∧
    shadowWord State.reset 0x10FFC = none := by decide

theorem witness_ClearOnRead : areaWord State.reset 0x40104 = none ∧ shadowWord State.reset 0x40104 = none ∧
    octetCounter 0x40104 = none ∧ (regAt 0x40104).map (fun x => x.1.parts) = some [⟨0, 32, Reg.CAN_STAT_RXOK.value, 0⟩] ∧
    Reg.CAN_STAT_RXOK.value.acc = .rc ∧ Reg.CAN_STAT_RXOK.value.len = 32 ∧ keptAsRegister Reg.CAN_STAT_RXOK.value = true := by decide

theorem witness_ReadOnlyIgnoresWrites : ∃ x, regAt 0x10014 = some x ∧
    ∀ p ∈ x.1.parts, p.fld.acc = .ro ∨ p.fld.acc = .rv ∨ p.fld.acc = .rc := by decide

theorem witness_PeRegisterResults : operating inPass = true ∧ PeReady inPass (0 : Fin 24) 1 ∧
    peResult (.add 0 0 4 1 2) (engineAt inPass (0 : Fin 24)) = some ((0 : Fin 24), (0 : Fin 5), (4 : Fin 16), 12#32) ∧
    peResult (.shl 0 0 0 1 3) (engineAt inPass 0) = some (0, 0, 0, 0x80000000#32) ∧
    (engineAt inPass (0 : Fin 24)).g.length = 16 :=
  ⟨by decide, ⟨by decide, by decide, by decide, by decide, by decide⟩, by decide, by decide, by decide⟩

/-- The budget is met exactly: one slot short of it, only an instruction of one slot continues. -/
theorem witness_PeReady_boundary : ∃ s : State, PeReady s 0 1 ∧ ¬PeReady s 0 2 := by
  refine ⟨{ State.reset with pe := { PeState.reset with engines := [(0, { engine with slots := 127 })] } },
    ⟨by decide, by decide, by decide, by decide, by decide⟩, fun h => ?_⟩
  have b := h.budget
  revert b
  decide

theorem witness_PeBranches : PeReady inPass (0 : Fin 24) 2 ∧
    peBranch (.bltu 0 0 1 3 9) (engineAt inPass 0) = some (0, 0, true, 9) ∧
    peBranch (.beq 0 0 1 2 9) (engineAt inPass 0) = some (0, 0, false, 9) :=
  ⟨⟨by decide, by decide, by decide, by decide, by decide⟩, by decide, by decide⟩

/-- The window ends at its last byte: the byte after it reads as 0. -/
theorem witness_PeWindow : operating inPass = true ∧ PeReady inPass (0 : Fin 24) 1 ∧ engine.window.length ≤ 0 % 2 ^ 32 ∧
    ({ engine with window := [7#8] }).byteAt 0 = 7 ∧ ({ engine with window := [7#8] }).byteAt 1 = 0 :=
  ⟨by decide, ⟨by decide, by decide, by decide, by decide, by decide⟩, by decide, by decide, by decide⟩

theorem witness_RuleThatDecides : rdB State.reset Reg.CL_CTRL.en = false ∧
    (∃ s : State, rdB s Reg.CL_CTRL.en = true ∧ ∀ x ∈ s.cl.entries, ¬Contends s 0 0 x.2) ∧
    (∃ s : State, rdB s Reg.CL_CTRL.en = true ∧ ∃ x ∈ s.cl.entries, Contends s 0 0 x.2) := by
  refine ⟨by decide, ⟨wr State.reset Reg.CL_CTRL.en 1, by decide, by intro x h; cases h⟩,
    ⟨{ wr State.reset Reg.CL_CTRL.en 1 with cl := { ClState.reset with entries := [(0, ⟨anyRule 1 1, 0, true, none, false⟩)] } },
      by decide, _, List.mem_singleton.2 rfl, by decide, rfl, fun k h => ?_⟩⟩
  have z : Rule.care (anyRule 1 1) = 0 := by decide
  simp [z, bitSet] at h

theorem witness_AgeingSweep : operating State.reset = true ∧
    (∃ s : State, operating s = true ∧ Tab.risesFrom none s.ft.l2 = true ∧ ∃ i e, Tab.find s.ft.l2 i = some e ∧ L2.valid e = true) ∧
    Tab.find State.reset.ft.l2 0 = none :=
  ⟨by decide, ⟨{ State.reset with ft := { FtState.reset with l2 := [(3, 2 ^ 192 - 1)] } }, by decide, by decide, 3, _, rfl,
    by decide⟩, rfl⟩

theorem witness_operating : operating State.reset = true ∧ coreOn State.reset = true ∧ State.reset.ft.learnQ = [] ∧
    State.reset.wk.entry = none ∧ tapOn (arrive 0 State.reset) = true ∧ wakesDevice (arrive 0 State.reset) 3 = false ∧
    loopOn State.reset = true ∧ cycling State.reset = true ∧ diePowered State.reset = true ∧ State.reset.bt.hung = none := by decide

theorem witness_CanMemoryWrites : operating State.reset = true ∧ State.reset.mem.wf = true ∧
    ¬((zeros 3).length ∈ [1, 2, 4, 8] ∧ 0 % (zeros 3).length = 0) ∧ ¬((zeros 2).length ∈ [1, 2, 4, 8] ∧ 1 % (zeros 2).length = 0) ∧
    65528 + (zeros 8).length ≤ 65536 ∧
    (∀ r ∈ (partOf (arrive 0 State.reset) 0).regions, ∀ k, k < (zeros 8).length → inRegion r (65528 + k) = false) ∧
    (∃ s : State, operating s = true ∧ ∀ k, k < (zeros 1).length →
      inRegion ((partOf (arrive 0 s) 0).txAt 0, (partOf (arrive 0 s) 0).txCount * (32 + dataSize (partOf (arrive 0 s) 0).txSize))
        (0 + k) = false ∧ ∃ r ∈ (partOf (arrive 0 s) 0).regions, inRegion r (0 + k) = true) :=
  ⟨by decide, by decide, by decide, by decide, by decide, by decide,
    modCan State.reset 0 (fun c => { c with part := { partOf State.reset 0 with fltCap := 1, txStart := 100 } }), by decide,
    by decide⟩

theorem witness_InitAtOnce : ∃ s : State, operating s = true ∧ canMode (arrive 0 s) 0 ≠ 0 :=
  ⟨wr State.reset Reg.CAN_STATUS.mode_eff 1, by decide, by decide⟩

/-- The last element of the fill is released; one beyond it is not, nor one whose use count differs. -/
theorem witness_FifoAcknowledge : ringAck 2 3 4 0 9 9 = some (0, 1) ∧ ringAck 2 3 4 1 9 9 = none ∧ ringAck 2 3 4 0 9 8 = none ∧
    ringAck 2 3 4 4 9 9 = none ∧ ringAck 0 0 0 0 0 0 = none := by decide

theorem witness_KeyErase : Executes 0x4002 call (tick 0 State.reset) ∧ (keySlot State.reset 8).prev = none ∧
    (keySlot State.reset 511).prev = none := ⟨executes_reset .., rfl, rfl⟩

theorem witness_QueuePairEnable : coreOn State.reset = true ∧ rdB State.reset Reg.CMD_QP_CTRL.en 3 = false ∧
    State.reset.cmd.held = [] ∧ State.reset.cmd.subs = [] ∧ (1#32).toNat % 2 = 1 := by decide

theorem witness_EventBufferLatest : State.reset.ev.buffer.length < 256 ∧
    ∃ s : State, s.ev.buffer.length = 256 :=
  ⟨by decide, { State.reset with ev := { EvState.reset with buffer := List.replicate 256 (eventOf State.reset 0 0 0 []) } }, List.length_replicate⟩

theorem witness_OncePerSecond : Tab.find State.reset.ev.limits (limitKey 1 2 3) = none ∧
    (∃ s : State, Tab.find s.ev.limits (limitKey 1 2 3) = some (0, 4) ∧ 0 + 1000000000 ≤ s.now) ∧
    (∃ s : State, Tab.find s.ev.limits (limitKey 1 2 3) = some (0, 4) ∧ s.now < 0 + 1000000000) :=
  ⟨rfl, ⟨{ State.reset with now := 1000000000, ev := { EvState.reset with limits := [(limitKey 1 2 3, (0, 4))] } }, rfl, by decide⟩,
    ⟨{ State.reset with now := 999999999, ev := { EvState.reset with limits := [(limitKey 1 2 3, (0, 4))] } }, rfl, by decide⟩⟩

theorem witness_HoldoverExpires : ∃ s : State, coreOn s = true ∧ rd s Reg.DT_STATUS.state = 3 ∧
    s.dt.lastSync + rd s Reg.DT_HOLDOVER_LIMIT.ms * ms ≤ max s.now 600000000000 ∧
    max s.now 599999999999 < s.dt.lastSync + rd s Reg.DT_HOLDOVER_LIMIT.ms * ms :=
  ⟨wr State.reset Reg.DT_STATUS.state 3, by decide, by decide, by decide, by decide⟩

theorem witness_AgeInPips : 6553499999 / 100000 < 0xFFFF ∧ 0xFFFF ≤ 6553500000 / 100000 := by decide

theorem witness_SpiDiscard : ∃ s : State, wakesDevice (arrive 0 s) 3 = false ∧ coreOn s = true ∧ tapOn s = true ∧
    rdB s Reg.CMD_CTRL.spi_en = true ∧ s.cmd.spiBusy = false ∧ s.cmd.spiReply.isSome = false ∧ (zeros 19).length < 20 :=
  ⟨wr State.reset Reg.CMD_CTRL.spi_en 1, by decide, by decide, by decide, by decide, by decide, by decide, by decide⟩

theorem witness_SpiDiscard_busy : ∃ s : State, coreOn s = true ∧ rdB s Reg.CMD_CTRL.spi_en = true ∧ s.cmd.spiBusy = true ∧
    s.cmd.spiReply.isSome = true :=
  ⟨{ wr State.reset Reg.CMD_CTRL.spi_en 1 with cmd := { CmdState.reset with spiBusy := true, spiReply := some [] } }, by decide,
    by decide, by decide, by decide⟩

theorem witness_DominantTimeout : xcvrOf (arrive 0 State.reset) 0 ≠ 0 ∧
    ∃ s : State, xcvrOf (arrive 0 s) 0 = 0 ∧ rd (arrive 0 s) Reg.WK_CH_STATUS.dom_to 0 = 0 :=
  ⟨by decide, wr State.reset Reg.CAN_STATUS.mode_eff 1, by decide, by decide⟩

theorem witness_OnlyCoordinatorReleases : Executes 0x5002 call (tick 0 State.reset) ∧ (zeros 16).length = 16 ∧
    rdB State.reset Reg.TF_STATUS.coordinator = false :=
  ⟨executes_reset .., by decide, by decide⟩

/-! ### Single commands, with the results the chapters give -/

/-- R5, Table 1.3: DT_CTRL.sync_en is bit 0; the reserved bits 5 to 7 read as 0 whatever is written. -/
theorem test_register_write_reserved : readWord (after (.registerWrite 0 0x10010 0x000000F1#32) State.reset) 0x10010 = 0x11 := by
  decide

/-- R23: HOLDOVER ends in FREE_EXPIRED at DT_HOLDOVER_LIMIT, not 1 ns before it. -/
theorem test_holdover_limit :
    rd (after (.holdoverLimitExpired 600000000000) (wr State.reset Reg.DT_STATUS.state 3)) Reg.DT_STATUS.state = 4 ∧
    rd (after (.holdoverLimitExpired 599999999999) (wr State.reset Reg.DT_STATUS.state 3)) Reg.DT_STATUS.state = 3 := by decide

/-- R266: ADD wraps at 32 bits. -/
theorem test_add_wraps : (engineAt (after (.add 0 0 4 3 2) inPass) 0).gr 4 = 6 := by decide

/-- R266: SUB below 0 wraps; a write to g0 is ignored. -/
theorem test_sub_g0 : (engineAt (after (.sub 0 0 4 1 2) inPass) 0).gr 4 = 0xFFFFFFFE ∧
    (engineAt (after (.sub 0 0 0 1 2) inPass) 0).gr 0 = 0 := by decide

end Sys2Proof.Tests
end

/-! SUPPORT. The register space as BAR0 reaches it (R4, R5, R381): where registers can stand, the word a register shows, and what a
4-byte access with the register bus unlocked comes to. -/

namespace Sys2Proof.Machine

/-! ### Where registers stand -/

/-- The copy of a register at an address, as `RegDef.inst` numbers it, stands at its two strides from the first copy. -/
theorem RegDef.inst_addr {r : RegDef} {a i j : Nat} (h : r.inst a = some (i, j)) :
    i < r.n1 ∧ j < r.n2 ∧ a = r.addr + r.s1 * i + r.s2 * j := by
  unfold RegDef.inst at h
  by_cases below : a < r.addr
  · simp [below] at h
  by_cases order : r.s2 ≤ r.s1
  · have outer := Nat.div_add_mod (a - r.addr) r.s1
    have inner := Nat.div_add_mod ((a - r.addr) % r.s1) r.s2
    obtain ⟨⟨hi, hj, rest⟩, rfl, rfl⟩ := by simpa [below, order] using h
    exact ⟨hi, hj, by omega⟩
  · have outer := Nat.div_add_mod (a - r.addr) r.s2
    have inner := Nat.div_add_mod ((a - r.addr) % r.s2) r.s1
    obtain ⟨⟨hi, hj, rest⟩, rfl, rfl⟩ := by simpa [below, order] using h
    exact ⟨hi, hj, by omega⟩

theorem regAt_inst {a : Nat} {r : RegDef} {i j : Nat} (h : regAt a = some (r, i, j)) : r.inst a = some (i, j) := by
  unfold regAt at h
  obtain ⟨x, -, hx⟩ := List.exists_of_findSome?_eq_some h
  obtain ⟨p, hp, e⟩ := Option.map_eq_some_iff.mp hx
  cases e
  exact hp

/-- No register stands in the MSI-X table. -/
theorem regAt_not_msix {a : Nat} {r : RegDef} {i j : Nat} (h : regAt a = some (r, i, j)) : ¬(0x118000 ≤ a ∧ a < 0x118400) := by
  have apart := regAt_forall (fun r => decide (0x118400 ≤ r.addr) ||
    decide (r.addr + r.s1 * (r.n1 - 1) + r.s2 * (r.n2 - 1) < 0x118000)) (by decide +kernel) h
  obtain ⟨hi, hj, rfl⟩ := RegDef.inst_addr (regAt_inst h)
  have si : r.s1 * i ≤ r.s1 * (r.n1 - 1) := Nat.mul_le_mul_left _ (by omega)
  have sj : r.s2 * j ≤ r.s2 * (r.n2 - 1) := Nat.mul_le_mul_left _ (by omega)
  simp only [Bool.or_eq_true, decide_eq_true_eq] at apart
  omega

/-- A 64-bit counter's LO half is a register of the map. -/
theorem octetCounter_none_of_reserved {a : Nat} (h : regAt a = none) : octetCounter a = none := by
  have slots : regAt 0xB0230 ≠ none := by decide +kernel
  have octets : ∀ p : Fin 12, regAt (0x80100 + 0x1000 * p.val) ≠ none ∧ regAt (0x80108 + 0x1000 * p.val) ≠ none := by
    decide +kernel
  unfold octetCounter
  split
  · rename_i e
    exact absurd (e ▸ h) slots
  · split
    · rename_i port
      obtain ⟨rx, tx⟩ := octets ⟨(a - 0x80000) / 0x1000, by omega⟩
      dsimp only at rx tx
      split
      · rw [show 0x80100 + 0x1000 * ((a - 0x80000) / 0x1000) = a by omega] at rx
        exact absurd h rx
      · split
        · rw [show 0x80108 + 0x1000 * ((a - 0x80000) / 0x1000) = a by omega] at tx
          exact absurd h tx
        · rfl
    · rfl

/-- Where no latched high half is shown, no 64-bit counter's LO half stands before. -/
theorem octetCounter_before_none {s : State} {a : Nat} (shadow : shadowWord s a = none) : octetCounter (a - 4) = none := by
  by_cases low : 4 ≤ a
  · simpa [shadowWord, low] using shadow
  · rw [show a - 4 = 0 by omega]
    rfl

/-! ### The word a register shows -/

theorem bitSet_eq_testBit (v k : Nat) : bitSet v k = v.testBit k := by
  rw [Nat.testBit_eq_decide_div_mod_eq, bitSet]
  rfl

/-- Pieces that lie from bit `n` up add up to a multiple of `2 ^ n`. -/
theorem two_pow_dvd_pieces {n : Nat} {ps : List RegPart} (v : RegPart → Nat) (h : ∀ q ∈ ps, n ≤ q.lo) :
    2 ^ n ∣ (ps.map (fun p => v p % 2 ^ p.len * 2 ^ p.lo)).sum := by
  induction ps with
  | nil => exact Nat.dvd_zero _
  | cons q ps ih =>
    have here : 2 ^ n ∣ v q % 2 ^ q.len * 2 ^ q.lo :=
      Nat.dvd_trans (Nat.pow_dvd_pow 2 (h q (List.mem_cons_self ..))) (Nat.dvd_mul_left ..)
    rw [List.map_cons, List.sum_cons]
    exact Nat.dvd_add here (ih fun p hp => h p (List.mem_cons_of_mem _ hp))

/-- A bit in none of the pieces of a word, which lie apart, is 0. -/
theorem testBit_pieces_outside {ps : List RegPart} {k : Nat} (v : RegPart → Nat) (apart : partsApart ps = true)
    (outside : ∀ p ∈ ps, ¬(p.lo ≤ k ∧ k < p.lo + p.len)) :
    (ps.map (fun p => v p % 2 ^ p.len * 2 ^ p.lo)).sum.testBit k = false := by
  induction ps with
  | nil => simp
  | cons p ps ih =>
    simp only [partsApart, Bool.and_eq_true, decide_eq_true_eq, List.all_eq_true] at apart
    obtain ⟨⟨-, above⟩, apart⟩ := apart
    have rest := ih apart (fun q hq => outside q (List.mem_cons_of_mem _ hq))
    obtain ⟨m, hm⟩ := two_pow_dvd_pieces v above
    have here : v p % 2 ^ p.len * 2 ^ p.lo < 2 ^ (p.lo + p.len) := by
      rw [Nat.pow_add, Nat.mul_comm]
      exact Nat.mul_lt_mul_of_pos_left (Nat.mod_lt _ (Nat.two_pow_pos _)) (Nat.two_pow_pos _)
    rw [List.map_cons, List.sum_cons, hm, Nat.add_comm, Nat.testBit_two_pow_mul_add _ here]
    rw [hm] at rest
    have notHere := outside p (List.mem_cons_self ..)
    by_cases below : k < p.lo + p.len
    · rw [if_pos below, Nat.testBit_mul_two_pow]
      simp [show ¬p.lo ≤ k by omega]
    · rw [if_neg below]
      simpa [Nat.testBit_two_pow_mul, show p.lo + p.len ≤ k by omega] using rest

/-- A bit that no field of a register has is 0 in the register's word (R5). -/
theorem regWord_reserved_bit {s : State} {a k i j : Nat} {r : RegDef} (h : regAt a = some (r, i, j))
    (outside : ∀ p ∈ r.parts, ¬(p.lo ≤ k ∧ k < p.lo + p.len)) : bitSet (regWord s r i j) k = false := by
  rw [bitSet_eq_testBit]
  exact testBit_pieces_outside (fun p => fieldView s p.fld i j / 2 ^ p.shift) (parts_apart h) outside

theorem readWord_register {s : State} {a i j : Nat} {r : RegDef} (area : areaWord s a = none) (shadow : shadowWord s a = none)
    (h : regAt a = some (r, i, j)) : readWord s a = regWord s r i j := by
  simp [readWord, area, shadow, h]

theorem readWord_reserved {s : State} {a : Nat} (area : areaWord s a = none) (shadow : shadowWord s a = none)
    (h : regAt a = none) : readWord s a = 0 := by
  simp [readWord, area, shadow, h]

/-- A field that the registers hold is shown as they hold it. -/
theorem fieldView_kept {s : State} {f : Fld} (i j : Nat) (kept : keptAsRegister f = true) : fieldView s f i j = rd s f i j := by
  simp only [keptAsRegister, Bool.and_eq_true, List.all_eq_true, decide_eq_true_eq] at kept
  obtain ⟨⟨⟨noView, -⟩, -⟩, -⟩ := kept
  have noneFound : (liveOf f.addr).find? (fun x => decide (x.1 = f)) = none := by
    simpa [List.find?_eq_none] using noView
  simp [fieldView, noneFound]

/-- A register of one 32-bit field that the registers hold shows the low 32 bits of what they hold. -/
theorem regWord_kept {s : State} {r : RegDef} {f : Fld} (i j : Nat) (parts : r.parts = [⟨0, 32, f, 0⟩])
    (kept : keptAsRegister f = true) : regWord s r i j = rd s f i j % 2 ^ 32 := by
  simp [regWord, parts, bitsOf, fieldView_kept i j kept]

/-- The bytes of a number depend on as many of its low bits as they hold. -/
theorem leBytes_mod (n v : Nat) : leBytes n (v % 2 ^ (8 * n)) = leBytes n v := by
  induction n generalizing v with
  | zero => rfl
  | succ n ih =>
    have low : v % 2 ^ (8 * (n + 1)) % 2 ^ 8 = v % 2 ^ 8 :=
      Nat.mod_mod_of_dvd v (Nat.pow_dvd_pow 2 (by omega))
    have high : v % 2 ^ (8 * (n + 1)) / 256 = v / 256 % 2 ^ (8 * n) := by
      rw [show 8 * (n + 1) = 8 + 8 * n by omega, Nat.pow_add]
      exact Nat.mod_mul_right_div_self v (2 ^ 8) _
    rw [leBytes, leBytes, high, ih]
    congr 1
    apply BitVec.eq_of_toNat_eq
    simpa using low

/-! ### What a clear-on-read register keeps -/

/-- A clear-on-read field that the registers hold is cleared there. -/
theorem clearField_kept {s : State} {f : Fld} (i j : Nat) (kept : keptAsRegister f = true) : clearField s f i j = wr s f 0 i j := by
  simp only [keptAsRegister, Bool.and_eq_true, Bool.not_eq_true', decide_eq_true_eq, Bool.and_eq_false_iff,
    decide_eq_false_iff_not] at kept
  obtain ⟨⟨⟨-, noHits⟩, noSwitch⟩, noSecured⟩ := kept
  unfold clearField
  rw [if_neg noHits, if_neg (by omega), if_neg (by omega), if_neg (by omega)]

/-- A read of a register of one kept clear-on-read field leaves the field 0, a speculative one leaves it (R4). -/
theorem rd_readAfter {s : State} {a i j : Nat} {r : RegDef} {f : Fld} (speculative : Bool) (shadow : shadowWord s a = none)
    (own : octetCounter a = none) (h : regAt a = some (r, i, j)) (parts : r.parts = [⟨0, 32, f, 0⟩]) (rc : f.acc = .rc)
    (kept : keptAsRegister f = true) :
    rd (readAfter s a speculative) f i j = if speculative then rd s f i j else 0 := by
  cases speculative
  case false => simp [readAfter, own, h, octetCounter_before_none shadow, parts, rc, clearField_kept i j kept]
  case true =>
    have drawing : readAfter s a true = if drawsOn.contains r.addr then drawn (drawn s) else s := by simp [readAfter, own, h]
    rw [drawing]
    split <;> rfl

/-- A read at an address of no register changes nothing. -/
theorem readAfter_reserved {s : State} {a : Nat} (speculative : Bool) (h : regAt a = none) : readAfter s a speculative = s := by
  simp [readAfter, octetCounter_none_of_reserved h, h]

/-! ### What a write leaves as it is -/

/-- A write to a register of read-only fields leaves them all (R4). -/
theorem writeParts_readOnly {past : Bool} {r : RegDef} {a i j w : Nat} {s : State}
    (h : ∀ p ∈ r.parts, p.fld.acc = .ro ∨ p.fld.acc = .rv ∨ p.fld.acc = .rc) : writeParts past r a i j w s = s := by
  refine List.foldlRecOn r.parts _ (motive := fun u => u = s) rfl fun u same p hp => ?_
  subst same
  rcases h p hp with acc | acc | acc <;> simp only [writePart, acc]

/-- A write to a register that shows no block's status bits sends no message again. -/
theorem resend_none {r : RegDef} {w : Nat} {s : State}
    (h : blockSources.all (fun b => b.bits.all (fun f => f.addr != r.addr)) = true) : resend r w s = s := by
  have noneCleared : clearedSources r.addr w = [] := by
    simp only [List.all_eq_true, bne_iff_ne] at h
    simp only [clearedSources, List.map_eq_nil_iff, List.filter_eq_nil_iff, List.any_eq_true, not_exists, not_and]
    intro b hb f hf
    simp [h b hb f hf]
  simp [resend, noneCleared, msixSendAll]

theorem writeReg_readOnly {past : Bool} {b a i j w : Nat} {r : RegDef} {s : State} (at_ : regAt b = some (r, i, j))
    (h : ∀ p ∈ r.parts, p.fld.acc = .ro ∨ p.fld.acc = .rv ∨ p.fld.acc = .rc) : writeReg past r a i j w s = s := by
  obtain ⟨noOp, entailsNone, noStatus⟩ := readOnly_plain at_ (by simpa [or_assoc] using h)
  simp only [writeReg, noOp, entailsNone, writeParts_readOnly h, resend_none noStatus]

/-- A register of read-only fields ignores writes. -/
theorem regWrite_readOnly {s : State} {a i j : Nat} {r : RegDef} (w : Nat) (at_ : regAt a = some (r, i, j))
    (h : ∀ p ∈ r.parts, p.fld.acc = .ro ∨ p.fld.acc = .rv ∨ p.fld.acc = .rc) : regWrite s a w = s := by
  simp only [regWrite, if_neg (regAt_not_msix at_), at_, writeReg_readOnly at_ h]

/-- An address of no register and of no area ignores writes (R5). -/
theorem regWrite_reserved {s : State} {a : Nat} (w : Nat) (area : areaWord s a = none) (h : regAt a = none) :
    regWrite s a w = s := by
  have notMsix : ¬(0x118000 ≤ a ∧ a < 0x118400) := by
    intro inTable
    unfold areaWord at area
    rw [if_neg (by omega), if_neg (by omega), if_pos inTable] at area
    cases area
  simp only [regWrite, if_neg notMsix, h]

/-! ### Accesses of 4 bytes through BAR0 (R380, R381) -/

theorem areaOf_registers {a : Nat} (h : a < 0x160000) : areaOf a = .registers := if_pos h

theorem unlessLocked_free {s : State} (w : LockWait) (free : s.tf.lock = none) : unlessLocked w s = performWait w s := by
  simp [unlessLocked, free]

/-- A write to the register space with the bus unlocked is a register write. -/
theorem barWrite_registers {s : State} {a : Nat} (w : Nat) (free : s.tf.lock = none) (low : a < 0x160000) (aligned : a % 4 = 0) :
    barWrite a w s = regWrite s a (leAt (leBytes 4 w) 0 4) := by
  simp [barWrite, areaOf_registers low, aligned, unlessLocked_free _ free, performWait, regStore, leBytes]

theorem localRead_registers {s : State} {inst a : Nat} (speculative : Bool) (low : a < 0x160000) (aligned : a % 4 = 0) :
    localRead s inst a 4 speculative = (leBytes 4 (readWord s a), readAfter s a speculative) := by
  simp [localRead, refusal, areaOf_registers low, regForm, aligned, regBytes, regRead]

/-- A read of the register space with the bus unlocked completes with the word there. -/
theorem barRead_registers {s : State} {a : Nat} (speculative : Bool) (free : s.tf.lock = none) (low : a < 0x160000)
    (aligned : a % 4 = 0) :
    barRead a speculative s = emit (readAfter s a speculative) (.pcieCompletion 16 0 (leBytes 4 (readWord s a))) := by
  simp [barRead, areaOf_registers low, aligned, unlessLocked_free _ free, performWait, windowReadNow,
    localRead_registers speculative low aligned, completeRead, laneSwap]

/-- What a command put out before its end is put out after it. -/
theorem mem_settle_out {s : State} {o : Out} (h : o ∈ s.out) : o ∈ (settle s).out := by
  obtain ⟨vs, out⟩ := (settle_untouched s).out
  rw [out]
  exact List.mem_append_left _ h

@[simp] theorem rd_settle (s : State) (f : Fld) (i j : Nat) : rd (settle s) f i j = rd s f i j := rd_congr (settle_regs s) f i j

end Sys2Proof.Machine

/-! SUPPORT. The limiter of events (R509), case by case. -/

namespace Sys2Proof.Machine

theorem limited_first {limits : Tab (Nat × Nat)} {now key n : Nat} (first : Tab.find limits key = none) :
    limited limits now key n = (Tab.put limits key (now, 0), some n) := by
  simp only [limited, first]

theorem limited_later {limits : Tab (Nat × Nat)} {now key n last k : Nat} (found : Tab.find limits key = some (last, k))
    (later : last + sec ≤ now) : limited limits now key n = (Tab.put limits key (now, 0), some (k + n)) := by
  simp only [limited, found, if_pos later]

theorem limited_within {limits : Tab (Nat × Nat)} {now key n last k : Nat} (found : Tab.find limits key = some (last, k))
    (soon : now < last + sec) : limited limits now key n = (Tab.put limits key (last, k + n), none) := by
  simp only [limited, found, if_neg (Nat.not_le.mpr soon)]

end Sys2Proof.Machine

/-! SUPPORT. The statements on register accesses and on limited events, settled. -/

namespace Sys2Proof.Machine

/-- Settles O43: the wrapper of both rows is passed where the core die runs. -/
theorem registersComplete : Obligations.RegistersComplete :=
  ⟨fun _ _ _ _ on => powered_on on, fun _ _ _ _ on => powered_on on⟩

/-- Settles O13: the fields of a register lie apart, so that a bit outside them stays 0; at an address of no register neither
access finds anything to change. -/
theorem reservedReadsZero : Obligations.ReservedReadsZero := by
  refine ⟨fun s a k r i j area shadow at_ outside => ?_, fun t a w speculative s on free low aligned at_ area shadow => ⟨?_, ?_⟩⟩
  · rw [readWord_register area shadow at_]
    exact regWord_reserved_bit at_ outside
  · rw [registersComplete.1 t a w s on, barWrite_registers _ free low aligned, regWrite_reserved _ area at_]
  · rw [registersComplete.2 t a speculative s on, barRead_registers _ free low aligned, readAfter_reserved _ at_,
      readWord_reserved area shadow at_]
    rfl

/-- Settles O14: the completion carries the field's 32 bits, and only a read that is not speculative clears them. -/
theorem clearOnRead : Obligations.ClearOnRead := by
  intro t a s r i j f on free low aligned area shadow own at_ parts rc _ kept
  have word : leBytes 4 (readWord (arrive t s) a) = leBytes 4 (rd (arrive t s) f i j) := by
    rw [readWord_register area shadow at_, regWord_kept i j parts kept]
    exact leBytes_mod 4 _
  have read : ∀ speculative, ∃ u, exec (.rcCounterRead t a speculative) s = .next u ∧
      rd u f i j = (if speculative then rd (arrive t s) f i j else 0) ∧
      Out.pcieCompletion 16 0 (leBytes 4 (rd (arrive t s) f i j)) ∈ u.out := by
    intro speculative
    refine ⟨_, registersComplete.2 t a speculative s on, ?_, mem_settle_out ?_⟩
    · rw [rd_settle, barRead_registers _ free low aligned, rd_emit]
      exact rd_readAfter speculative shadow own at_ parts rc kept
    · rw [barRead_registers _ free low aligned, word]
      simp
  exact ⟨read false, read true⟩

/-- Settles O15: a register of read-only fields has no write operation, entails nothing and shows no status bits. -/
theorem readOnlyIgnoresWrites : Obligations.ReadOnlyIgnoresWrites := by
  intro t a w s r i j on free low aligned at_ h
  rw [registersComplete.1 t a w s on, barWrite_registers _ free low aligned, regWrite_readOnly _ at_ h]

/-- Settles O30: the three cases are those of the limiter. -/
theorem oncePerSecond : Obligations.OncePerSecond := by
  refine fun s src code inst scope n data => ⟨fun first => ?_, fun last k found later => ?_, fun last k found soon => ?_⟩
  · rw [raiseLimited, limited_first first]
  · rw [raiseLimited, limited_later found later]
  · rw [raiseLimited, limited_within found soon]

end Sys2Proof.Machine

/-! SUPPORT. A register's word bit by bit: the word shows each field where its register puts it. -/

namespace Sys2Proof.Machine

/-- A bit of one of the pieces of a word, which lie apart, is the piece's own. -/
theorem testBit_pieces_inside {ps : List RegPart} {p : RegPart} {k : Nat} (v : RegPart → Nat) (apart : partsApart ps = true)
    (mem : p ∈ ps) (low : p.lo ≤ k) (high : k < p.lo + p.len) :
    (ps.map (fun q => v q % 2 ^ q.len * 2 ^ q.lo)).sum.testBit k = (v p).testBit (k - p.lo) := by
  induction ps with
  | nil => exact absurd mem List.not_mem_nil
  | cons q ps ih =>
    simp only [partsApart, Bool.and_eq_true, decide_eq_true_eq, List.all_eq_true] at apart
    obtain ⟨⟨-, above⟩, apart⟩ := apart
    obtain ⟨m, hm⟩ := two_pow_dvd_pieces v above
    have here : v q % 2 ^ q.len * 2 ^ q.lo < 2 ^ (q.lo + q.len) := by
      rw [Nat.pow_add, Nat.mul_comm]
      exact Nat.mul_lt_mul_of_pos_left (Nat.mod_lt _ (Nat.two_pow_pos _)) (Nat.two_pow_pos _)
    rw [List.map_cons, List.sum_cons, hm, Nat.add_comm, Nat.testBit_two_pow_mul_add _ here]
    rcases List.mem_cons.mp mem with rfl | later
    · rw [if_pos high, Nat.testBit_mul_two_pow, Nat.testBit_mod_two_pow]
      simp [low, show k - p.lo < p.len by omega]
    · have past := above p later
      have rest := ih apart later
      rw [hm, Nat.testBit_two_pow_mul] at rest
      rw [if_neg (by omega), ← rest]
      simp [show q.lo + q.len ≤ k by omega]

/-- A bit of a register's word that one of its fields has is that field's bit, as a read shows it. -/
theorem regWord_field_bit {s : State} {a k i j : Nat} {r : RegDef} {p : RegPart} (h : regAt a = some (r, i, j)) (mem : p ∈ r.parts)
    (low : p.lo ≤ k) (high : k < p.lo + p.len) :
    bitSet (regWord s r i j) k = bitSet (fieldView s p.fld i j) (p.shift + (k - p.lo)) := by
  rw [bitSet_eq_testBit, bitSet_eq_testBit, Nat.add_comm, ← Nat.testBit_div_two_pow]
  exact testBit_pieces_inside (fun q => fieldView s q.fld i j / 2 ^ q.shift) (parts_apart h) mem low high

end Sys2Proof.Machine

/-! SUPPORT. The rules of device time (chapter 1): its synced flag, its events and its HOLDOVER row. And what a field and the
pending sources are in the reset state. -/

namespace Sys2Proof.Machine

theorem dtSynced_iff (s : State) : dtSynced s = true ↔ rd s Reg.DT_STATUS.state = 2 ∨ rd s Reg.DT_STATUS.state = 3 := by
  simp [dtSynced]

/-- The synced field of DT_STATUS is shown from DT's own state (R16). -/
theorem fieldView_synced (s : State) : fieldView s Reg.DT_STATUS.synced 0 0 = b2n (dtSynced s) % 2 := rfl

/-- DT_STATUS stands at 0x10014, with its synced bit at bit 3. -/
theorem regAt_dtStatus : ∃ r, regAt 0x10014 = some (r, 0, 0) ∧ ⟨3, 1, Reg.DT_STATUS.synced, 0⟩ ∈ r.parts :=
  ⟨_, rfl, by simp⟩

/-- Bit 3 of the word at 0x10014 is DT's synced flag. -/
theorem readWord_synced_bit (s : State) : bitSet (readWord s 0x10014) 3 = dtSynced s := by
  obtain ⟨r, at_, mem⟩ := regAt_dtStatus
  rw [readWord_register rfl rfl at_, regWord_field_bit at_ mem (by decide) (by decide), fieldView_synced]
  cases dtSynced s <;> rfl

/-- A DT event leaves what every event leaves. -/
theorem dtEvent_frame (s : State) (code : Nat) (data : Bytes) : EventFrame s (dtEvent s code data) :=
  (wr_frame _ _ _ _ _).trans (raise_frame _ _ _ _ _)

/-- Raising an event leaves the registers of the DT block. -/
theorem rd_raise_dt {s : State} {f : Fld} (src code inst : Nat) (data : Bytes) (block : f.key 0 0 / 2 ^ 21 = 1) :
    rd (raise s src code inst data) f = rd s f :=
  raise_keeps s src code inst data f 0 0 (by omega) (by omega) (by omega)

/-- Past its own bit of DT_INT_STATUS a DT event writes no register of the DT block. -/
theorem rd_dtEvent_other {s : State} {code : Nat} {f : Fld} (data : Bytes) (block : f.key 0 0 / 2 ^ 21 = 1)
    (other : f.key 0 0 ≠ (dtIntBit code).key 0 0) : rd (dtEvent s code data) f = rd s f :=
  (rd_raise_dt _ _ _ _ block).trans (rd_wr_other _ _ _ _ _ _ _ _ other)

/-- The bit of a DT event is a field of the DT block that holds a 1. -/
theorem dtIntBit_shape (code : Nat) : (dtIntBit code).key 0 0 / 2 ^ 21 = 1 ∧ 1 % 2 ^ (dtIntBit code).len = 1 := by
  unfold dtIntBit
  split <;> decide

/-- A DT event leaves its bit of DT_INT_STATUS set. -/
theorem rd_dtEvent_bit (s : State) (code : Nat) (data : Bytes) : rd (dtEvent s code data) (dtIntBit code) = 1 := by
  obtain ⟨block, holds⟩ := dtIntBit_shape code
  exact (rd_raise_dt _ _ _ _ block).trans ((rd_wr_same _ _ _ _ _).trans holds)

theorem holdoverOp_expired {s : State} (holdover : rd s Reg.DT_STATUS.state = 3)
    (past : s.dt.lastSync + rd s Reg.DT_HOLDOVER_LIMIT.ms * ms ≤ s.now) :
    holdoverOp s = dtEvent (setDtState s 4) 3 (leBytes 8 (rd s Reg.DT_LAST_SYNC.dt)) := if_pos ⟨holdover, past⟩

theorem holdoverOp_before {s : State} (soon : s.now < s.dt.lastSync + rd s Reg.DT_HOLDOVER_LIMIT.ms * ms) :
    holdoverOp s = s := if_neg fun h => Nat.not_le.mpr soon h.2

/-- In the reset state a field reads its reset value. -/
theorem rd_reset (f : Fld) (i j : Nat) : rd State.reset f i j = f.resetAt i j := rfl

theorem pips_some (a : Nat) : pips (some a) = min (a / 100000) 0xFFFF := rfl

theorem sum_map_eq_zero {α : Type} {l : List α} {f : α → Nat} (h : ∀ a ∈ l, f a = 0) : (l.map f).sum = 0 :=
  List.sum_eq_zero_iff_forall_eq_nat.mpr (List.forall_mem_map.mpr h)

/-- Where no source is enabled and no host ring holds one, none is pending. -/
theorem irqMask_unenabled {s : State} (enables : ∀ b ∈ blockSources, ∀ i, rd s b.en i = 0) (rings : s.hb.ringIrq = 0) :
    irqMask s = 0 := by
  have blocks : ∀ b ∈ blockSources, blockPending s b = false := by
    intro b hb
    simp [blockPending, instPending, enables b hb]
  have commands : ∀ k, cmdPending s k = false := by
    intro k
    have off : rd s Reg.CMD_INT_EN.enable = 0 :=
      enables ⟨14, 1, Reg.CMD_INT_EN.enable, [Reg.CMD_INT_STATUS.event]⟩ (by simp [blockSources]) 0
    simp [cmdPending, off, bitSet]
  have blockSum : (blockSources.map (fun b => b2n (blockPending s b) * 2 ^ b.src)).sum = 0 :=
    sum_map_eq_zero fun b hb => by simp only [blocks b hb, b2n, Bool.false_eq_true, if_false, Nat.zero_mul]
  have commandSum : ((List.range 8).map (fun k => b2n (cmdPending s k) * 2 ^ (32 + k))).sum = 0 :=
    sum_map_eq_zero fun k _ => by simp only [commands k, b2n, Bool.false_eq_true, if_false, Nat.zero_mul]
  rw [irqMask, blockSum, commandSum, rings, Nat.zero_mod, Nat.zero_mul]

/-- Every block's enable register is 0 at reset, in each of its copies. -/
theorem blockSources_enable_reset : ∀ b ∈ blockSources, ∀ i, b.en.resetAt i 0 = 0 := by
  have const : ∀ b ∈ blockSources, b.en.rkind = .const ∧ b.en.reset = 0 := by decide
  intro b hb i
  obtain ⟨kind, zero⟩ := const b hb
  simp [Fld.resetAt, kind, zero]

theorem settled_reset : Settled State.reset :=
  (irqMask_unenabled (fun b hb i => (rd_reset b.en i 0).trans (blockSources_enable_reset b hb i)) rfl).symm

end Sys2Proof.Machine

/-! SUPPORT. The statements on device time and ages, settled. -/

namespace Sys2Proof.Machine

/-- Settles O44: the wrapper of each row is passed where what the row needs runs. -/
theorem timeComplete : Obligations.TimeComplete := by
  refine ⟨?sync, ?step, ?residual, ?loss, ?holdover, ?saturated, ?announce, ?timeout, ?delay, ?transmit⟩
  case step => exact fun _ _ on => running_on on
  case sync => exact fun _ _ _ _ _ _ on => powered_on on
  case announce | delay => exact fun _ _ _ _ on => powered_on on
  case timeout | transmit => exact fun _ _ _ on => powered_on on
  case residual | loss | holdover | saturated => exact fun _ _ on => powered_on on

/-- Settles O34: at its limit the row is a DT event in state 4, which leaves the time block; before it the row does nothing (the
model's reading of a row before its instant). -/
theorem holdoverExpires : Obligations.HoldoverExpires := by
  intro t s on holdover
  obtain ⟨-, -, -, -, row, -⟩ := timeComplete
  rw [row t s on]
  refine ⟨fun past => ⟨_, rfl, ?_⟩, fun soon => ?_⟩
  · rw [holdoverOp_expired (s := tick t s) holdover past]
    generalize leBytes 8 (rd (tick t s) Reg.DT_LAST_SYNC.dt) = data
    have event := dtEvent_frame (setDtState (tick t s) 4) 3 data
    have ended := settle_untouched (dtEvent (setDtState (tick t s) 4) 3 data)
    refine ⟨?_, ?_, ended.dt.trans event.dt, ended.mem.trans event.mem⟩
    · rw [rd_settle, rd_dtEvent_other _ (by decide) (by decide)]
      exact rd_wr_same _ _ _ _ _
    · rw [rd_settle]
      exact rd_dtEvent_bit _ 3 _
  · rw [holdoverOp_before (s := tick t s) soon]

/-- Settles O35: the record's flag is DT's synced flag by definition, and so is bit 3 of the word of DT_STATUS. -/
theorem syncedFlag : Obligations.SyncedFlag := by
  intro s src code inst data
  exact ⟨dtSynced_iff s, by rw [readWord_synced_bit, dtSynced_iff]⟩

/-- Settles O36: the quotient is held at 0xFFFF from above. -/
theorem ageInPips : Obligations.AgeInPips := by
  refine ⟨fun a below => ?_, fun a above => ?_, rfl⟩
  · rw [pips_some, Nat.min_eq_left (by omega)]
  · rw [pips_some, Nat.min_eq_right above]

/-- Settles O3: the reset state keeps no register off its reset value, and enables no source. -/
theorem resetState : Obligations.ResetState :=
  ⟨settled_reset, ⟨rfl, rfl⟩, rfl, by decide, rd_reset .., rd_reset .., rfl, rd_reset .., rfl, fun n => rd_reset _ n.val 0, rfl⟩

end Sys2Proof.Machine

/-! SUPPORT. A command packet whose row does nothing but answer. -/

namespace Sys2Proof.Machine

/-- A packet whose row does nothing but answer, executed at once, ends with the answer of its operation at work. -/
theorem answeredRow_on {t op : Nat} {c : Call} {p : Bytes} {s : State} {run : State → CmdAnswer} (h : Executes op c (tick t s)) :
    commandRow t op c p s (fun s => answer op c (run s)) = .next (settle (answer op c (run (atWork t s)))) := commandRow_on h

end Sys2Proof.Machine

/-! SUPPORT. The life record (R65, R68): what the time histograms are counted under, and what a snapshot holds and leaves. -/

namespace Sys2Proof.Machine

/-- The fields the time histograms are counted under: power state, temperature, commanded voltage and DERATED. -/
def histogramFields : List Fld := [Reg.WK_STATUS.state, Reg.MP_TJ.tj, Reg.MP_STATUS.vdd_cmd_mv, Reg.MP_STATUS.derated]

/-- The time histograms brought up to now are counted under no other field of the registers than `histogramFields`. -/
theorem lifeSettle_ns_congr {s u : State} (now : u.now = s.now) (lr : u.lr = s.lr) (bt : u.bt = s.bt)
    (fields : ∀ f ∈ histogramFields, rd u f = rd s f) : (lifeSettle u).lr.ns = (lifeSettle s).lr.ns := by
  simp only [histogramFields, List.forall_mem_cons] at fields
  obtain ⟨state, tj, vdd, derated, -⟩ := fields
  unfold lifeSettle diePowered powerState tjNow rdB
  rw [now, lr, bt, state, tj, vdd, derated]

@[simp] theorem livePage_counts (s : State) (seq cause : Nat) : (livePage s seq cause).counts = s.lr.counts := rfl

@[simp] theorem livePage_ns (s : State) (seq cause : Nat) : (livePage s seq cause).ns = (lifeSettle s).lr.ns := rfl

@[simp] theorem snapTake_mem (s : State) : (snapTake s).mem = s.mem := rfl
@[simp] theorem snapTake_bt (s : State) : (snapTake s).bt = s.bt := rfl
@[simp] theorem snapTake_counts (s : State) : (snapTake s).lr.counts = s.lr.counts := rfl
@[simp] theorem snapTake_pages (s : State) : (snapTake s).lr.pages = s.lr.pages := rfl

theorem rd_snapTake_done (s : State) : rd (snapTake s) Reg.LR_SNAP.done = 1 := rd_wr_same s Reg.LR_SNAP.done 1 0 0

/-- The view a snapshot leaves holds the live counters and the histograms up to now (R68): LR_SNAP.done is none of the fields
these are counted under. -/
theorem snapTake_view (s : State) :
    ∃ v, (snapTake s).lr.view = some v ∧ v.counts = s.lr.counts ∧ v.ns = (lifeSettle s).lr.ns := by
  refine ⟨_, rfl, livePage_counts .., (livePage_ns ..).trans (lifeSettle_ns_congr rfl rfl rfl fun f live => ?_)⟩
  have other : ∀ g ∈ histogramFields, g.key 0 0 ≠ Reg.LR_SNAP.done.key 0 0 := by decide
  exact rd_wr_other _ _ _ _ _ _ _ _ (other f live)

end Sys2Proof.Machine

/-! SUPPORT. The statements on the margin planner and the life record, settled. -/

namespace Sys2Proof.Machine

/-- Settles O45: the wrapper of each row is passed where what the row needs runs. -/
theorem marginAndLifeComplete : Obligations.MarginAndLifeComplete := by
  refine ⟨?sample, ?derate, ?lower, ?readback, ?retry, ?temperature, ?vreq, ?replan, ?checkpoint, ?period, ?ctrl, ?snap,
    ?readPage, ?checkpointCommand⟩
  case derate => exact fun _ _ on => looping_on on
  case sample | temperature => exact fun _ _ _ on => looping_on on
  case readback | retry => exact fun _ _ _ _ _ on => looping_on on
  case lower | ctrl | snap => exact fun _ _ on => powered_on on
  case vreq => exact fun _ _ _ on => powered_on on
  case checkpoint => exact fun _ _ _ _ on => powered_on on
  case replan => exact fun _ _ _ _ _ on => powered_on on
  case period =>
    intro t s on free
    have counted : (diePowered s && s.bt.hung.isNone) = true := by simp [on, free]
    exact congrArg done (if_pos counted)
  case readPage | checkpointCommand => exact fun _ _ _ _ h => answeredRow_on h

/-- Settles O37: the snapshot's view holds the counters and the histograms, and the end of the command leaves the registers and
the blocks. -/
theorem snapshotTaken : Obligations.SnapshotTaken := by
  intro t s on
  obtain ⟨-, -, -, -, -, -, -, -, -, -, -, row, -⟩ := marginAndLifeComplete
  have ended := settle_untouched (snapTake (tick t s))
  refine ⟨_, row t s on, ?_, ?_, ?_, ?_, ended.mem.trans (snapTake_mem _), ended.bt.trans (snapTake_bt _)⟩
  · rw [rd_settle, rd_snapTake_done]
  all_goals rw [ended.lr]
  · exact snapTake_counts _
  · exact snapTake_pages _
  · exact snapTake_view (tick t s)

end Sys2Proof.Machine

/-! SUPPORT. A change of a channel's mode (R78): the modes in effect are kept under keys of their own, and an attempt abandoned leaves
its channel without an offer. -/

namespace Sys2Proof.Machine

/-! ### What a reply leaves of the registers -/

/-- The queue pairs' completion tails stand in the CMD block. -/
theorem queueReply_keeps (s : State) (q : Fin 4) (slot size addr tag st : Nat) (pkt : Bytes) :
    KeepsRegs s (queueReply s q slot size addr tag st pkt) := by
  have inCmd : ∀ q : Fin 4, Reg.CMD_QP_CQ_TAIL.tail.key q 0 / 2 ^ 21 = 18 ∧ Reg.CMD_QP_CQ_TAIL.phase.key q 0 / 2 ^ 21 = 18 := by
    decide
  obtain ⟨tail, phase⟩ := inCmd q
  unfold queueReply
  split
  case isFalse => exact KeepsRegs.refl s
  case isTrue =>
    extract_lets _ _ written entry posted advanced turned
    have w : KeepsRegs s written := by
      unfold written
      split
      · exact KeepsRegs.refl s
      · exact emit_keeps s _
    have t : KeepsRegs advanced turned := by
      unfold turned
      split
      · exact wr_keeps _ _ _ _ _ (.inr (.inr phase))
      · exact KeepsRegs.refl _
    have a : KeepsRegs written advanced := (emit_keeps written _).trans (wr_keeps _ _ _ _ _ (.inr (.inr tail)))
    exact ((w.trans a).trans t).trans (setBitF_keeps _ _ _ _ _ (by decide))

/-- A reply writes registers of its transport only. -/
theorem sendReply_keeps (s : State) (op : Nat) (c : Call) (st : Nat) (result : Bytes) :
    KeepsRegs s (sendReply s op c st result) := by
  unfold sendReply sendReplyFrom
  extract_lets ended put
  have before : KeepsRegs s put := KeepsRegs.of_regs rfl
  refine before.trans ?_
  split
  case h_1 =>
    split
    · exact queueReply_keeps _ _ _ _ _ _ _ _
    · exact KeepsRegs.refl put
  case h_2 => exact (KeepsRegs.of_regs rfl : KeepsRegs put { put with cmd := _ }).trans (wr_keeps _ _ _ _ _ (by decide))
  case h_3 => exact KeepsRegs.of_regs rfl
  case h_4 => exact fabSend_keeps _ _

/-! ### What leaves the modes in effect -/

/-- Nothing is newly offered on channel `n`, and every channel's mode in effect stands. -/
structure OffersNothing (n : Nat) (s u : State) : Prop where
  modes : ∀ m : Fin 64, canMode u m = canMode s m
  noOffer : (canCh s n).offer = none → (canCh u n).offer = none

theorem OffersNothing.refl (n : Nat) (s : State) : OffersNothing n s s := ⟨fun _ => rfl, id⟩

theorem OffersNothing.trans {n : Nat} {s u v : State} (a : OffersNothing n s u) (b : OffersNothing n u v) : OffersNothing n s v :=
  ⟨fun m => (b.modes m).trans (a.modes m), b.noOffer ∘ a.noOffer⟩

/-- The registers of the channels stand in blocks 4 to 7. -/
theorem KeepsRegs.canMode {s u : State} (h : KeepsRegs s u) (m : Fin 64) : canMode u m = canMode s m := by
  have block : ∀ m : Fin 64, Reg.CAN_STATUS.mode_eff.key m 0 / 2 ^ 21 ≠ 0 ∧ Reg.CAN_STATUS.mode_eff.key m 0 / 2 ^ 21 ≠ 16 ∧
      Reg.CAN_STATUS.mode_eff.key m 0 / 2 ^ 21 ≠ 18 := by decide
  obtain ⟨notSys, notTf, notCmd⟩ := block m
  exact h _ m 0 notSys notTf notCmd

/-- A field of the channels' register areas, 4 KiB each, other than the mode in effect. -/
def besideMode (f : Fld) : Bool :=
  f.s1 == 0x1000 && f.key 0 0 % 0x20000 != Reg.CAN_STATUS.mode_eff.key 0 0 % 0x20000

theorem canMode_wr_beside {f : Fld} (s : State) (v i m : Nat) (h : besideMode f = true) : canMode (wr s f v i) m = canMode s m := by
  simp only [besideMode, Bool.and_eq_true, beq_iff_eq, bne_iff_ne, Fld.key, Reg.CAN_STATUS.mode_eff] at h
  refine rd_wr_other _ _ _ _ _ _ _ _ ?_
  simp only [Fld.key, Reg.CAN_STATUS.mode_eff, h.1]
  omega

theorem canMode_wr_same (s : State) (v n : Nat) : canMode (wr s Reg.CAN_STATUS.mode_eff v n) n = v % 2 ^ 3 := rd_wr_same ..

theorem canMode_wr_other {n m : Nat} (s : State) (v : Nat) (h : m ≠ n) :
    canMode (wr s Reg.CAN_STATUS.mode_eff v n) m = canMode s m := by
  refine rd_wr_other _ _ _ _ _ _ _ _ ?_
  simp only [Fld.key, Reg.CAN_STATUS.mode_eff]
  omega

theorem offersNothing_wr {f : Fld} (n : Nat) (s : State) (v i : Nat) (h : besideMode f = true) : OffersNothing n s (wr s f v i) :=
  ⟨fun m => canMode_wr_beside s v i m h, id⟩

theorem canCh_modCan_same (s : State) (n : Nat) (f : CanCh → CanCh) : canCh (modCan s n f) n = f (canCh s n) := by
  simp [canCh, modCan, Tab.get, Tab.find_put_same]

theorem offersNothing_modCan (n : Nat) (s : State) {f : CanCh → CanCh} (h : ∀ c, c.offer = none → (f c).offer = none) :
    OffersNothing n s (modCan s n f) :=
  ⟨fun _ => rfl, fun none => by rw [canCh_modCan_same]; exact h _ none⟩

/-! ### An element removed, an attempt abandoned -/

theorem offersNothing_sendReply (n : Nat) (s : State) (op : Nat) (c : Call) (st : Nat) (result : Bytes) :
    OffersNothing n s (sendReply s op c st result) :=
  ⟨(sendReply_keeps s op c st result).canMode, fun none => by rwa [canCh, (sendReply_frame s op c st result).can]⟩

theorem offersNothing_bufferResolved (n : Nat) (s : State) (i k : Nat) (transmitted : Bool) :
    OffersNothing n s (bufferResolved s i k transmitted) := by
  unfold bufferResolved
  extract_lets uncancelled told undone
  have a : OffersNothing n s told := (offersNothing_wr n s _ i (by decide)).trans (offersNothing_wr n _ _ i (by decide))
  have b : OffersNothing n told undone := by
    unfold undone
    split
    · exact OffersNothing.refl n told
    · exact offersNothing_wr n told _ i (by decide)
  exact (a.trans b).trans (offersNothing_wr n _ _ i (by decide))

theorem offersNothing_queueResolved (n : Nat) (s : State) (i slot st : Nat) (transmitted : Bool) :
    OffersNothing n s (queueResolved s i slot st transmitted) :=
  ((((offersNothing_wr n s _ i (by decide)).trans (offersNothing_wr n _ _ i (by decide))).trans
    (offersNothing_wr n _ _ i (by decide))).trans (offersNothing_wr n _ _ i (by decide))).trans
    (offersNothing_wr n _ _ i (by decide))

theorem offersNothing_tellCancel (n : Nat) (s : State) (i k : Nat) (transmitted : Bool) (by_ : CancelBy) :
    OffersNothing n s (tellCancel s i k transmitted by_) := by
  cases by_ with
  | buffer => exact offersNothing_bufferResolved ..
  | queue => exact offersNothing_queueResolved ..
  | command c =>
    simp only [tellCancel]
    refine OffersNothing.trans ?_ (offersNothing_sendReply ..)
    split
    · exact offersNothing_bufferResolved ..
    · exact OffersNothing.refl n s

theorem offersNothing_tellCancels (n : Nat) (s : State) (i : Nat) (p : Pend) (transmitted : Bool) :
    OffersNothing n s (tellCancels s i p transmitted) :=
  List.foldlRecOn p.cancels _ (motive := OffersNothing n s) (OffersNothing.refl n s) fun _ told _ _ =>
    told.trans (offersNothing_tellCancel ..)

theorem offersNothing_dropPend (s : State) (n k : Nat) : OffersNothing n s (dropPend s n k) :=
  offersNothing_modCan n s fun c none => by simp [none]

theorem offersNothing_removeElem (s : State) (n k : Nat) : OffersNothing n s (removeElem s n k) := by
  unfold removeElem
  split
  · exact OffersNothing.refl n s
  · exact (offersNothing_dropPend s n k).trans (offersNothing_tellCancels ..)

theorem offersNothing_promoteSecond (s : State) (n k : Nat) : OffersNothing n s (promoteSecond s n k) := by
  unfold promoteSecond
  split
  · exact OffersNothing.refl n s
  · exact offersNothing_modCan n s fun _ none => none

/-- An attempt abandoned first drops the offer; nothing that follows offers again. -/
theorem abandonAttempt_drops (s : State) (n : Nat) :
    ∃ dropped, (canCh dropped n).offer = none ∧ OffersNothing n s dropped ∧ OffersNothing n dropped (abandonAttempt s n) := by
  unfold abandonAttempt
  extract_lets begun dropped
  refine ⟨dropped, ?_, offersNothing_modCan n s fun _ _ => rfl, ?_⟩
  · simp only [dropped, canCh_modCan_same]
  · split
    · exact OffersNothing.refl n dropped
    · split
      · exact OffersNothing.refl n dropped
      · split
        · exact offersNothing_removeElem ..
        · exact offersNothing_promoteSecond ..

theorem abandonAttempt_offer (s : State) (n : Nat) : (canCh (abandonAttempt s n) n).offer = none := by
  obtain ⟨_, noOffer, -, after⟩ := abandonAttempt_drops s n
  exact after.noOffer noOffer

theorem canMode_abandonAttempt (s : State) (n : Nat) (m : Fin 64) : canMode (abandonAttempt s n) m = canMode s m := by
  obtain ⟨_, -, before, after⟩ := abandonAttempt_drops s n
  exact (before.trans after).modes m

/-! ### A mode taking effect -/

theorem applyMode_offer (s : State) (n m : Nat) : (canCh (applyMode s n m) n).offer = none := abandonAttempt_offer _ n

/-- Past the write of the mode, taking effect leaves the modes. -/
theorem canMode_applyMode (s : State) (n m : Nat) (k : Fin 64) :
    canMode (applyMode s n m) k = canMode (wr s Reg.CAN_STATUS.mode_eff m n) k :=
  (canMode_wr_beside _ _ n k (by decide)).trans (canMode_abandonAttempt _ n k)

/-- In INIT a channel does not integrate. -/
theorem rd_applyMode_init_integrating (s : State) (n : Nat) : rd (applyMode s n 0) Reg.CAN_STATUS.integrating n = 0 :=
  rd_wr_same _ Reg.CAN_STATUS.integrating _ n 0

/-- INIT written to a channel: its mode-change wait is over. -/
def initWritten (s : State) (n : Nat) : State :=
  modCan (wr s Reg.CAN_CTRL.mode 0 n) n (fun c => { c with pendingMode := none })

theorem modeWrite_init_stays {s : State} {n : Nat} (inInit : canMode s n = 0) : (modeWrite s n 0).1 = initWritten s n := by
  simp [modeWrite, inInit, initWritten]

theorem modeWrite_init_applies {s : State} {n : Nat} (other : canMode s n ≠ 0) :
    (modeWrite s n 0).1 = applyMode (initWritten s n) n 0 := by
  simp [modeWrite, Ne.symm other, initWritten]

theorem canMode_initWritten (s : State) (n m : Nat) : canMode (initWritten s n) m = canMode s m :=
  canMode_wr_beside (f := Reg.CAN_CTRL.mode) s 0 n m (by decide)

end Sys2Proof.Machine

/-! SUPPORT. The statements on the CAN protocol engines, settled. -/

namespace Sys2Proof.Machine

/-- Settles O46: the wrapper of each row is passed where what the row needs runs. -/
theorem canEngineComplete : Obligations.CanEngineComplete := by
  refine ⟨?modeWrite, ?atIdle, ?integrated, ?exception, ?selection, ?rebuild, ?transmitted, ?lost, ?error, ?holdoff, ?recovery,
    ?bufferRequest, ?queuePut, ?bufferCancel, ?queueCancel, ?setMode, ?enqueue, ?cancel, ?getState, ?cloakIgnored⟩
  case atIdle | integrated | lost | holdoff | recovery | cloakIgnored => exact fun _ _ _ on => running_on on
  case rebuild => exact fun _ _ _ on => running_on on
  case modeWrite | exception | error => exact fun _ _ _ _ on => running_on on
  case bufferRequest | queuePut | bufferCancel | queueCancel => exact fun _ _ _ _ on => running_on on
  case transmitted => exact fun _ _ _ _ _ on => running_on on
  case selection => exact fun _ _ _ _ _ _ on => running_on on
  case setMode | enqueue | cancel | getState => exact fun _ _ _ _ h => exec_executes rfl h

/-- Settles O24: a write of INIT to a channel in another mode takes effect, which abandons the attempt; in INIT it only ends the
wait for a mode change. -/
theorem initAtOnce : Obligations.InitAtOnce := by
  rintro t n s v on rfl
  refine ⟨_, canEngineComplete.1 t n 0 s on, ?_⟩
  by_cases inInit : canMode (arrive t s) n = 0
  · have stays : (modeWrite (arrive t s) n (0 : Fin 8)).1 = _ := modeWrite_init_stays inInit
    rw [stays]
    exact ⟨(canMode_initWritten _ n n).trans inInit, fun other => absurd inInit other, fun m _ => canMode_initWritten _ n m⟩
  · have applies : (modeWrite (arrive t s) n (0 : Fin 8)).1 = _ := modeWrite_init_applies inInit
    rw [applies]
    refine ⟨?_, fun _ => ⟨applyMode_offer .., rd_applyMode_init_integrating ..⟩, fun m other => ?_⟩
    · exact (canMode_applyMode _ n 0 n).trans (canMode_wr_same _ 0 n)
    · have apart : m.val ≠ n.val := fun same => other (Fin.ext same)
      exact (canMode_applyMode _ n 0 m).trans ((canMode_wr_other _ 0 apart).trans (canMode_initWritten _ n m))

end Sys2Proof.Machine

/-! SUPPORT. A host write into CAN message memory (R99, R113), by the regions its bytes meet. -/

namespace Sys2Proof.Machine

/-- The region of the transmit elements (Table 4.1). -/
def Partition.txRegion (p : Partition) : Nat × Nat := (p.txAt 0, p.txCount * (32 + dataSize p.txSize))

theorem Partition.txRegion_mem (p : Partition) : p.txRegion ∈ p.regions := by simp [Partition.txRegion, Partition.regions]

/-- A write of a width and an alignment that R99 allows, within the channel's 64 KiB. -/
def AcceptedWrite (a : Nat) (bs : Bytes) : Prop := bs.length ∈ [1, 2, 4, 8] ∧ a % bs.length = 0 ∧ a + bs.length ≤ 65536

/-- The test by which `hostMemWrite` ignores a write. -/
theorem ignoresWrite_iff (a : Nat) (bs : Bytes) :
    (!(bs.length == 1 || bs.length == 2 || bs.length == 4 || bs.length == 8) || a % bs.length ≠ 0 ||
      65536 < a + bs.length) = true ↔ ¬AcceptedWrite a bs := by
  simp only [AcceptedWrite, Bool.or_eq_true, Bool.not_eq_true', Bool.or_eq_false_iff, beq_eq_false_iff_ne, decide_eq_true_eq,
    List.mem_cons, List.not_mem_nil, or_false]
  omega

theorem hostMemWrite_ignored {a : Nat} {bs : Bytes} (s : State) (n : Nat) (h : ¬AcceptedWrite a bs) :
    hostMemWrite s n a bs = s :=
  if_pos ((ignoresWrite_iff a bs).mpr h)

theorem AcceptedWrite.nonempty {a : Nat} {bs : Bytes} (h : AcceptedWrite a bs) : 0 < bs.length := by
  obtain ⟨width, -⟩ := h
  exact List.length_pos_iff.mpr (by rintro rfl; simp at width)

theorem AcceptedWrite.inMemory {a : Nat} {bs : Bytes} (h : AcceptedWrite a bs) : a < 65536 := by
  have nonempty := h.nonempty
  obtain ⟨-, -, fits⟩ := h
  omega

/-- What a host write does with its byte `i` where that is not one of a transmit element (Table 4.1). -/
def putBesideTx (p : Partition) (n a : Nat) (bs : Bytes) (s : State) (i : Nat) : State :=
  if p.regions.any (fun r => inRegion r (a + i)) then s else mmWrite s n (a + i) [bs.getD i 0#8]

theorem hostMemWrite_besideTx {s : State} {n a : Nat} {bs : Bytes} (accepted : AcceptedWrite a bs)
    (beside : ∀ k, k < bs.length → inRegion (partOf s n).txRegion (a + k) = false) :
    hostMemWrite s n a bs = (List.range bs.length).foldl (putBesideTx (partOf s n) n a bs) s := by
  have taken := mt (ignoresWrite_iff a bs).mp fun ignored => ignored accepted
  have first := beside 0 accepted.nonempty
  have last := beside (bs.length - 1) (Nat.sub_lt accepted.nonempty Nat.one_pos)
  rw [← Nat.add_sub_assoc accepted.nonempty] at last
  simp only [Partition.txRegion, Nat.add_zero] at beside first last
  simp only [hostMemWrite, taken, first, last, Bool.false_and]
  refine List.foldl_rel (r := Eq) rfl fun i mem u _ same => ?_
  simp [← same, putBesideTx, beside i (List.mem_range.mp mem)]

/-- A write that meets regions other than the transmit one only is ignored. -/
theorem hostMemWrite_inOtherRegions {s : State} {n a : Nat} {bs : Bytes}
    (beside : ∀ k, k < bs.length → inRegion (partOf s n).txRegion (a + k) = false)
    (inside : ∀ k, k < bs.length → ∃ r ∈ (partOf s n).regions, inRegion r (a + k) = true) :
    hostMemWrite s n a bs = s := by
  by_cases accepted : AcceptedWrite a bs
  case neg => exact hostMemWrite_ignored s n accepted
  rw [hostMemWrite_besideTx accepted beside]
  refine List.foldlRecOn _ _ (motive := (· = s)) rfl fun u same i mem => ?_
  rw [putBesideTx, if_pos (List.any_eq_true.mpr (inside i (List.mem_range.mp mem))), same]

theorem mmAddr_of_lt {a : Nat} (n : Nat) (h : a < 65536) : mmAddr n a = n * 65536 + a := by
  rw [mmAddr, Nat.mod_eq_of_lt h]

/-- Bytes stored one by one are stored together where they lie within the channel's 64 KiB. -/
theorem foldl_mmWrite {n a : Nat} {bs : Bytes} (s : State) (fits : a + bs.length ≤ 65536) :
    (List.range bs.length).foldl (fun s i => mmWrite s n (a + i) [bs.getD i 0#8]) s = mmWrite s n a bs := by
  induction bs generalizing s a with
  | nil => rfl
  | cons b bs ih =>
    simp only [List.length_cons] at fits
    have rest := ih (a := a + 1) (mmWrite s n a [b]) (by omega)
    have joined : mmWrite (mmWrite s n a [b]) n (a + 1) bs = mmWrite s n a (b :: bs) := by
      cases bs with
      | nil => rfl
      | cons c cs =>
        simp only [List.length_cons] at fits
        have next : mmAddr n (a + 1) = mmAddr n a + 1 := by
          rw [mmAddr_of_lt n (by omega), mmAddr_of_lt n (by omega), Nat.add_assoc]
        simp only [mmWrite, Memory.writeBytes, next]
    rw [← joined, ← rest, List.length_cons, List.range_succ_eq_map, List.foldl_cons, List.foldl_map]
    simp [Nat.add_right_comm, Nat.add_assoc]

/-- A write that meets no region stores its bytes. -/
theorem hostMemWrite_outsideRegions {s : State} {n a : Nat} {bs : Bytes} (accepted : AcceptedWrite a bs)
    (outside : ∀ r ∈ (partOf s n).regions, ∀ k, k < bs.length → inRegion r (a + k) = false) :
    hostMemWrite s n a bs = mmWrite s n a bs := by
  have ⟨_, _, fits⟩ := accepted
  rw [hostMemWrite_besideTx accepted (outside _ (Partition.txRegion_mem _)), ← foldl_mmWrite s fits]
  refine List.foldl_rel (r := Eq) rfl fun i mem u _ same => same ▸ if_neg ?_
  rw [Bool.not_eq_true, List.any_eq_false]
  intro r region
  simp [outside r region i (List.mem_range.mp mem)]

end Sys2Proof.Machine

/-! SUPPORT. The statements on CAN message memory, settled. -/

namespace Sys2Proof.Machine

/-- Settles O47: the wrapper of each row is passed where what the row needs runs; a frame is accepted without one. -/
theorem canMemoryComplete : Obligations.CanMemoryComplete := by
  refine ⟨?accepted, ?stored, ?fifoAck, ?eventAck, ?mailboxClear, ?hostWrite, ?filterWrite, ?filterRead⟩
  case accepted => exact fun _ _ _ _ => done_eq _
  case stored => exact fun _ _ _ on => running_on on
  case mailboxClear => exact fun _ _ _ _ on => running_on on
  case eventAck | hostWrite => exact fun _ _ _ _ _ on => running_on on
  case fifoAck => exact fun _ _ _ _ _ _ on => running_on on
  case filterWrite | filterRead => exact fun _ _ _ _ h => exec_executes rfl h

/-- Settles O23: each clause is a case of the host's write; where it stores its bytes, they are read back from the channel's
64 KiB. -/
theorem canMemoryWrites : Obligations.CanMemoryWrites := by
  obtain ⟨-, -, -, -, -, row, -⟩ := canMemoryComplete
  refine ⟨?unnatural, ?outside, ?otherRegions⟩
  case unnatural =>
    intro t n off d s on h
    rw [row t n off d s on, hostMemWrite_ignored _ n fun ⟨width, aligned, _⟩ => h ⟨width, aligned⟩]
  case outside =>
    rintro t n off d s v on rfl width aligned fits wf outside
    have accepted : AcceptedWrite off d := ⟨width, aligned, fits⟩
    have stored := hostMemWrite_outsideRegions accepted outside
    have memory : (settle (hostMemWrite (arrive t s) n off d)).mem =
        Memory.writeBytes (arrive t s).mem (n.val * 65536 + off) d := by
      rw [(settle_untouched _).mem, stored, mmWrite, mmAddr_of_lt _ accepted.inMemory]
    refine ⟨_, row t n off d s on, ?_, fun k hk => ?_, fun a ha => ?_, ?_⟩
    · exact memory ▸ Memory.writeBytes_wf d _ _ wf
    · rw [memory, Memory.read_writeBytes_same d _ _ k wf hk]
    · rw [memory, Memory.read_writeBytes_other d _ _ a ha]
    · have ended := settle_untouched (hostMemWrite (arrive t s) n off d)
      rw [ended.regs, ended.can, ended.ba, ended.sg, stored]
      exact ⟨rfl, rfl, rfl, rfl⟩
  case otherRegions =>
    rintro t n off d s v on rfl met
    rw [row t n off d s on, hostMemWrite_inOtherRegions (fun k hk => (met k hk).1) (fun k hk => (met k hk).2)]

end Sys2Proof.Machine

/-! SUPPORT. Signal slots (R126) read after one is set. -/

namespace Sys2Proof.Machine

@[simp] theorem slotOf_setSlot_same (s : State) (n : Nat) (x : Slot) : slotOf (setSlot s n x) n = x :=
  Tab.get_set_same s.sg.slots n Slot.blank x

theorem slotOf_setSlot_other {n m : Nat} (s : State) (x : Slot) (h : m ≠ n) : slotOf (setSlot s n x) m = slotOf s m :=
  Tab.get_set_other s.sg.slots n m Slot.blank Slot.blank x h

/-- A slot is what the signal gateway's block holds of it. -/
theorem slotOf_congr {s u : State} (h : u.sg = s.sg) : slotOf u = slotOf s := by
  funext n
  simp only [slotOf, h]

end Sys2Proof.Machine

/-! SUPPORT. The statements on the signal gateway and the check channels, settled. -/

namespace Sys2Proof.Machine

/-- Settles O48: the wrapper of each row is passed where what the row needs runs. -/
theorem signalsComplete : Obligations.SignalsComplete := by
  refine ⟨?recordSend, ?recordReceived, ?tableWrite, ?tableRead, ?routeAdd, ?routeDel, ?routeFind, ?slotRead, ?slotWrite,
    ?slotConfig, ?ndClear, ?checkWrite, ?checkRead, ?checkResync⟩
  case recordSend | ndClear => exact fun _ _ _ on => running_on on
  case recordReceived => exact fun _ _ _ _ on => running_on on
  case tableWrite | tableRead | routeAdd | routeDel | routeFind | slotRead | slotWrite | slotConfig | checkWrite | checkRead |
      checkResync => exact fun _ _ _ _ h => exec_executes rfl h

/-- Settles O22: the row sets the one slot, and the end of the command leaves the slots and all else that is named. -/
theorem slotNdClear : Obligations.SlotNdClear := by
  rintro t n s v on rfl
  obtain ⟨-, -, -, -, -, -, -, -, -, -, row, -⟩ := signalsComplete
  have ended := settle_untouched (ndClear n (arrive t s))
  refine ⟨_, row t n s on, ?_, fun m other => ?_, ?_⟩
  · rw [slotOf_congr ended.sg]
    exact slotOf_setSlot_same ..
  · rw [slotOf_congr ended.sg]
    exact slotOf_setSlot_other _ _ other
  · rw [ended.sg, ended.mem, ended.ba, ended.regs, ended.can, ended.sw, ended.ft, ended.cx]
    exact ⟨rfl, fun _ => rfl, fun _ => rfl, rfl, rfl, rfl, rfl, rfl⟩

end Sys2Proof.Machine

/-! SUPPORT. The statement on templates, rate limiters and streams, settled. -/

namespace Sys2Proof.Machine

/-- Settles O49: the wrapper of each row is passed where what the row needs runs, Doze included for a cycle's instant (R165). -/
theorem egressComplete : Obligations.EgressComplete := by
  refine ⟨?cycle, ?minInterval, ?refill, ?rateWrite, ?trigger, ?extend, ?ageQuery, ?pduSeal, ?mirrorWrite⟩
  case cycle => exact fun _ _ _ _ on => inDoze_on on
  case minInterval | refill | pduSeal => exact fun _ _ _ on => running_on on
  case rateWrite | mirrorWrite => exact fun _ _ _ _ on => running_on on
  case trigger | extend | ageQuery => exact fun _ _ _ _ h => exec_executes rfl h

end Sys2Proof.Machine

/-! SUPPORT. The 64-bit counters (R207): what a read at a LO half puts out, latches and clears. -/

namespace Sys2Proof.Machine

/-- Every port's receive octet counter has its LO half at the port's own copy of ETH_RX_OCTETS_LO. -/
theorem octetCounter_rxOctets (port : Fin 12) :
    octetCounter (0x80100 + 0x1000 * port.val) = some (Reg.ETH_RX_OCTETS.value, port.val) := by
  revert port
  decide

/-- The copies of a field of one stride lie under keys of their own. -/
theorem Fld.key_ne_of_stride {f : Fld} {i k : Nat} (stride : 0 < f.s1) (other : k ≠ i) : f.key k 0 ≠ f.key i 0 := by
  intro same
  have product : f.s1 * k = f.s1 * i := by
    simp only [Fld.key] at same
    omega
  exact other (Nat.eq_of_mul_eq_mul_left stride product)

/-- The latched high halves are kept in the switch's block. -/
theorem shadowWord_congr {s u : State} (h : u.sw = s.sw) : shadowWord u = shadowWord s := by
  funext a
  simp only [shadowWord, h]

section
variable {a i : Nat} {f : Fld} (at_ : octetCounter a = some (f, i))
include at_

theorem octetReadOp_counter (wide speculative : Bool) (s : State) :
    octetReadOp a wide speculative s =
      emit (octetRead a wide speculative s) (.pcieCompletion 16 0 (leBytes (if wide then 8 else 4) (rd s f i))) := by
  simp only [octetReadOp, at_]

/-- A read that is not speculative leaves the counter 0, a speculative one leaves it as it was. -/
theorem rd_octetRead_same (wide speculative : Bool) (s : State) :
    rd (octetRead a wide speculative s) f i = if speculative then rd s f i else 0 := by
  simp only [octetRead, at_]
  cases speculative
  case false => exact (rd_wr_same ..).trans (Nat.zero_mod _)
  case true => cases wide <;> rfl

theorem rd_octetRead_other {g : Fld} {k m : Nat} (wide speculative : Bool) (s : State) (other : g.key k m ≠ f.key i 0) :
    rd (octetRead a wide speculative s) g k m = rd s g k m := by
  simp only [octetRead, at_]
  cases speculative
  case false => exact (rd_wr_other _ _ _ _ _ _ _ _ other).trans (by cases wide <;> rfl)
  case true => cases wide <;> rfl

/-- After a 4-byte read the HI offset shows the high half the counter had. -/
theorem shadowWord_octetRead (speculative : Bool) (s : State) :
    shadowWord (octetRead a false speculative s) (a + 4) = some (rd s f i / 2 ^ 32) := by
  have latched : (octetRead a false speculative s).sw.shadows = Tab.put s.sw.shadows a (rd s f i / 2 ^ 32) := by
    simp only [octetRead, at_]
    cases speculative <;> rfl
  simp [shadowWord, at_, latched, Tab.get, Tab.find_put_same]

/-- A read of a counter leaves the memory, the forwarding tables and the parse engines. -/
theorem octetRead_frame (wide speculative : Bool) (s : State) :
    (octetRead a wide speculative s).mem = s.mem ∧ (octetRead a wide speculative s).ft = s.ft ∧
      (octetRead a wide speculative s).pe = s.pe := by
  simp only [octetRead, at_]
  cases wide <;> cases speculative <;> exact ⟨rfl, rfl, rfl⟩

end

end Sys2Proof.Machine

/-! SUPPORT. The statements on the Ethernet ports and the switch core, settled. -/

namespace Sys2Proof.Machine

/-- Settles O50: the wrapper of each row is passed where what the row needs runs; a link goes down without one, and a frame is
received where no low-power entry is under way besides. -/
theorem ethernetComplete : Obligations.EthernetComplete := by
  refine ⟨?cfgWrite, ?linkUp, ?linkDown, ?received, ?frameStart, ?frameEnd, ?gateEntry, ?configChange, ?recoveryReset, ?mirrorWrite,
    ?octetRead, ?gclWrite, ?gclRead, ?tableWrite, ?tableRead⟩
  case linkDown => exact fun _ _ _ _ _ => done_eq _
  case received => exact fun _ _ _ _ on awake => receiving_on on awake
  case gateEntry | configChange | recoveryReset => exact fun _ _ _ on => running_on on
  case cfgWrite | linkUp | frameStart | frameEnd | mirrorWrite => exact fun _ _ _ _ on => running_on on
  case octetRead => exact fun _ _ _ _ _ on => running_on on
  case gclWrite | gclRead | tableWrite | tableRead => exact fun _ _ _ _ h => exec_executes rfl h

/-- Settles O42: the row reads the port's own counter, and the end of the command leaves the registers and the latched halves. -/
theorem octetCounters : Obligations.OctetCounters := by
  rintro t port wide speculative s v on rfl
  obtain ⟨-, -, -, -, -, -, -, -, -, -, row, -⟩ := ethernetComplete
  have at_ := octetCounter_rxOctets port
  rw [row t _ wide speculative s on, octetReadOp_counter at_]
  generalize leBytes (if wide then 8 else 4) (rd (arrive t s) Reg.ETH_RX_OCTETS.value port) = bytes
  have ended := settle_untouched
    (emit (octetRead (0x80100 + 0x1000 * port.val) wide speculative (arrive t s)) (.pcieCompletion 16 0 bytes))
  obtain ⟨mem, ft, pe⟩ := octetRead_frame at_ wide speculative (arrive t s)
  refine ⟨_, rfl, mem_settle_out ?completion, ?latch, ?counter, ?others, ended.mem.trans mem, ended.ft.trans ft, ended.pe.trans pe⟩
  case completion => exact List.mem_append_right _ (List.mem_singleton_self _)
  case latch =>
    rintro rfl
    rw [shadowWord_congr ended.sw, show 0x80104 + 0x1000 * port.val = 0x80100 + 0x1000 * port.val + 4 by omega]
    exact shadowWord_octetRead at_ speculative (arrive t s)
  case counter =>
    rw [rd_settle, rd_emit]
    exact rd_octetRead_same at_ wide speculative (arrive t s)
  case others =>
    intro q other
    rw [rd_settle, rd_emit]
    exact rd_octetRead_other at_ wide speculative (arrive t s) (Fld.key_ne_of_stride (by decide) (Fin.val_ne_of_ne other))

end Sys2Proof.Machine

/-! SUPPORT. What the ageing sweep's operations on a sparse table find afterwards, and which entries the sweep removes (R239). -/

namespace Sys2Proof.Machine

/-- Every entry stays at its number, changed. -/
theorem Tab.find_mapAll {α β : Type} (f : Nat → α → β) (t : Tab α) (k : Nat) :
    Tab.find (Tab.mapAll f t) k = (Tab.find t k).map (f k) := by
  induction t with
  | nil => rfl
  | cons p t ih =>
    obtain ⟨n, x⟩ := p
    rw [Tab.mapAll] at ih
    simp only [Tab.mapAll, List.map_cons, Tab.find, ih]
    split
    case isTrue here => rw [here, Option.map_some]
    case isFalse => rfl

/-- A table that rises from above `b` lists no number up to `b`. -/
theorem Tab.find_none_of_risesFrom {α : Type} {t : Tab α} {b k : Nat} (rises : Tab.risesFrom (some b) t = true) (low : k ≤ b) :
    Tab.find t k = none := by
  induction t generalizing b with
  | nil => rfl
  | cons p t ih =>
    obtain ⟨n, x⟩ := p
    obtain ⟨above, rest⟩ := by simpa [Tab.risesFrom] using rises
    rw [Tab.find, if_neg (by omega), ih rest (by omega)]

/-- In a table in canonical form an entry stands once, so that it is found among those kept exactly where it is kept itself. -/
theorem Tab.find_keep {α : Type} (p : Nat → α → Bool) {t : Tab α} {b : Option Nat}
    (rises : Tab.risesFrom b t = true) (k : Nat) : Tab.find (Tab.keep p t) k = (Tab.find t k).filter (p k) := by
  induction t generalizing b with
  | nil => rfl
  | cons e t ih =>
    obtain ⟨n, x⟩ := e
    have rest : Tab.risesFrom (some n) t = true := by
      cases b with
      | none => exact rises
      | some _ => exact ((Bool.and_eq_true _ _).mp rises).2
    have later := ih rest
    rw [Tab.keep] at later
    rw [Tab.keep, List.filter_cons]
    by_cases here : n = k
    · subst here
      have once := Tab.find_none_of_risesFrom rest n.le_refl
      by_cases kept : p n x = true <;> simp [Tab.find, Option.filter, later, once, kept]
    · by_cases kept : p n x = true <;> simp [Tab.find, later, here, kept]

/-- The ages of the second count are those of the seconds (R235, R239). -/
theorem secondCount_age (s : State) (e : Nat) :
    (secondCount s + 65536 - L2.lastSeen e) % 65536 = (s.now / sec + 65536 - L2.lastSeen e) % 65536 := by
  have seen : L2.lastSeen e < 65536 := Nat.mod_lt _ (by decide)
  simp only [secondCount]
  generalize s.now / sec = seconds
  omega

theorem aged_iff {e : Nat} (s : State) (valid : L2.valid e = true) :
    aged s e = true ↔ L2.static e = false ∧ rd s Reg.FT_AGE_CFG.age_s ≠ 0 ∧ l2Locked s = false ∧
      rd s Reg.FT_AGE_CFG.age_s ≤ (s.now / sec + 65536 - L2.lastSeen e) % 65536 := by
  simp only [aged, valid, secondCount_age, Bool.and_eq_true, bne_iff_ne, Bool.not_eq_true', decide_eq_true_eq, and_true]
  constructor
  · rintro ⟨⟨⟨ages, free⟩, dynamic⟩, reached⟩
    exact ⟨dynamic, ages, free, reached⟩
  · rintro ⟨dynamic, ages, free, reached⟩
    exact ⟨⟨⟨ages, free⟩, dynamic⟩, reached⟩

/-- The sweep keeps the entries that are not aged, and changes those in place. -/
theorem ageSweep_l2 (s : State) : (ageSweep s).ft.l2 =
    Tab.mapAll (fun _ e => if L2.valid e then settleEntry s e else e) (Tab.keep (fun _ e => !aged s e) s.ft.l2) := rfl

/-- The sweep adds no entry. -/
theorem find_ageSweep_none {s : State} {i : Nat} (rises : Tab.risesFrom none s.ft.l2 = true) (free : Tab.find s.ft.l2 i = none) :
    Tab.find (ageSweep s).ft.l2 i = none := by
  rw [ageSweep_l2, Tab.find_mapAll, Tab.find_keep _ rises, free]
  rfl

/-- An entry is removed exactly if it is aged. -/
theorem find_ageSweep_removed {s : State} {i e : Nat} (rises : Tab.risesFrom none s.ft.l2 = true)
    (found : Tab.find s.ft.l2 i = some e) : Tab.find (ageSweep s).ft.l2 i = none ↔ aged s e = true := by
  simp [ageSweep_l2, Tab.find_mapAll, Tab.find_keep _ rises, found]

end Sys2Proof.Machine

/-! SUPPORT. The table locks (R251): FT_LOCK_HELD bit by bit, as FT_LOCK_WRITE takes and releases each table's lock. -/

namespace Sys2Proof.Machine

/-! ### A bit set, a bit cleared -/

theorem testBit_two_pow_add_other {v t k : Nat} (clear : v.testBit t = false) (other : k ≠ t) :
    (2 ^ t + v).testBit k = v.testBit k := by
  rcases Nat.lt_or_gt_of_ne other with below | above
  · exact Nat.testBit_two_pow_add_gt below v
  · have high : (2 ^ t + v) / 2 ^ (t + 1) = v / 2 ^ (t + 1) := by
      have even : v / 2 ^ t % 2 = 0 := by simpa [Nat.testBit_eq_decide_div_mod_eq] using clear
      rw [Nat.pow_succ, ← Nat.div_div_eq_div_mul, ← Nat.div_div_eq_div_mul, Nat.add_div_left _ (Nat.two_pow_pos t)]
      omega
    rw [← Nat.sub_add_cancel above, Nat.testBit_add, Nat.testBit_add, high]

theorem bitSet_orBit (v t k : Nat) : bitSet (orBit v t) k = (k == t || bitSet v k) := by
  simp only [orBit, bitSet_eq_testBit]
  by_cases same : k = t
  · subst same
    cases set : v.testBit k <;> simp [set, Nat.add_comm v, Nat.testBit_two_pow_add_eq]
  · cases clear : v.testBit t
    case true => simp [same]
    case false => simp [same, Nat.add_comm v, testBit_two_pow_add_other clear same]

theorem bitSet_clrBit (v t k : Nat) : bitSet (clrBit v t) k = (k != t && bitSet v k) := by
  simp only [clrBit, bitSet_eq_testBit]
  cases set : v.testBit t
  case false => by_cases same : k = t <;> simp [same, set]
  case true =>
    obtain ⟨u, rfl⟩ := Nat.exists_eq_add_of_le (Nat.ge_two_pow_of_testBit set)
    have clear : u.testBit t = false := by simpa [Nat.testBit_two_pow_add_eq] using set
    by_cases same : k = t
    · simp [same, clear]
    · simp [same, testBit_two_pow_add_other clear same]

theorem bitSet_mod_two_pow {v n k : Nat} (low : k < n) : bitSet (v % 2 ^ n) k = bitSet v k := by
  simp [bitSet_eq_testBit, Nat.testBit_mod_two_pow, low]

/-! ### One table's lock -/

/-- Whether the lock of table `k` is held; that of table 20 is `l2Locked`. -/
def tableHeld (s : State) (k : Nat) : Bool := bitSet (rd s Reg.FT_LOCK_HELD.held) k

theorem tableHeld_setBitF {t k : Nat} (s : State) (table : k < 32) :
    tableHeld (setBitF s Reg.FT_LOCK_HELD.held t) k = (k == t || tableHeld s k) := by
  simp only [tableHeld, setBitF, rd_wr_same]
  exact (bitSet_mod_two_pow table).trans (bitSet_orBit _ t k)

theorem tableHeld_clrBitF {t k : Nat} (s : State) (table : k < 32) :
    tableHeld (clrBitF s Reg.FT_LOCK_HELD.held t) k = (k != t && tableHeld s k) := by
  simp only [tableHeld, clrBitF, rd_wr_same]
  exact (bitSet_mod_two_pow table).trans (bitSet_clrBit _ t k)

/-- What a change of table locks leaves as it is, its requests included: everything but the locks held and the instants at which
they were taken. -/
structure LockFrame (s u : State) : Prop where
  req : rd u Reg.FT_LOCK.req = rd s Reg.FT_LOCK.req
  ft : { u.ft with lockedAt := s.ft.lockedAt } = s.ft
  mem : u.mem = s.mem
  sw : u.sw = s.sw
  cl : u.cl = s.cl

theorem LockFrame.refl (s : State) : LockFrame s s := ⟨rfl, rfl, rfl, rfl, rfl⟩

theorem LockFrame.learnQ {s u : State} (h : LockFrame s u) : u.ft.learnQ = s.ft.learnQ := by
  rw [← h.ft]

theorem LockFrame.trans {s u v : State} (a : LockFrame s u) (b : LockFrame u v) : LockFrame s v where
  req := b.req.trans a.req
  ft := by rw [← a.ft, ← b.ft]
  mem := b.mem.trans a.mem
  sw := b.sw.trans a.sw
  cl := b.cl.trans a.cl

/-- FT_LOCK_HELD is not FT_LOCK. -/
theorem wr_held_frame (s : State) (v : Nat) : LockFrame s (wr s Reg.FT_LOCK_HELD.held v) :=
  ⟨rd_wr_other _ _ _ _ _ _ _ _ (by decide), rfl, rfl, rfl, rfl⟩

theorem holdLock_frame (s : State) (t : Nat) : LockFrame s (holdLock s t) := by
  unfold holdLock
  split
  · exact LockFrame.refl s
  · exact (wr_held_frame s _).trans ⟨rfl, rfl, rfl, rfl, rfl⟩

theorem tableHeld_holdLock {t k : Nat} (s : State) (table : k < 32) :
    tableHeld (holdLock s t) k = (k == t || tableHeld s k) := by
  unfold holdLock
  split
  case isTrue held =>
    by_cases same : k = t
    · subst same
      simpa [tableHeld] using held
    · simp [same]
  case isFalse => exact tableHeld_setBitF s table

/-- Releasing table 20 applies no request where none waits (R252). -/
theorem drainLearn_unqueued {s : State} (unqueued : s.ft.learnQ = []) : drainLearn s = s := by
  have same : ({ s.ft with learnQ := [] } : FtState) = s.ft := by rw [← unqueued]
  simp only [drainLearn, unqueued, List.foldl_nil, modFt, same]

/-- A lock dropped while no learning request waits. -/
theorem dropLock_unqueued {s : State} (t : Nat) (unqueued : s.ft.learnQ = []) :
    dropLock s t = if tableHeld s t then clrBitF s Reg.FT_LOCK_HELD.held t else s := by
  have drained : drainLearn (clrBitF s Reg.FT_LOCK_HELD.held t) = _ := drainLearn_unqueued unqueued
  simp only [dropLock, drained, ite_self]
  rfl

theorem dropLock_frame {s : State} (t : Nat) (unqueued : s.ft.learnQ = []) : LockFrame s (dropLock s t) := by
  rw [dropLock_unqueued t unqueued]
  split
  · exact wr_held_frame s _
  · exact LockFrame.refl s

theorem tableHeld_dropLock {s : State} {t k : Nat} (unqueued : s.ft.learnQ = []) (table : k < 32) :
    tableHeld (dropLock s t) k = (k != t && tableHeld s k) := by
  rw [dropLock_unqueued t unqueued]
  split
  case isTrue => exact tableHeld_clrBitF s table
  case isFalse free =>
    by_cases same : k = t
    · subst same
      simpa using free
    · simp [same]

/-! ### The locks table by table -/

/-- What a write of FT_LOCK does with the lock of table `t` (R251). -/
def lockTurn (data : Nat) (s : State) (t : Nat) : State :=
  if bitSet data t then (if t = 20 then s else holdLock s t) else dropLock s t

/-- Whether a write of FT_LOCK leaves the lock of table `k` held: that of table 20 is not taken by the write. -/
def heldByWrite (data : Nat) (s : State) (k : Nat) : Bool := bitSet data k && (k != 20 || tableHeld s k)

theorem lockWrite_turns (data : Nat) (s : State) :
    lockWrite data s = (List.range 32).foldl (lockTurn data) (wr s Reg.FT_LOCK.req data) := rfl

theorem lockTurn_frame {s : State} (data t : Nat) (unqueued : s.ft.learnQ = []) : LockFrame s (lockTurn data s t) := by
  unfold lockTurn
  split
  · split
    · exact LockFrame.refl s
    · exact holdLock_frame s t
  · exact dropLock_frame t unqueued

/-- A table's turn settles its own lock and leaves the others. -/
theorem tableHeld_lockTurn {s : State} {t k : Nat} (data : Nat) (unqueued : s.ft.learnQ = []) (table : k < 32) :
    tableHeld (lockTurn data s t) k = if k = t then heldByWrite data s k else tableHeld s k := by
  unfold lockTurn heldByWrite
  by_cases same : k = t
  · subst same
    cases asked : bitSet data k
    case false => simp [tableHeld_dropLock unqueued table]
    case true => by_cases learning : k = 20 <;> simp [learning, tableHeld_holdLock s table]
  · rw [if_neg same]
    cases asked : bitSet data t
    case false => simp [tableHeld_dropLock unqueued table, same]
    case true => by_cases learning : t = 20 <;> simp [learning, tableHeld_holdLock s table, same]

theorem lockTurns_frame {s : State} (data : Nat) (unqueued : s.ft.learnQ = []) (ts : List Nat) :
    LockFrame s (ts.foldl (lockTurn data) s) :=
  List.foldlRecOn ts _ (motive := LockFrame s) (LockFrame.refl s) fun _ before t _ =>
    before.trans (lockTurn_frame data t (before.learnQ.trans unqueued))

/-- After the turns of the tables below `n` their locks are settled, and the others are as they were. -/
theorem tableHeld_lockTurns {s : State} {k : Nat} (data n : Nat) (unqueued : s.ft.learnQ = []) (table : k < 32) :
    tableHeld ((List.range n).foldl (lockTurn data) s) k = if k < n then heldByWrite data s k else tableHeld s k := by
  induction n with
  | zero => rfl
  | succ n ih =>
    have still := (lockTurns_frame data unqueued (List.range n)).learnQ.trans unqueued
    rw [List.range_succ, List.foldl_append, List.foldl_cons, List.foldl_nil, tableHeld_lockTurn data still table, heldByWrite, ih]
    by_cases here : k = n
    · simp [here, heldByWrite]
    · simp only [here, if_false, show k < n + 1 ↔ k < n by omega]

/-! ### The whole write -/

section
variable {s : State} (unqueued : s.ft.learnQ = [])
include unqueued

theorem lockWrite_frame (data : Nat) : LockFrame (wr s Reg.FT_LOCK.req data) (lockWrite data s) :=
  lockTurns_frame (s := wr s Reg.FT_LOCK.req data) data unqueued _

theorem rd_lockWrite_req (data : Nat) : rd (lockWrite data s) Reg.FT_LOCK.req = data % 2 ^ 32 :=
  (lockWrite_frame unqueued data).req.trans (rd_wr_same ..)

/-- Every lock is as the write leaves it, by the locks held before it. -/
theorem tableHeld_lockWrite {k : Nat} (data : Nat) (table : k < 32) :
    tableHeld (lockWrite data s) k = heldByWrite data s k := by
  have before : tableHeld (wr s Reg.FT_LOCK.req data) k = tableHeld s k :=
    congrArg (bitSet · k) (rd_wr_other _ _ _ _ _ _ _ _ (by decide))
  have turns := tableHeld_lockTurns (s := wr s Reg.FT_LOCK.req data) data 32 unqueued table
  rw [lockWrite_turns, turns, if_pos table, heldByWrite, before, heldByWrite]

end

end Sys2Proof.Machine

/-! SUPPORT. The statements on the forwarding tables and learning, settled. -/

namespace Sys2Proof.Machine

/-- Settles O51: the wrapper of each row is passed where what the row needs runs. -/
theorem tablesComplete : Obligations.TablesComplete := by
  refine ⟨?learn, ?sweep, ?quarantine, ?release, ?lockWrite, ?lockHeld, ?lockExpired, ?dmaTail, ?dmaCtrl, ?dmaComplete, ?nodeFree,
    ?tableWrite, ?tableRead, ?l2Add, ?l2Del, ?l2Find, ?l2Flush, ?lpmAdd, ?lpmDel, ?lpmFind⟩
  case learn | sweep | lockHeld | nodeFree => exact fun _ _ on => running_on on
  case quarantine | release | lockWrite | lockExpired | dmaTail | dmaCtrl => exact fun _ _ _ on => running_on on
  case dmaComplete => exact fun _ _ _ _ on => running_on on
  case tableWrite | tableRead | l2Add | l2Del | l2Find | l2Flush | lpmAdd | lpmDel | lpmFind =>
    exact fun _ _ _ _ h => exec_executes rfl h

/-- Settles O20: the sweep keeps the entries that are not aged, each once in the table's canonical form, and the end of the command
leaves the tables. -/
theorem ageingSweep : Obligations.AgeingSweep := by
  rintro t s v on rfl rises
  obtain ⟨-, row, -⟩ := tablesComplete
  have ended := settle_untouched (ageSweep (arrive t s))
  refine ⟨_, row t s on, fun i e found valid => ?removed, fun i free => ?added, ?frame⟩
  case removed => rw [ended.ft, find_ageSweep_removed rises found, aged_iff _ valid]
  case added => rw [ended.ft, find_ageSweep_none rises free]
  case frame =>
    rw [ended.mem, ended.ba, ended.sw, ended.pe, ended.cl, ended.sg, ended.cx]
    exact ⟨fun _ => rfl, fun _ => rfl, rfl, rfl, rfl, rfl, rfl⟩

/-- Settles O21: the write gives each table its turn, and releasing table 20 finds no learning request to apply. That bits written 0
are released at once for every table is the model's reading (log 39). -/
theorem tableLocks : Obligations.TableLocks := by
  rintro t w s v on rfl unqueued
  obtain ⟨-, -, -, -, row, -⟩ := tablesComplete
  have ended := settle_untouched (lockWrite w.toNat (arrive t s))
  have frame := lockWrite_frame unqueued w.toNat
  have held : ∀ k, k < 32 → bitSet (rd (settle (lockWrite w.toNat (arrive t s))) Reg.FT_LOCK_HELD.held) k =
      heldByWrite w.toNat (arrive t s) k := fun k table => by
    rw [rd_settle]
    exact tableHeld_lockWrite unqueued _ table
  refine ⟨_, row t w s on, ?requested, fun k other => ?atOnce, held 20 (by decide), ?tables, ended.mem.trans frame.mem,
    ended.sw.trans frame.sw, ended.cl.trans frame.cl⟩
  case requested => rw [rd_settle, rd_lockWrite_req unqueued, Nat.mod_eq_of_lt w.isLt]
  case atOnce =>
    rw [held k k.isLt]
    simp [heldByWrite, other]
  case tables =>
    rw [ended.ft]
    exact frame.ft

end Sys2Proof.Machine

/-! SUPPORT. The branches of the parse engines (R266, R268): a general register as 32 bits, the next instruction of a ready engine, and
what a branch makes of it. -/

namespace Sys2Proof.Machine

/-! ### General registers as 32 bits -/

theorem Engine.gr_lt (g : Engine) (a : Nat) : g.gr a < 2 ^ 32 := by
  unfold Engine.gr
  split
  · exact Nat.two_pow_pos 32
  · exact Nat.mod_lt _ (Nat.two_pow_pos 32)

@[simp] theorem reg32_toNat (g : Engine) (a : Nat) : (reg32 g a).toNat = g.gr a :=
  (BitVec.toNat_ofNat ..).trans (Nat.mod_eq_of_lt (g.gr_lt a))

/-- A register is compared with a 32-bit value as a number. -/
theorem reg32_beq_toNat (g : Engine) (a : Nat) (v : BitVec 32) : (reg32 g a == v) = (g.gr a == v.toNat) := by
  rw [Bool.eq_iff_iff, beq_iff_eq, beq_iff_eq, ← BitVec.toNat_inj, reg32_toNat]

theorem reg32_beq (g : Engine) (a b : Nat) : (reg32 g a == reg32 g b) = (g.gr a == g.gr b) := by
  rw [reg32_beq_toNat, reg32_toNat]

theorem reg32_beq_imm (g : Engine) (a : Nat) (imm : Fin 256) : (reg32 g a == BitVec.ofNat 32 imm) = (g.gr a == imm) := by
  rw [reg32_beq_toNat, BitVec.toNat_ofNat, Nat.mod_eq_of_lt (by omega)]

theorem reg32_ult (g : Engine) (a b : Nat) : (reg32 g a).ult (reg32 g b) = decide (g.gr a < g.gr b) := by
  simp [BitVec.ult]

theorem reg32_bit (g : Engine) (a k : Nat) : (reg32 g a).getLsbD k = bitSet (g.gr a) k := by
  rw [bitSet_eq_testBit, ← reg32_toNat, BitVec.testBit_toNat]

/-! ### The engines after one is set -/

@[simp] theorem engineAt_setEngine_same (s : State) (e : Nat) (g : Engine) : engineAt (setEngine s e g) e = g := by
  simp [engineAt, setEngine, modPe, Tab.get, Tab.find_put_same]

theorem engineAt_setEngine_other {e x : Nat} (s : State) (g : Engine) (h : x ≠ e) :
    engineAt (setEngine s e g) x = engineAt s x := by
  simp [engineAt, setEngine, modPe, Tab.get, Tab.find_put_other _ _ _ _ h]

theorem engineAt_congr {s u : State} (h : u.pe = s.pe) : engineAt u = engineAt s := by
  funext e
  simp only [engineAt, h]

/-! ### The next instruction of a ready engine -/

/-- A ready engine whose memory shows no error executes its next instruction (R268, R274). -/
theorem runInstr_ready {s : State} {e cost : Nat} (word : State → Engine → Nat) (eff : Effect) (ready : PeReady s e cost) :
    runInstr e 0 word eff s = execute s e (engineAt s e) eff := by
  obtain ⟨frame, halted, waiting, breakpoint, -⟩ := ready
  have unstopped : (if (engineAt s e).pastBp then none else breakpointAt (engineAt s e)) = none := by
    rcases breakpoint with past | unmatched
    · rw [if_pos past]
    · rw [unmatched, ite_self]
  have running : ((engineAt s e).frame.isNone || (engineAt s e).halted || (engineAt s e).waiting) = false := by
    simp [Option.isNone_eq_false_iff.mpr frame, halted, waiting]
  simp [runInstr, running, unstopped, executeOver]

/-- An instruction of no more slots than an engine is ready for makes no overrun (R269). -/
theorem PeReady.withinBudget {s : State} {e cost c : Nat} (ready : PeReady s e cost) (within : c ≤ cost) :
    (!(engineAt s e).detached && decide (rd s Reg.PE_CTRL.max_slots < (engineAt s e).slots + c)) = false := by
  rcases ready.budget with detached | budget
  · simp [detached]
  · simp [show ¬rd s Reg.PE_CTRL.max_slots < (engineAt s e).slots + c by omega]

/-- The engine past a branch, by whether it is taken (R266, R268). -/
def Engine.branched (g : Engine) (taken : Bool) (target : Nat) : Engine :=
  { g with
    slots := g.slots + (if taken then 2 else 1)
    pc := if taken then target else (g.pc + 1) % 16384
    pastBp := false }

/-- A branch of a ready engine counts its slots and leads the engine on. -/
theorem runInstr_branchIf {s : State} {e : Nat} (word : State → Engine → Nat) (p : Engine → Bool) (target : Nat)
    (ready : PeReady s e 2) :
    runInstr e 0 word (Pe.branchIf p target) s =
      setEngine (bumpBy s Reg.PE_STAT_SLOTS.value (if p (engineAt s e) then 2 else 1)) e
        ((engineAt s e).branched (p (engineAt s e)) target) := by
  rw [runInstr_ready word _ ready]
  cases taken : p (engineAt s e)
  case true =>
    have within := ready.withinBudget (c := 2) (by decide)
    simp only [execute, Pe.branchIf, taken, within, Engine.branched, if_true, if_false, Bool.false_eq_true]
  case false =>
    have within := ready.withinBudget (c := 1) (by decide)
    simp only [execute, Pe.branchIf, taken, within, Engine.branched, if_false, Bool.false_eq_true]

/-- Each branch runs, as its engine's next instruction, the branch on the condition Table 10.5 gives it. -/
theorem exec_branch {i : Instr} {g : Engine} {e : Fin 24} {mem : Fin 5} {taken : Bool} {target : Fin 16384} {s : State}
    (h : peBranch i g = some (e, mem, taken, target)) (on : operating s = true) :
    ∃ p : Engine → Bool, p g = taken ∧ exec i s = done (runInstr e mem noWord (Pe.branchIf p target) s) := by
  cases i <;> cases h
  case beq a b => exact ⟨fun g => g.gr a == g.gr b, (reg32_beq ..).symm, runningNow_on on⟩
  case bne a b => exact ⟨fun g => g.gr a != g.gr b, congrArg not (reg32_beq ..).symm, runningNow_on on⟩
  case bltu a b => exact ⟨fun g => decide (g.gr a < g.gr b), (reg32_ult ..).symm, runningNow_on on⟩
  case bgeu a b =>
    refine ⟨fun g => decide (g.gr b ≤ g.gr a), ?_, runningNow_on on⟩
    rw [reg32_ult, ← decide_not, decide_eq_decide, Nat.not_lt]
  case beqi a imm => exact ⟨fun g => g.gr a == imm, (reg32_beq_imm ..).symm, runningNow_on on⟩
  case bnei a imm => exact ⟨fun g => g.gr a != imm, congrArg not (reg32_beq_imm ..).symm, runningNow_on on⟩
  case bbs a bit => exact ⟨fun g => bitSet (g.gr a) bit, (reg32_bit ..).symm, runningNow_on on⟩
  case bbc a bit => exact ⟨fun g => !bitSet (g.gr a) bit, congrArg not (reg32_bit ..).symm, runningNow_on on⟩
  case jmp => exact ⟨fun _ => true, rfl, runningNow_on on⟩

end Sys2Proof.Machine

/-! SUPPORT. The statements on the parse engines, settled. -/

namespace Sys2Proof.Machine

/-- Settles O52: the wrapper of each row is passed where what the row needs runs; the instruction rows have no instant of their
own. -/
theorem parseComplete : Obligations.ParseComplete := by
  refine ⟨?frameReady, ?dispatch, ?nop, ?add, ?sub, ?and, ?or, ?xor, ?shl, ?shr, ?addi, ?andi, ?ori, ?xori, ?movi, ?movhi, ?shli,
    ?shri, ?ext, ?ins, ?ldw, ?setc, ?advc, ?getc, ?ldm, ?emit, ?emitf, ?lkt, ?beq, ?bne, ?bltu, ?bgeu, ?beqi, ?bnei, ?bbs, ?bbc,
    ?jmp, ?ended, ?drop, ?rcirc, ?dbgHalt, ?dbgResume, ?dbgStep, ?loadOpen, ?loadChunk, ?loadClose, ?bankSwitch, ?bankDrained⟩
  case nop | ended => exact fun _ _ _ on => runningNow_on on
  case getc | jmp | drop => exact fun _ _ _ _ on => runningNow_on on
  case movi | setc | advc | ldm | emit | rcirc => exact fun _ _ _ _ _ on => runningNow_on on
  case add | sub | and | or | xor | shl | shr | addi | andi | ori | xori | movhi | shli | shri | lkt =>
    exact fun _ _ _ _ _ _ on => runningNow_on on
  case beq | bne | bltu | bgeu | beqi | bnei | bbs | bbc => exact fun _ _ _ _ _ _ on => runningNow_on on
  case ext | ins | ldw | emitf => exact fun _ _ _ _ _ _ _ on => runningNow_on on
  case dbgHalt | dbgResume => exact fun _ _ on => running_on on
  case dbgStep | bankDrained => exact fun _ _ _ on => running_on on
  case frameReady | dispatch => exact fun _ _ _ _ on => running_on on
  case loadOpen | loadChunk | loadClose | bankSwitch => exact fun _ _ _ _ h => exec_executes rfl h

/-- Settles O17: the row leads its one engine on, and the end of the command leaves the engines and all else that is named. -/
theorem peBranches : Obligations.PeBranches := by
  intro i e target taken s branch on ready
  obtain ⟨p, rfl, row⟩ := exec_branch branch on
  have led := runInstr_branchIf noWord p target ready
  have ended := settle_untouched (runInstr e 0 noWord (Pe.branchIf p target) s)
  rw [led] at ended
  refine ⟨_, row.trans (congrArg done led), ?engine, fun x other => ?others, ended.mem, ended.sw, settle_now _⟩
  case engine => rw [engineAt_congr ended.pe, engineAt_setEngine_same, Engine.branched]
  case others => rw [engineAt_congr ended.pe, engineAt_setEngine_other _ _ other, engineAt_congr (bumpBy_pe ..)]

end Sys2Proof.Machine

/-! SUPPORT. The entry that decides a frame (R282): a match bit by bit, the order of priority and rule ID as one number, and the least
element of a list. -/

namespace Sys2Proof.Machine

/-! ### The least element by a measure -/

theorem leastBy_eq_none {α : Type} {m : α → Nat} {l : List α} : leastBy m l = none ↔ l = [] := by
  cases l with
  | nil => simp [leastBy]
  | cons a l =>
    simp only [leastBy, List.cons_ne_nil, iff_false]
    split
    · exact Option.some_ne_none a
    · split <;> exact Option.some_ne_none _

theorem leastBy_least {α : Type} {m : α → Nat} {l : List α} {a : α} (h : leastBy m l = some a) : a ∈ l ∧ ∀ b ∈ l, m a ≤ m b := by
  induction l generalizing a with
  | nil => cases h
  | cons x l ih =>
    simp only [leastBy] at h
    split at h
    next alone =>
      cases h
      simp [leastBy_eq_none.1 alone]
    next y least =>
      obtain ⟨mem, below⟩ := ih least
      split at h
      next less =>
        cases h
        exact ⟨List.mem_cons_of_mem _ mem, List.forall_mem_cons.2 ⟨Nat.le_of_lt less, below⟩⟩
      next notLess =>
        cases h
        have least_all := fun b hb => Nat.le_trans (Nat.le_of_not_lt notLess) (below b hb)
        exact ⟨List.mem_cons_self, List.forall_mem_cons.2 ⟨Nat.le_refl _, least_all⟩⟩

/-! ### A rule's fields and its rank -/

theorem leNat_lt (bs : Bytes) : leNat bs < 256 ^ bs.length := by
  induction bs with
  | nil => simp [leNat]
  | cons b bs ih =>
    have byte := b.isLt
    simp only [leNat, List.length_cons, Nat.pow_succ]
    omega

@[simp] theorem sliceBytes_length (bs : Bytes) (off n : Nat) : (sliceBytes bs off n).length = n := by
  simp only [sliceBytes, zeros, List.length_append, List.length_replicate, List.length_take, List.length_drop]
  omega

theorem leAt_lt (bs : Bytes) (off n : Nat) : leAt bs off n < 256 ^ n := by
  simpa [leAt] using leNat_lt (sliceBytes bs off n)

theorem ruleHits_iff (r : Bytes) (key : Nat) : Rule.hits r key = true ↔ matchesKey r key := by
  simp only [Rule.hits, matchesKey, bitSet_eq_testBit, beq_iff_eq]
  constructor
  · intro equal k care
    have bit := congrArg (·.testBit k) equal
    simpa [care] using bit
  · refine fun equal => Nat.eq_of_testBit_eq fun k => ?_
    cases care : (Rule.care r).testBit k
    case false => simp [care]
    case true => simp [care, equal k care]

/-- The measure by which `winner` takes the least: priority from the highest down, then rule ID. -/
def Rule.rank (r : Bytes) : Nat := (65535 - Rule.priority r) * 65536 + Rule.id r

theorem ruleRank_le_iff (a b : Bytes) : Rule.rank a ≤ Rule.rank b ↔
    Rule.priority b < Rule.priority a ∨ (Rule.priority b = Rule.priority a ∧ Rule.id a ≤ Rule.id b) := by
  have prioA : Rule.priority a < 65536 := leAt_lt a 2 2
  have prioB : Rule.priority b < 65536 := leAt_lt b 2 2
  have idA : Rule.id a < 65536 := leAt_lt a 0 2
  have idB : Rule.id b < 65536 := leAt_lt b 0 2
  unfold Rule.rank
  omega

/-! ### The entries that contend and the one that wins -/

/-- The entries among which `winner` takes the least. -/
def contenders (s : State) (t key : Nat) : List ClEntry :=
  (s.cl.entries.map Prod.snd).filter (fun e => e.live t s.cl.current && !e.broken && Rule.hits e.rule key)

theorem winner_eq_leastBy (s : State) (t key : Nat) :
    winner s t key = leastBy (fun e => Rule.rank e.rule) (contenders s t key) := rfl

theorem mem_contenders {s : State} {t key : Nat} {e : ClEntry} :
    e ∈ contenders s t key ↔ (∃ x ∈ s.cl.entries, x.2 = e) ∧ Contends s t key e := by
  simp only [contenders, List.mem_filter, List.mem_map, Bool.and_eq_true, Bool.not_eq_true', ruleHits_iff, Contends, and_assoc]

theorem winner_none_iff {s : State} {t key : Nat} : winner s t key = none ↔ ∀ x ∈ s.cl.entries, ¬Contends s t key x.2 := by
  rw [winner_eq_leastBy, leastBy_eq_none, List.eq_nil_iff_forall_not_mem]
  constructor
  · exact fun empty x mem contends => empty x.2 (mem_contenders.2 ⟨⟨x, mem, rfl⟩, contends⟩)
  · intro nowhere e mem
    obtain ⟨⟨x, entry, rfl⟩, contends⟩ := mem_contenders.1 mem
    exact nowhere x entry contends

theorem winner_best {s : State} {t key : Nat} {e : ClEntry} (won : winner s t key = some e) :
    (∃ x ∈ s.cl.entries, x.2 = e) ∧ Contends s t key e ∧ ∀ y ∈ s.cl.entries, Contends s t key y.2 →
      Rule.priority y.2.rule < Rule.priority e.rule ∨
        (Rule.priority y.2.rule = Rule.priority e.rule ∧ Rule.id e.rule ≤ Rule.id y.2.rule) := by
  obtain ⟨mem, least⟩ := leastBy_least won
  obtain ⟨entry, contends⟩ := mem_contenders.1 mem
  exact ⟨entry, contends, fun y listed rival =>
    (ruleRank_le_iff ..).1 (least y.2 (mem_contenders.2 ⟨⟨y, listed, rfl⟩, rival⟩))⟩

theorem consulted_disabled {s : State} (t key : Nat) (off : rdB s Reg.CL_CTRL.en = false) : consulted s t key = none := by
  simp [consulted, off]

theorem consulted_enabled {s : State} (t key : Nat) (on : rdB s Reg.CL_CTRL.en = true) : consulted s t key = winner s t key := by
  simp [consulted, on]

@[simp] theorem chosenAction_none (s : State) (t : Nat) : chosenAction s t none = missOf s t := rfl
@[simp] theorem chosenAction_some (s : State) (t : Nat) (e : ClEntry) : chosenAction s t (some e) = Rule.action e.rule := rfl

end Sys2Proof.Machine

/-! SUPPORT. The statements on classification and rule turns, settled. -/

namespace Sys2Proof.Machine

/-- Settles O53: the wrapper of each row is passed where what the row needs runs. -/
theorem classifyComplete : Obligations.ClassifyComplete := by
  refine ⟨?decision, ?turnOpen, ?ruleAdd, ?ruleDel, ?turnCommit, ?commitInstant, ?drainTimeout, ?turnAbort, ?ruleRead, ?missAct,
    ?scrubbed⟩
  case commitInstant | drainTimeout => exact fun _ _ on => running_on on
  case decision | missAct | scrubbed => exact fun _ _ _ _ on => running_on on
  case turnOpen | ruleAdd | ruleDel | turnCommit | turnAbort | ruleRead => exact fun _ _ _ _ h => exec_executes rfl h

/-- Settles O19: `winner` finds none exactly where no entry contends, and what it finds is the best contender by priority and rule ID
(R282); an entry contends where it is live in the frame's turn (R286) and its copy can be read (R292). -/
theorem ruleThatDecides : Obligations.RuleThatDecides := by
  refine fun s t key => ⟨fun off => ?disabled, fun on => ⟨fun nowhere => ?miss, fun somewhere => ?hit⟩⟩
  case disabled => rw [consulted_disabled t key off, chosenAction_none]
  case miss => rw [consulted_enabled t key on, winner_none_iff.2 nowhere, chosenAction_none]
  case hit =>
    rw [consulted_enabled t key on]
    cases won : winner s t key with
    | none =>
      obtain ⟨x, entry, contends⟩ := somewhere
      exact absurd contends (winner_none_iff.1 won x entry)
    | some e =>
      obtain ⟨⟨x, entry, rfl⟩, contends, best⟩ := winner_best won
      exact ⟨x, entry, contends, chosenAction_some .., best⟩

end Sys2Proof.Machine

/-! SUPPORT. The rows by what their commands need (R353, R442, R450, R454, R499, R500): each is the end of a command, under the wrapper of
its need. -/

namespace Sys2Proof.Machine

/-- What a row of state `s` comes to under a need: the end of a command, with no effect where what it needs does not run. -/
inductive Row (s : State) : Needs → Host.Outcome State Fault Refusal → Prop where
  | always (v : State) : Row s .always (done v)
  | port (v : State) : Row s .port (done v)
  | loop (t : Nat) (v : State) : Row s .loop (looping t s (done v))
  | doze (t : Nat) (v : State) : Row s .doze (inDoze t s (done v))
  | coreDie (t : Nat) (v : State) : Row s .coreDie (powered t s (done v))
  | forwarding (t : Nat) (v : State) : Row s .forwarding (running t s (done v))
  /-- a frame received -/
  | reception (t : Nat) (v : State) : Row s .forwarding (receiving t s (done v))
  /-- an instruction of a parse engine, which has no instant of its own -/
  | instruction (v : State) : Row s .forwarding (runningNow s (done v))
  | command (t op : Nat) (c : Call) (p : Bytes) (run : State → State) : Row s .command (commandRow t op c p s run)

theorem exec_row_always {i : Instr} (s : State) (h : needsOf i = .always) : Row s .always (exec i s) := by
  cases i
  case checkpointPeriod | canFrameAccepted | ethLinkDown | spiStatus | dominantTimeout | busWakePattern | swkDecodedFrame |
      wakePin | pcieWake | ethernetSignalWake | tyethSignalWake | debugTckWake | nmTimeout | nmPeriod | wakeHoldExpired |
      sleepCommit | keepAwakeOffender | switchOff | scheduleWake | scheduleHoldEnd | returnToRun | deviceStart |
      startStepTimeout | startRetry | alarm | alarmReset | supplyMonitorCrossing | wakeDieReset | resetN =>
    exact .always _
  all_goals cases h

theorem exec_row_port {i : Instr} (s : State) (h : needsOf i = .port) : Row s .port (exec i s) := by
  cases i
  case spiRegisterWrite | spiRegisterRead | spiCommandWrite | spiReplyRead | spiCommandStatus | extest | samplePreload |
      idcode | dbgAccess | dbgLevel | unlockChal | unlockResp | bypass | tapReset | cpdbgHalt | cpdbgResume | cpdbgStep |
      cpdbgMdataAccess =>
    exact .port _
  all_goals cases h

theorem exec_row_loop {i : Instr} (s : State) (h : needsOf i = .loop) : Row s .loop (exec i s) := by
  cases i
  case siSample | derateRecompute | avsReadback | avsRetry | temperatureReading => exact .loop ..
  all_goals cases h

theorem exec_row_doze {i : Instr} (s : State) (h : needsOf i = .doze) : Row s .doze (exec i s) := by
  cases i
  case cycleInstant => exact .doze ..
  all_goals cases h

theorem exec_row_coreDie {i : Instr} (s : State) (h : needsOf i = .coreDie) : Row s .coreDie (exec i s) := by
  cases i
  case registerWrite | rcCounterRead | syncReceived | residualWithin1us | syncLoss | holdoverLimitExpired |
      uncertaintySaturated | announceReceived | announceReceiptTimeout | peerDelayMessage | syncTransmission | plannerLower |
      vreq125Record | hemReplan | lifeRecordCheckpoint | lrCtrlCheckpoint | lrSnapTake | cipherTagVerified |
      streamingChunkRelease | hostBridgeReset | pcieLinkUp | windowRead | windowWrite | atomicOp | heldReadExpired |
      hbRingTailWrite | hbRingSizeWrite | cmdQpSqTailWrite | cmdQpCqHeadWrite | cmdQpCtrlWrite | cmdEvrCfgWrite | idleEntry |
      lowPowerChoice | slotEraseComplete | fabCommitTimeout | fabQueryTimer | commitAtRestart | btAltWrite |
      debugSessionExpired | readDeferred | cipherRequestCompleted =>
    exact .coreDie ..
  all_goals cases h

theorem exec_row_forwarding {i : Instr} (s : State) (h : needsOf i = .forwarding) : Row s .forwarding (exec i s) := by
  cases i
  case ethFrameReceived | fabricFrameReceived | rraRequest | inbandCommandFrame | forwardedCommand | forwardedReply =>
    exact .reception ..
  case nop | add | sub | and | or | xor | shl | shr | addi | andi | ori | xori | movi | movhi | shli | shri | ext | ins | ldw |
      setc | advc | getc | ldm | emit | emitf | lkt | beq | bne | bltu | bgeu | beqi | bnei | bbs | bbc | jmp | end_ | drop |
      rcirc =>
    exact .instruction _
  case stepApplied | canCtrlModeWrite | modeChangeAtIdle | integrationComplete | rxStoreComplete | protocolException |
      selectionPoint | rebuildComplete | canTransmitComplete | arbitrationLost | canErrorDetected | busoffHoldoffExpired |
      busoffRecovery | canTxbufReq | canTxqPut | canTxbufCancel | canTxqCancel | canRxfAck | canTxefAck | canMbNdClear |
      hostTxElementWrite | cloakIgnoredFrame | signalRecordSend | signalRecordReceived | canCopyReceived | sgNdClr |
      minIntervalExpired | tokenRefill | sgChrateWrite | acfPduSeal | sgMirrorNWrite | ethCfgWrite | ethLinkUp |
      outputFrameStart | outputFrameEnd | gateEntryChange | configChangeTime | recoveryResetTimer | swMirrorNWrite |
      octetCounterLoRead | learnEngineOperation | ageingSweep | quarantineExpired | ftPortQuarRelease | ftLockWrite | lockHeld |
      lockExpired | ftDmaTailWrite | ftDmaCtrlWrite | dmaDescriptorComplete | lpmNodeFree | frameReady | parseDispatch |
      peDbgHalt | peDbgResume | peDbgStep | bankDrained | classificationDecision | commitInstant | drainTimeout |
      clMissActWrite | ternaryScrub | tlLinkUp | tlLinkDown | protectionApplied | destinationUnreachableTimeout | helloTimer |
      helloReceived | deviceRecordTimer | deviceRecordReceived | deviceRecordExpired | electionSettled | idAssign |
      routeUpdate | routeActivate | acknowledge | sleeveClose | sleeveOpen | linkKeyOffer | linkRekeyTimer | rraResponse |
      postedWriteTimeout | npTimeout | lockReleaseTimeout | deferredResultArrival | forwardTimeout =>
    exact .forwarding ..
  all_goals cases h

/-- A command packet is what needs an executing processor (R401). -/
theorem commandOf_of_needs {i : Instr} (h : needsOf i = .command) : ∃ t op c p, commandOf i = some (t, op, c, p) := by
  cases i
  case lrReadPage | lrCheckpoint | ethGclWrite | ethGclRead | swTableWrite | swTableRead | ftTableWrite | ftTableRead |
      ftL2Add | ftL2Del | ftL2Find | ftL2Flush | ftLpmAdd | ftLpmDel | ftLpmFind | peLoadOpen | peLoadChunk | peLoadClose |
      peBankSwitch | clTurnOpen | clRuleAdd | clRuleDel | clTurnCommit | clTurnAbort | clRuleRead | cxKeyLoad | cxKeyErase |
      cxKeyInfo | cxRequest | cxVoidReg | cxVoidUnreg | cxSecpduWrite | cxFvRead | cxFvSet | cxProfileWrite | macsecPortCfg |
      macsecSaInstall | macsecSaCtrl | tfTopoRead | tfIdRelease | tfRouteRead | tfFence | tfRra | tfRekey | sysInfo | sysEcho |
      sysNonce | sysShutdown | sysRestart | sysEventRead | sysEventPush | pwrGrpState | pwrNodesRead | pwrSchedWrite |
      pwrSchedRead | updOpen | updWrite | updClose | updPrepare | updActivate | updAbort | updConfirm | updRevert | updStatus |
      updFabBegin | updFabMsg | btAltClear | settingsSave | settingsInfo | lcInfo | lcAdvance | lcReturn | lcScrap | lcRelock |
      lcVkeyWrite | lcVkeyRevoke | lcTamperClear | canSetMode | canTxEnqueue | canTxCancel | canGetState | canFltWrite |
      canFltRead | sgTableWrite | sgTableRead | sgCanrtAdd | sgCanrtDel | sgCanrtFind | sgSlotRead | sgSlotWrite |
      sgSlotConfig | sgTplTrigger | sgTplExt | sgAgeQuery | ckChWrite | ckChRead | ckChResync | pwrGrpRequest =>
    exact ⟨_, _, _, _, rfl⟩
  all_goals cases h

theorem exec_row_command {i : Instr} (s : State) (h : needsOf i = .command) : Row s .command (exec i s) := by
  obtain ⟨t, op, c, p, packet⟩ := commandOf_of_needs h
  rw [exec_command i t op c p s packet]
  exact .command t op c p _

/-- Every command's row stands under what the command needs. -/
theorem exec_row (i : Instr) (s : State) : Row s (needsOf i) (exec i s) := by
  cases h : needsOf i with
  | always => exact exec_row_always s h
  | port => exact exec_row_port s h
  | loop => exact exec_row_loop s h
  | doze => exact exec_row_doze s h
  | coreDie => exact exec_row_coreDie s h
  | forwarding => exact exec_row_forwarding s h
  | command => exact exec_row_command s h

theorem Row.ends {s : State} {n : Needs} {o : Host.Outcome State Fault Refusal} (h : Row s n o) : Ends o := by
  cases h with
  | always v | port v => exact ends_done v
  | loop t v => exact looping_ends (ends_done v)
  | doze t v => exact inDoze_ends (ends_done v)
  | coreDie t v => exact powered_ends (ends_done v)
  | forwarding t v => exact running_ends (ends_done v)
  | reception t v => exact receiving_ends (ends_done v)
  | instruction v => exact runningNow_ends (ends_done v)
  | command t op c p run => exact commandRow_ends t op c p s run

/-- An outcome with no effect: the end of a command that has at most moved the clock on. -/
def EndsIdle (s : State) (o : Host.Outcome State Fault Refusal) : Prop := ∃ now, s.now ≤ now ∧ o = done { s with now := now }

theorem endsIdle_tick (t : Nat) (s : State) : EndsIdle s (done (tick t s)) := ⟨_, Nat.le_max_left .., rfl⟩

theorem endsIdle_done (s : State) : EndsIdle s (done s) := ⟨s.now, Nat.le_refl _, rfl⟩

theorem EndsIdle.untouched {s : State} {o : Host.Outcome State Fault Refusal} (h : EndsIdle s o) :
    ∃ u, o = .next u ∧ Untouched s u ∧ s.now ≤ u.now := by
  obtain ⟨now, later, rfl⟩ := h
  have ended := settle_untouched { s with now := now }
  refine ⟨_, rfl, { ended with }, ?_⟩
  rw [settle_now]
  exact later

/-- Whether what a need names does not run, so that its commands have no effect. -/
def Needs.Off (s : State) : Needs → Prop
  | .always | .port => False
  | .loop => loopOn s = false
  | .doze => diePowered s = false
  | .coreDie | .forwarding | .command => coreOn s = false

theorem operating_off {s : State} (off : coreOn s = false) : operating s = false := by simp [operating, off]

/-- Without power the core die does not run. -/
theorem coreOn_unpowered {s : State} (off : diePowered s = false) : coreOn s = false := by
  rw [← Bool.not_eq_true] at off ⊢
  refine fun on => off ?_
  simp only [coreOn, diePowered, Bool.and_eq_true, decide_eq_true_eq] at on ⊢
  obtain ⟨⟨⟨⟨ungated, noStart⟩, -⟩, released⟩, supplied⟩ := on
  exact ⟨⟨⟨by omega, noStart⟩, released⟩, supplied⟩

theorem cycling_off {s : State} (off : diePowered s = false) : cycling s = false := by
  simp [cycling, operating_off (coreOn_unpowered off), off]

/-- A row whose need does not run has no effect. -/
theorem Row.endsIdle {s : State} {n : Needs} {o : Host.Outcome State Fault Refusal} (h : Row s n o) (off : n.Off s) :
    EndsIdle s o := by
  cases h with
  | always v | port v => exact off.elim
  | loop t v => rw [looping_off off]; exact endsIdle_tick t s
  | doze t v => rw [inDoze_off (cycling_off off)]; exact endsIdle_tick t s
  | coreDie t v => rw [powered_off off]; exact endsIdle_tick t s
  | forwarding t v => rw [running_off (operating_off off)]; exact endsIdle_tick t s
  | reception t v => rw [receiving_off (operating_off off)]; exact endsIdle_tick t s
  | instruction v => rw [runningNow_off (operating_off off)]; exact endsIdle_done s
  | command t op c p run => rw [commandRow_off off]; exact endsIdle_tick t s

end Sys2Proof.Machine

/-! SUPPORT. The statements on every command and on the step, settled. -/

namespace Sys2Proof.Machine

/-- Settles O4: every row is the end of a command, which notes the pending sources. -/
theorem everyCommandRuns : Obligations.EveryCommandRuns := by
  intro i s
  obtain ⟨v, ends⟩ := (exec_row i s).ends
  exact ⟨settle v, ends, settle_settled v⟩

/-- Settles O6: the row of a command whose need does not run has no effect. That a command finds the core die off, gated, held or in a
start and then has none is the model's reading (log 15). -/
theorem coreOffNothingHappens : Obligations.CoreOffNothingHappens := by
  intro i s stopped
  refine ((exec_row i s).endsIdle ?_).untouched
  obtain ⟨need | need | need, off⟩ | ⟨need, off⟩ | ⟨need, off⟩ := stopped
  all_goals
    rw [need]
    exact off

theorem step_cons {c : Instr} {rest : List Instr} {s : State} (queue : s.pending = c :: rest) :
    step s = exec c { s with pending := rest } := by
  rw [step, queue]

theorem step_nil {s : State} (queue : s.pending = []) : step s = idle s := by
  rw [step, queue]

theorem idle_unheld {s : State} (held : s.cmd.held = []) (subs : s.cmd.subs = []) : idle s = .next s := by
  simp [idle, held, subs]

theorem idle_held {s : State} (waits : s.cmd.held ≠ [] ∨ s.cmd.subs ≠ []) : idle s = .next (settle (pump s)) := by
  have waiting : (s.cmd.held.isEmpty && s.cmd.subs.isEmpty) = false := by
    simpa [List.isEmpty_eq_false_iff, ← imp_iff_not_or] using waits
  rw [idle, waiting]
  rfl

/-- Settles O1: the step takes its second branch. -/
theorem stepTakesFront : Obligations.StepTakesFront := fun _ _ _ queue => step_cons queue

/-- Settles O2: the two cases of `idle`, whose choice is the model's (assumption 1). -/
theorem emptyQueueIdles : Obligations.EmptyQueueIdles :=
  ⟨fun _ queue held subs => (step_nil queue).trans (idle_unheld held subs),
    fun _ queue waits => (step_nil queue).trans (idle_held waits)⟩

/-- Settles O5: a step stands still, or it is the end of a command, which notes the pending sources whatever it found noted. -/
theorem stepKeepsSettled : Obligations.StepKeepsSettled := by
  intro s u settled stepped
  cases queue : s.pending with
  | cons c rest =>
    obtain ⟨v, next, noted⟩ := everyCommandRuns c { s with pending := rest }
    rw [step_cons queue, next] at stepped
    cases stepped
    exact noted
  | nil =>
    rw [step_nil queue, idle] at stepped
    split at stepped
    case isTrue =>
      cases stepped
      exact settled
    case isFalse =>
      cases stepped
      exact settle_settled (pump s)

end Sys2Proof.Machine

/-! SUPPORT. The statements on the commands of the cipher engine, the fabric, the host bridge and SPI, the command transports, power, start
and debug, each with its own effect, settled. -/

namespace Sys2Proof.Machine

/-- Settles O54: the wrapper of each row is passed where what the row needs runs. -/
theorem cipherComplete : Obligations.CipherComplete := by
  refine ⟨?verified, ?released, ?keyLoad, ?keyErase, ?keyInfo, ?request, ?voidReg, ?voidUnreg, ?secPduWrite, ?freshnessRead,
    ?freshnessSet, ?profileWrite, ?macsecPort, ?macsecInstall, ?macsecCtrl, ?completed⟩
  case verified => exact fun _ _ _ _ _ _ on => powered_on on
  case released => exact fun _ _ _ _ on => powered_on on
  case completed => exact fun _ _ _ _ _ on => powered_on on
  case keyLoad | keyErase | keyInfo | request | voidReg | voidUnreg | secPduWrite | freshnessRead | freshnessSet |
      profileWrite | macsecPort | macsecInstall | macsecCtrl =>
    exact fun _ _ _ _ h => exec_executes rfl h

/-- Settles O55: the wrapper of each row is passed where what the row needs runs; a frame and a remote request are received where no
low-power entry is under way besides. -/
theorem fabricComplete : Obligations.FabricComplete := by
  refine ⟨?copyReceived, ?linkUp, ?linkDown, ?protection, ?unreachable, ?frameReceived, ?helloTimer, ?helloReceived, ?recordTimer,
    ?recordReceived, ?recordExpired, ?election, ?idAssign, ?routeUpdate, ?routeActivate, ?acknowledge, ?sleeveClose, ?sleeveOpen,
    ?keyOffer, ?rekeyTimer, ?remoteRequest, ?remoteResponse, ?postedTimeout, ?npTimeout, ?lockTimeout, ?topoRead, ?idRelease,
    ?routeRead, ?fence, ?remoteCommand, ?rekey⟩
  case recordTimer | election | lockTimeout => exact fun _ _ on => running_on on
  case linkUp | protection | unreachable | helloTimer | recordReceived | recordExpired | routeActivate | sleeveOpen | rekeyTimer =>
    exact fun _ _ _ on => running_on on
  case copyReceived | linkDown | helloReceived | sleeveClose | remoteResponse => exact fun _ _ _ _ on => running_on on
  case idAssign | postedTimeout | npTimeout => exact fun _ _ _ _ _ on => running_on on
  case routeUpdate | acknowledge | keyOffer => exact fun _ _ _ _ _ _ on => running_on on
  case frameReceived => exact fun _ _ _ _ _ _ on awake => receiving_on on awake
  case remoteRequest => exact fun _ _ _ _ on awake => receiving_on on awake
  case topoRead | idRelease | routeRead | fence | remoteCommand | rekey => exact fun _ _ _ _ h => exec_executes rfl h

/-- Settles O56: the wrapper of each row is passed where what the row needs runs; the SPI target besides wakes no device, and shows
its status without one. -/
theorem hostRowsComplete : Obligations.HostComplete := by
  refine ⟨?bridgeReset, ?linkUp, ?windowRead, ?windowWrite, ?atomic, ?deferred, ?heldExpired, ?ringTail, ?ringSize, ?spiWrite,
    ?spiRead, ?spiStatus, ?readDeferred⟩
  case bridgeReset | heldExpired | readDeferred => exact fun _ _ _ on => powered_on on
  case linkUp | ringSize => exact fun _ _ _ _ on => powered_on on
  case windowRead | windowWrite | ringTail => exact fun _ _ _ _ _ on => powered_on on
  case atomic => exact fun _ _ _ _ _ _ _ on => powered_on on
  case deferred => exact fun _ _ _ _ on => running_on on
  case spiWrite | spiRead => exact fun _ _ _ _ awake on => spi_on awake on
  case spiStatus => exact fun _ _ => done_eq _

/-- Settles O57: the wrapper of each row is passed where what the row needs runs; a frame or a packet from the fabric is received where
no low-power entry is under way besides. -/
theorem commandsComplete : Obligations.CommandsComplete := by
  refine ⟨?spiCommand, ?spiReply, ?spiStatus, ?sqTail, ?cqHead, ?queueCtrl, ?eventRing, ?inband, ?forwarded, ?replied, ?timeout,
    ?info, ?echo, ?nonce, ?shutdown, ?restart, ?eventRead, ?eventPush⟩
  case spiCommand | spiReply => exact fun _ _ _ awake on => spi_on awake on
  case spiStatus => exact fun _ _ awake on => spi_on awake on
  case sqTail => exact fun _ _ _ _ _ on => powered_on on
  case cqHead | queueCtrl | eventRing => exact fun _ _ _ _ on => powered_on on
  case inband | forwarded | replied => exact fun _ _ _ _ on awake => receiving_on on awake
  case timeout => exact fun _ _ _ _ on => running_on on
  case info | echo | nonce | shutdown | restart | eventRead | eventPush => exact fun _ _ _ _ h => exec_executes rfl h

/-- Settles O58: the wake die and the supplies take their rows without a wrapper; the wrapper of the others is passed where what the
row needs runs. -/
theorem powerComplete : Obligations.PowerComplete := by
  refine ⟨?dominant, ?wakePattern, ?wakeFrame, ?wakePin, ?pcieWake, ?ethernetWake, ?fabricWake, ?debugWake, ?nmTimeout, ?nmPeriod,
    ?holdExpired, ?sleepCommit, ?offender, ?groupRequest, ?groupState, ?nodesRead, ?scheduleWrite, ?scheduleRead, ?idle, ?lowPower,
    ?switchOff, ?scheduleWake, ?scheduleEnd, ?returnToRun, ?supply, ?wakeDieReset, ?resetPin⟩
  case debugWake | switchOff => exact fun _ _ => done_eq _
  case wakePattern | pcieWake | ethernetWake | fabricWake | nmPeriod | holdExpired | sleepCommit | offender | scheduleWake |
      scheduleEnd | returnToRun | wakeDieReset | resetPin =>
    exact fun _ _ _ => done_eq _
  case dominant | wakeFrame | wakePin | nmTimeout | supply => exact fun _ _ _ _ => done_eq _
  case idle | lowPower => exact fun _ _ on => powered_on on
  case groupRequest | groupState | nodesRead | scheduleWrite | scheduleRead => exact fun _ _ _ _ h => exec_executes rfl h

/-- Settles O59: a start's rows have no wrapper; that of the others is passed where what the row needs runs. -/
theorem startComplete : Obligations.StartComplete := by
  refine ⟨?deviceStart, ?stepTimeout, ?retry, ?slotErased, ?updOpen, ?updWrite, ?updClose, ?updPrepare, ?updActivate, ?updAbort,
    ?updConfirm, ?updRevert, ?updStatus, ?fabBegin, ?fabMessage, ?fabTimeout, ?fabQuery, ?commitRestart, ?altClear, ?altWrite,
    ?settingsSave, ?settingsInfo⟩
  case deviceStart | retry => exact fun _ _ _ => done_eq _
  case stepTimeout => exact fun _ _ => done_eq _
  case slotErased => exact fun _ _ _ _ on => powered_on on
  case fabTimeout | fabQuery | commitRestart => exact fun _ _ on => powered_on on
  case altWrite => exact fun _ _ _ on => powered_on on
  case updOpen | updWrite | updClose | updPrepare | updActivate | updAbort | updConfirm | updRevert | updStatus | fabBegin |
      fabMessage | altClear | settingsSave | settingsInfo =>
    exact fun _ _ _ _ h => exec_executes rfl h

/-- Settles O60: a row of the debug port is served where the port is powered; the alarms' rows have no wrapper. -/
theorem debugComplete : Obligations.DebugComplete := by
  refine ⟨?extest, ?samplePreload, ?idcode, ?access, ?level, ?challenge, ?response, ?bypass, ?tapReset, ?sessionExpired, ?halt,
    ?resume, ?step, ?mdata, ?alarm, ?alarmReset, ?info, ?advance, ?returned, ?scrap, ?relock, ?keyWrite, ?keyRevoke, ?tamperClear⟩
  case extest | samplePreload | bypass | mdata => exact fun _ _ _ _ on => tap_on on
  case idcode | challenge => exact fun _ _ on => tap_on on
  case tapReset => exact fun _ _ on => tap_on (f := fun s => setIr s 2) on
  case access | level | response | halt | resume | step => exact fun _ _ _ on => tap_on on
  case sessionExpired => exact fun _ _ on => powered_on on
  case alarm => exact fun _ _ _ _ => done_eq _
  case alarmReset => exact fun _ _ => done_eq _
  case info | advance | returned | scrap | relock | keyWrite | keyRevoke | tamperClear =>
    exact fun _ _ _ _ h => exec_executes rfl h

end Sys2Proof.Machine

/-! SUPPORT. What a row finds when its effect begins: out of Idle (R438), with the blocks as they were; and what of them stands through a
reply and the end of a command. -/

namespace Sys2Proof.Machine

/-- Every block of `u` stands as in `s` but for the life record, the fabric, the host bridge and the command transports, which also
count, time and carry what a command does besides. -/
structure BlocksStand (s u : State) : Prop where
  dt : u.dt = s.dt
  ev : u.ev = s.ev
  mp : u.mp = s.mp
  can : u.can = s.can
  mem : u.mem = s.mem
  sg : u.sg = s.sg
  ba : u.ba = s.ba
  cx : u.cx = s.cx
  sw : u.sw = s.sw
  ft : u.ft = s.ft
  pe : u.pe = s.pe
  cl : u.cl = s.cl
  wk : u.wk = s.wk
  bt : u.bt = s.bt
  lc : u.lc = s.lc

theorem BlocksStand.refl (s : State) : BlocksStand s s := ⟨rfl, rfl, rfl, rfl, rfl, rfl, rfl, rfl, rfl, rfl, rfl, rfl, rfl, rfl, rfl⟩

theorem BlocksStand.trans {s u v : State} (a : BlocksStand s u) (b : BlocksStand u v) : BlocksStand s v :=
  ⟨b.dt.trans a.dt, b.ev.trans a.ev, b.mp.trans a.mp, b.can.trans a.can, b.mem.trans a.mem, b.sg.trans a.sg, b.ba.trans a.ba,
    b.cx.trans a.cx, b.sw.trans a.sw, b.ft.trans a.ft, b.pe.trans a.pe, b.cl.trans a.cl, b.wk.trans a.wk, b.bt.trans a.bt,
    b.lc.trans a.lc⟩

theorem ReplyFrame.blocksStand {s u : State} (h : ReplyFrame s u) : BlocksStand s u := { h with }

theorem Untouched.blocksStand {s u : State} (h : Untouched s u) : BlocksStand s u := { h with }

theorem leaveIdle_cases (s : State) : leaveIdle s = s ∨ leaveIdle s = wr (lifeSettle s) Reg.WK_STATUS.state 0 := by
  unfold leaveIdle
  split
  · exact .inr rfl
  · exact .inl rfl

theorem atWork_blocksStand (t : Nat) (s : State) : BlocksStand s (atWork t s) := by
  unfold atWork
  obtain stays | left := leaveIdle_cases (tick t s)
  · rw [stays]
    exact ⟨rfl, rfl, rfl, rfl, rfl, rfl, rfl, rfl, rfl, rfl, rfl, rfl, rfl, rfl, rfl⟩
  · rw [left]
    exact ⟨rfl, rfl, rfl, rfl, rfl, rfl, rfl, rfl, rfl, rfl, rfl, rfl, rfl, rfl, rfl⟩

/-- Leaving Idle writes no register but the power state. -/
theorem rd_atWork {f : Fld} {i j : Nat} (t : Nat) (s : State) (other : f.key i j ≠ Reg.WK_STATUS.state.key 0 0) :
    rd (atWork t s) f i j = rd s f i j := by
  unfold atWork
  obtain stays | left := leaveIdle_cases (tick t s)
  · rw [stays, rd_tick]
  · rw [left]
    exact rd_wr_other _ _ _ _ _ _ _ _ other

end Sys2Proof.Machine

/-! SUPPORT. A key slot's erasure (R321), and the parameters that name the slot. -/

namespace Sys2Proof.Machine

@[simp] theorem leBytes_length (n v : Nat) : (leBytes n v).length = n := by
  induction n generalizing v with
  | zero => rfl
  | succ n ih => simp [leBytes, ih]

theorem leNat_leBytes {n v : Nat} (fits : v < 256 ^ n) : leNat (leBytes n v) = v := by
  induction n generalizing v with
  | zero =>
    simp only [Nat.pow_zero] at fits
    simp [leBytes, leNat, show v = 0 by omega]
  | succ n ih =>
    rw [Nat.pow_succ] at fits
    rw [leBytes, leNat, ih (by omega)]
    simp only [BitVec.toNat_ofNat]
    omega

/-- A number written at the front of parameters is read back there. -/
theorem leAt_leBytes {n v : Nat} (rest : Bytes) (fits : v < 256 ^ n) : leAt (leBytes n v ++ rest) 0 n = v := by
  have front : sliceBytes (leBytes n v ++ rest) 0 n = leBytes n v := by
    simp [sliceBytes, zeros]
  rw [leAt, front, leNat_leBytes fits]

@[simp] theorem keySlot_setKeySlot_same (s : State) (n : Nat) (k : KeySlot) : keySlot (setKeySlot s n k) n = k := by
  simp [keySlot, setKeySlot, Tab.get, Tab.find_put_same]

theorem keySlot_setKeySlot_other {n m : Nat} (s : State) (k : KeySlot) (other : m ≠ n) :
    keySlot (setKeySlot s n k) m = keySlot s m := by
  simp [keySlot, setKeySlot, Tab.get, Tab.find_put_other _ _ _ _ other]

theorem keySlot_congr {s u : State} (h : u.cx = s.cx) : keySlot u = keySlot s := by
  funext n
  simp only [keySlot, h]

/-- What an erasure leaves in the slot: EMPTY, without key, its generation counted on from. -/
def erasedSlot (s : State) (slot : Nat) : KeySlot := ⟨0, 0, 0, (keySlot s slot).gen, 0, [], supersede s slot⟩

section
variable {p : Bytes} {slot : Nat} (four : p.length = 4) (named : leAt p 0 2 = slot)
include four named

theorem opKeyErase_root (s : State) (root : slot < 8) : opKeyErase p s = fail s stDenied := by
  simp [opKeyErase, four, named, root]

theorem opKeyErase_free {s : State} (user : 8 ≤ slot) (listed : slot < 512) (free : (keySlot s slot).prev = none) :
    opKeyErase p s =
      okay (setKeySlot { s with cx := { s.cx with stored := Tab.del s.cx.stored slot } } slot (erasedSlot s slot)) [] := by
  simp only [opKeyErase, four, named, free, erasedSlot, show ¬slot < 8 by omega, show ¬511 < slot by omega]
  rfl

end

theorem answer_fail (op : Nat) (c : Call) (s : State) (st : Nat) : answer op c (fail s st) = sendReply s op c st [] := rfl

theorem answer_okay (op : Nat) (c : Call) (s : State) (r : Bytes) : answer op c (okay s r) = sendReply s op c stOk r := rfl

end Sys2Proof.Machine

/-! SUPPORT. The statements on key slots and on device IDs, settled. -/

namespace Sys2Proof.Machine

/-- Settles O26: a ROOT slot is refused; any other is left EMPTY, and neither leaving Idle, the reply nor the end of the command changes a
slot, a memory, the gateway or a table. -/
theorem keyErase : Obligations.KeyErase := by
  intro t c slot s executes bound
  obtain ⟨-, -, -, row, -⟩ := cipherComplete
  have four : (leBytes 2 slot ++ zeros 2).length = 4 := by simp [zeros]
  have named : leAt (leBytes 2 slot ++ zeros 2) 0 2 = slot := leAt_leBytes _ (by omega)
  rw [row t c _ s executes]
  refine ⟨fun root => ?_, fun user unused => ?_⟩
  · rw [opKeyErase_root four named _ root, answer_fail]
  · have before := atWork_blocksStand t s
    rw [← keySlot_congr before.cx] at unused
    rw [opKeyErase_free four named user bound unused, answer_okay]
    generalize erased : setKeySlot _ slot _ = w
    have replied := sendReply_frame w 0x4002 c stOk []
    have ended := settle_untouched (sendReply w 0x4002 c stOk [])
    have slots : keySlot (settle (sendReply w 0x4002 c stOk [])) = keySlot w := keySlot_congr (ended.cx.trans replied.cx)
    have emptied : keySlot w slot = erasedSlot (atWork t s) slot := by rw [← erased, keySlot_setKeySlot_same]
    have others : ∀ m, m ≠ slot → keySlot w m = keySlot s m := fun m other => by
      rw [← erased, keySlot_setKeySlot_other _ _ other, ← keySlot_congr before.cx]
      rfl
    obtain ⟨mem, sg, ft⟩ : w.mem = s.mem ∧ w.sg = s.sg ∧ w.ft = s.ft := by
      rw [← erased]
      exact ⟨before.mem, before.sg, before.ft⟩
    refine ⟨_, rfl, ?_, ?_, fun m other => ?_, mem_settle_out (sendReply_mem ..), fun a => ?_, ?_, ?_⟩
    · rw [slots, emptied, erasedSlot]
    · rw [slots, emptied, erasedSlot]
    · rw [slots, others m other]
    · rw [ended.mem, replied.mem, mem]
    · rw [ended.sg, replied.sg, sg]
    · rw [ended.ft, replied.ft, ft]

theorem opIdRelease_elsewhere {p : Bytes} {s : State} (sixteen : p.length = 16)
    (elsewhere : rdB s Reg.TF_STATUS.coordinator = false) : opIdRelease p s = fail s stDenied := by
  simp [opIdRelease, sixteen, elsewhere]

/-- Settles O41: the coordinator bit (Table 14.13) stands while the device leaves Idle. That DENIED comes before any check of the uid is
the model's reading (log 67, log 91). -/
theorem onlyCoordinatorReleases : Obligations.OnlyCoordinatorReleases := by
  intro t c p s executes sixteen elsewhere
  rw [rdB, ← rd_atWork t s (by decide)] at elsewhere
  have row : exec (.tfIdRelease t c p) s = .next (settle (answer 0x5002 c (opIdRelease p (atWork t s)))) :=
    exec_executes rfl executes
  rw [row, opIdRelease_elsewhere sixteen elsewhere, answer_fail]

end Sys2Proof.Machine

/-! SUPPORT. A register counter raised by 1, and what an event's INT_STATUS bit leaves of the registers. -/

namespace Sys2Proof.Machine

theorem rd_bump_same (s : State) (f : Fld) (i j : Nat) : rd (bump s f i j) f i j = min (rd s f i j + 1) (2 ^ f.len - 1) := by
  rw [bump, bumpBy, rd_wr_same]
  have positive := Nat.two_pow_pos f.len
  exact Nat.mod_eq_of_lt (by omega)

theorem rd_bump_other {f g : Fld} {i j k m : Nat} (s : State) (other : g.key k m ≠ f.key i j) :
    rd (bump s f i j) g k m = rd s g k m := rd_wr_other _ _ _ _ _ _ _ _ other

/-- A register of another block than those that count and flag what events do (SYS, TF and CMD). -/
def BesideEvents (key : Nat) : Prop := key / 2 ^ 21 ≠ 0 ∧ key / 2 ^ 21 ≠ 16 ∧ key / 2 ^ 21 ≠ 18

theorem KeepsRegs.rd {s u : State} (h : KeepsRegs s u) {g : Fld} {k m : Nat} (beside : BesideEvents (g.key k m)) :
    rd u g k m = rd s g k m := by
  obtain ⟨notSys, notFabric, notCommands⟩ := beside
  exact h g k m notSys notFabric notCommands

/-- Past its INT_STATUS field an event writes no register of its block. -/
theorem rd_raiseIn_other {f g : Fld} {i k m : Nat} (s : State) (src code inst : Nat) (data : Bytes)
    (beside : BesideEvents (g.key k m)) (other : g.key k m ≠ f.key i 0) :
    rd (raiseIn s f i src code inst data) g k m = rd s g k m :=
  ((raise_keeps _ src code inst data).rd beside).trans (rd_wr_other _ _ _ _ _ _ _ _ other)

theorem rd_raiseInLimited_other {f g : Fld} {i k m : Nat} (s : State) (src code inst scope n : Nat) (data : Nat → Bytes)
    (beside : BesideEvents (g.key k m)) (other : g.key k m ≠ f.key i 0) :
    rd (raiseInLimited s f i src code inst scope n data) g k m = rd s g k m := by
  unfold raiseInLimited
  refine ((raiseLimited_keeps _ src code inst scope n data).rd beside).trans ?_
  split
  · exact rd_wr_other _ _ _ _ _ _ _ _ other
  · rfl

/-- The bit of an event raised in a field that holds it is set. -/
theorem bitSet_raiseIn {f : Fld} {i : Nat} (s : State) (src code inst : Nat) (data : Bytes) (beside : BesideEvents (f.key i 0))
    (held : code - 1 < f.len) : bitSet (rd (raiseIn s f i src code inst data) f i) (code - 1) = true := by
  rw [raiseIn, (raise_keeps _ src code inst data).rd beside, setBitF, rd_wr_same, bitSet_mod_two_pow held, bitSet_orBit]
  simp

end Sys2Proof.Machine

/-! SUPPORT. The statement on the PCIe link, settled. -/

namespace Sys2Proof.Machine

theorem settle_rings (s : State) : (settle s).hb.rings = s.hb.rings := by
  obtain ⟨p, vs, shape⟩ := settle_shape s
  rw [shape]

/-- HB_STATUS with the link up at a width and a speed. -/
def linkShown (width speed : Nat) (s : State) : State :=
  wr (wr (wr s Reg.HB_STATUS.link 1) Reg.HB_STATUS.width width) Reg.HB_STATUS.speed speed

theorem pcieUp_valid {width speed : Nat} (s : State) (lanes : width = 1 ∨ width = 2 ∨ width = 4) (slow : 1 ≤ speed)
    (fast : speed ≤ 4) : pcieUp width speed s =
      raiseIn (linkShown width speed s) Reg.HB_INT_STATUS.event 0 13 1 0xFFFF (leBytes 1 width ++ leBytes 1 speed) :=
  if_pos ⟨lanes, slow, fast⟩

theorem rd_linkShown {width speed : Nat} (s : State) (narrow : width < 8) (slow : speed < 8) :
    rd (linkShown width speed s) Reg.HB_STATUS.link = 1 ∧ rd (linkShown width speed s) Reg.HB_STATUS.width = width ∧
      rd (linkShown width speed s) Reg.HB_STATUS.speed = speed := by
  unfold linkShown
  refine ⟨?_, ?_, ?_⟩
  · rw [rd_wr_other _ _ _ _ _ _ _ _ (by decide), rd_wr_other _ _ _ _ _ _ _ _ (by decide)]
    exact rd_wr_same ..
  · rw [rd_wr_other _ _ _ _ _ _ _ _ (by decide)]
    exact (rd_wr_same ..).trans (Nat.mod_eq_of_lt narrow)
  · exact (rd_wr_same ..).trans (Nat.mod_eq_of_lt slow)

/-- Settles O27: the row shows the link and raises its event, whose bit is its own; the event and the end of the command leave HB_STATUS,
the memory and the blocks. -/
theorem pcieLinkUp : Obligations.PcieLinkUp := by
  rintro t width speed s v on rfl lanes slow fast
  obtain ⟨-, row, -⟩ := hostRowsComplete
  rw [row t width speed s on, pcieUp_valid _ lanes slow fast]
  obtain ⟨link, lanesShown, speedShown⟩ := rd_linkShown (arrive t s) width.isLt speed.isLt
  generalize shown : linkShown width speed (arrive t s) = w at *
  generalize leBytes 1 width.val ++ leBytes 1 speed.val = data
  have event := raiseIn_frame w Reg.HB_INT_STATUS.event 0 13 1 0xFFFF data
  have kept : ∀ g ∈ [Reg.HB_STATUS.link, Reg.HB_STATUS.width, Reg.HB_STATUS.speed],
      BesideEvents (g.key 0 0) ∧ g.key 0 0 ≠ Reg.HB_INT_STATUS.event.key 0 0 := by
    unfold BesideEvents
    decide
  have bit := bitSet_raiseIn (f := Reg.HB_INT_STATUS.event) (i := 0) w 13 1 0xFFFF data (by unfold BesideEvents; decide) (by decide)
  have rest : ∀ g ∈ [Reg.HB_STATUS.link, Reg.HB_STATUS.width, Reg.HB_STATUS.speed],
      rd (settle (raiseIn w Reg.HB_INT_STATUS.event 0 13 1 0xFFFF data)) g = rd w g := fun g status => by
    obtain ⟨beside, other⟩ := kept g status
    rw [rd_settle, rd_raiseIn_other w 13 1 0xFFFF data beside other]
  have ended := settle_untouched (raiseIn w Reg.HB_INT_STATUS.event 0 13 1 0xFFFF data)
  refine ⟨_, rfl, ?_, ?_, ?_, ?_, ?_, ?_, ?_, ?_⟩
  · exact (rest Reg.HB_STATUS.link (by simp)).trans link
  · exact (rest Reg.HB_STATUS.width (by simp)).trans lanesShown
  · exact (rest Reg.HB_STATUS.speed (by simp)).trans speedShown
  · rw [rd_settle]
    exact bit
  · rw [ended.mem, event.mem, ← shown]
    rfl
  · rw [settle_rings, event.hb, ← shown]
    rfl
  · rw [ended.can, event.can, ← shown]
    rfl
  · rw [ended.sw, event.sw, ← shown]
    rfl

end Sys2Proof.Machine

/-! SUPPORT. A transceiver's dominant time-out (R422), case by case. -/

namespace Sys2Proof.Machine

theorem dominantOp_recessive (n : Nat) (s : State) : dominantOp n true s = wr s Reg.WK_CH_STATUS.dom_to 0 n := rfl

theorem dominantOp_stays {n : Nat} {s : State} (off : xcvrOf s n ≠ 0 ∨ rd s Reg.WK_CH_STATUS.dom_to n = 1) :
    dominantOp n false s = s := by
  refine if_pos (off.imp id fun shown => ?_)
  simp [rdB, shown]

/-- The time-out of channel `n` shown and counted. -/
def domTimedOut (n : Nat) (s : State) : State := bump (wr s Reg.WK_CH_STATUS.dom_to 1 n) Reg.WK_STAT_DOM_TO.value

theorem dominantOp_times {n : Nat} {s : State} (on : xcvrOf s n = 0) (fresh : rd s Reg.WK_CH_STATUS.dom_to n = 0) :
    dominantOp n false s =
      raiseInLimited (domTimedOut n s) Reg.WK_INT_STATUS.event 0 15 10 n n 1 (leBytes 4) := by
  simp [dominantOp, domTimedOut, rdB, on, fresh]

/-- The fields of a time-out lie in the wake block, apart from each other and from its INT_STATUS. -/
theorem domTimeout_keys (n : Fin 32) :
    BesideEvents (Reg.WK_CH_STATUS.dom_to.key n 0) ∧ BesideEvents (Reg.WK_STAT_DOM_TO.value.key 0 0) ∧
      Reg.WK_CH_STATUS.dom_to.key n 0 ≠ Reg.WK_STAT_DOM_TO.value.key 0 0 ∧
      Reg.WK_CH_STATUS.dom_to.key n 0 ≠ Reg.WK_INT_STATUS.event.key 0 0 ∧
      Reg.WK_STAT_DOM_TO.value.key 0 0 ≠ Reg.WK_INT_STATUS.event.key 0 0 := by
  unfold BesideEvents
  revert n
  decide

/-- Settles O40: each clause is a case of the row. That the row does nothing where the transmitter is off, or the time-out already shown,
is the model's reading (log 8; R421). -/
theorem dominantTimeout : Obligations.DominantTimeout := by
  rintro t n s v rfl
  obtain ⟨row, -⟩ := powerComplete
  refine ⟨?_, fun on fresh => ?_, fun off => ?_⟩
  · refine ⟨_, row t n true s, ?_⟩
    rw [dominantOp_recessive]
    exact ⟨(rd_wr_same ..).trans (Nat.zero_mod _), wr_mem .., wr_can ..⟩
  · obtain ⟨besideShown, besideCount, apart, otherShown, otherCount⟩ := domTimeout_keys n
    refine ⟨_, row t n false s, ?_⟩
    rw [dominantOp_times on fresh]
    have event := raiseInLimited_frame (domTimedOut n (arrive t s)) Reg.WK_INT_STATUS.event 0 15 10 n n 1 (leBytes 4)
    refine ⟨?_, ?_, event.mem, event.can⟩
    · rw [rd_raiseInLimited_other _ _ _ _ _ _ _ besideShown otherShown, domTimedOut, rd_bump_other _ apart, rd_wr_same]
      rfl
    · rw [rd_raiseInLimited_other _ _ _ _ _ _ _ besideCount otherCount, domTimedOut, rd_bump_same,
        rd_wr_other _ _ _ _ _ _ _ _ apart.symm]
      rfl
  · rw [row t n false s, dominantOp_stays off]

end Sys2Proof.Machine

/-! SUPPORT. The statements on the SPI command window and on the debug port, settled. -/

namespace Sys2Proof.Machine

theorem spiCommandOp_discards {d : Bytes} {s : State} (on : coreOn s = true) (enabled : rdB s Reg.CMD_CTRL.spi_en = true)
    (discards : s.cmd.spiBusy = true ∨ s.cmd.spiReply.isSome = true ∨ d.length < 20) :
    spiCommandOp d s = bump { s with cmd := { s.cmd with spiDiscarded := true } } Reg.CMD_STAT_SPI_DISCARD.value := by
  have full : (s.cmd.spiBusy || s.cmd.spiReply.isSome || decide (d.length < 20)) = true := by
    simpa [or_assoc] using discards
  simp [spiCommandOp, spiCommand, on, enabled, full]

/-- Settles O39: the discard sets its status bit and its counter, and the counter's write leaves every other register. -/
theorem spiDiscard : Obligations.SpiDiscard := by
  rintro t d s v rfl awake on port enabled discards
  obtain ⟨row, -⟩ := commandsComplete
  refine ⟨_, row t d s awake port, ?_⟩
  rw [spiCommandOp_discards on enabled discards]
  refine ⟨rfl, ?_, fun f i j other => ?_, rfl, rfl⟩
  · exact rd_bump_same ..
  · exact rd_bump_other _ other

/-- What a TAP instruction that only shifts leaves (R478). -/
structure TapFrame (s u : State) : Prop where
  regs : u.regs = s.regs
  pe : u.pe = s.pe
  cps : u.lc.cps = s.lc.cps
  sessionEnd : u.lc.sessionEnd = s.lc.sessionEnd

theorem setIr_frame (s : State) (ir : Nat) : TapFrame s (setIr s ir) := ⟨rfl, rfl, rfl, rfl⟩

theorem setIr_ir (s : State) (ir : Nat) : (setIr s ir).lc.ir = ir := rfl

theorem idcodeOp_shifts (s : State) :
    Out.tdo 0x17264A3D 32 ∈ (idcodeOp s).out ∧ (idcodeOp s).lc.ir = 2 ∧ (idcodeOp s).regs = s.regs :=
  ⟨List.mem_append_right _ (List.mem_singleton_self _), rfl, rfl⟩

theorem bypassOp_shifts (bits len : Nat) (s : State) :
    Out.tdo (bits * 2 % 2 ^ len) len ∈ (bypassOp bits len s).out ∧ (bypassOp bits len s).lc.ir = 0x1F ∧
      (bypassOp bits len s).regs = s.regs := by
  have delayed : bypassBits (bits % 2 ^ len) len = bits * 2 % 2 ^ len := by simp [bypassBits, Nat.mul_mod]
  rw [← delayed]
  exact ⟨List.mem_append_right _ (List.mem_singleton_self _), rfl, rfl⟩

/-- Settles O32: each row selects its instruction in the TAP, puts its bits out, and changes nothing else that is named. -/
theorem tapInstructions : Obligations.TapInstructions := by
  rintro t s v rfl on
  obtain ⟨-, -, idcode, -, -, -, -, bypass, reset, -⟩ := debugComplete
  have stands := setIr_frame (arrive t s) 2
  exact ⟨⟨_, idcode t s on, idcodeOp_shifts _⟩, fun bits len => ⟨_, bypass t bits len s on, bypassOp_shifts bits len _⟩,
    ⟨_, reset t s on, setIr_ir _ 2, stands.regs, stands.cps, stands.pe, stands.sessionEnd⟩⟩

end Sys2Proof.Machine

/-! SUPPORT. The holds of the core die (R500): one set, one removed. -/

namespace Sys2Proof.Machine

theorem bitSet_zero (k : Nat) : bitSet 0 k = false := by simp [bitSet_eq_testBit]

/-- A core die that is held does not run. -/
theorem coreOn_held {s : State} {k : Nat} (held : bitSet s.bt.holds k = true) : coreOn s = false := by
  have some : s.bt.holds ≠ 0 := fun none => by simp [none, bitSet_zero] at held
  simp [coreOn, some]

theorem bitSet_holdBit (k : Nat) (on : Bool) (s : State) : bitSet (holdBit k on s).bt.holds k = on := by
  cases on
  · exact (bitSet_clrBit ..).trans (by simp)
  · exact (bitSet_orBit ..).trans (by simp)

theorem resetPinOp_low (s : State) : bitSet (resetPinOp true s).bt.holds 3 = true := by
  unfold resetPinOp
  rw [if_neg (by decide)]
  split
  case isTrue held => exact held
  case isFalse => exact bitSet_holdBit 3 true _

theorem resetPinOp_high (s : State) :
    bitSet (resetPinOp false s).bt.holds 3 = false ∧ (resetPinOp false s).regs = s.regs ∧ (resetPinOp false s).mem = s.mem ∧
      (resetPinOp false s).bt.due = s.bt.due := ⟨bitSet_holdBit 3 false s, rfl, rfl, rfl⟩

/-- Settles O33: the pin's hold is set or removed; a hold keeps the core die from running. -/
theorem resetPin : Obligations.ResetPin := by
  rintro t s v rfl
  obtain ⟨-, -, -, -, -, -, -, -, -, -, -, -, -, -, -, -, -, -, -, -, -, -, -, -, -, -, row⟩ := powerComplete
  refine ⟨⟨_, row t true s, ?_⟩, ⟨_, row t false s, ?_⟩⟩
  · have ended := settle_untouched (resetPinOp true (arrive t s))
    have held := resetPinOp_low (arrive t s)
    rw [← ended.bt] at held
    exact ⟨coreOn_held held, held⟩
  · have ended := settle_untouched (resetPinOp false (arrive t s))
    rw [ended.regs, ended.mem, ended.bt]
    exact resetPinOp_high _

end Sys2Proof.Machine

/-! SUPPORT. The pending interrupt sources (R392, R420) bit by bit. -/

namespace Sys2Proof.Machine

/-- The number whose bit `x.1` is `x.2` for each `x` of a list. -/
def flagSum (l : List (Nat × Bool)) : Nat := (l.map (fun x => b2n x.2 * 2 ^ x.1)).sum

theorem two_pow_dvd_flagSum {n : Nat} {l : List (Nat × Bool)} (h : ∀ x ∈ l, n ≤ x.1) : 2 ^ n ∣ flagSum l :=
  List.dvd_sum fun v hv => by
    obtain ⟨x, mem, rfl⟩ := List.mem_map.mp hv
    exact Nat.dvd_trans (Nat.pow_dvd_pow 2 (h x mem)) (Nat.dvd_mul_left ..)

/-- The first flag of a rising list is the lowest bit; the others are as in the rest. -/
theorem testBit_flagSum_cons {x : Nat × Bool} {l : List (Nat × Bool)} (above : ∀ y ∈ l, x.1 < y.1) (k : Nat) :
    (flagSum (x :: l)).testBit k = if k = x.1 then x.2 else (flagSum l).testBit k := by
  obtain ⟨m, hm⟩ := two_pow_dvd_flagSum (n := x.1 + 1) above
  have flag : b2n x.2 * 2 ^ x.1 < 2 ^ (x.1 + 1) := by
    rw [Nat.pow_succ]
    have positive := Nat.two_pow_pos x.1
    cases x.2 <;> simp [b2n]
  have sum : flagSum (x :: l) = 2 ^ (x.1 + 1) * m + b2n x.2 * 2 ^ x.1 := by
    rw [← hm, Nat.add_comm]
    rfl
  rw [sum, Nat.testBit_two_pow_mul_add _ flag, hm, Nat.testBit_two_pow_mul, Nat.testBit_mul_two_pow]
  obtain below | here | beyond := Nat.lt_trichotomy k x.1
  · simp [show k < x.1 + 1 by omega, show k ≠ x.1 by omega, show ¬x.1 + 1 ≤ k by omega, show ¬x.1 ≤ k by omega]
  · cases flagged : x.2 <;> simp [here, b2n]
  · simp [show ¬k < x.1 + 1 by omega, show k ≠ x.1 by omega, show x.1 + 1 ≤ k by omega]

theorem testBit_flagSum {l : List (Nat × Bool)} (rising : (l.map Prod.fst).Pairwise (· < ·)) {x : Nat × Bool} (mem : x ∈ l) :
    (flagSum l).testBit x.1 = x.2 := by
  induction l with
  | nil => exact absurd mem List.not_mem_nil
  | cons y l ih =>
    obtain ⟨above, rising⟩ := List.pairwise_cons.mp (List.map_cons ▸ rising)
    have above : ∀ z ∈ l, y.1 < z.1 := fun z hz => above z.1 (List.mem_map_of_mem hz)
    rw [testBit_flagSum_cons above]
    rcases List.mem_cons.mp mem with rfl | later
    · rw [if_pos rfl]
    · rw [if_neg (Nat.ne_of_gt (above x later)), ih rising later]

theorem flagSum_lt {n : Nat} {l : List (Nat × Bool)} (rising : (l.map Prod.fst).Pairwise (· < ·)) (below : ∀ x ∈ l, x.1 < n) :
    flagSum l < 2 ^ n := by
  refine Nat.lt_pow_two_of_testBit _ fun k high => ?_
  induction l with
  | nil => simp [flagSum]
  | cons y l ih =>
    obtain ⟨above, rising⟩ := List.pairwise_cons.mp (List.map_cons ▸ rising)
    obtain ⟨here, below⟩ := List.forall_mem_cons.mp below
    rw [testBit_flagSum_cons fun z hz => above z.1 (List.mem_map_of_mem hz), if_neg (by omega), ih rising below]

/-- The sources of the blocks and of CMD_INT_STATUS, each with whether it is pending. -/
def localSources (s : State) : List (Nat × Bool) :=
  blockSources.map (fun b => (b.src, blockPending s b)) ++ (List.range 8).map (fun k => (32 + k, cmdPending s k))

theorem irqMask_eq (s : State) : irqMask s = 2 ^ 40 * (s.hb.ringIrq % 256) + flagSum (localSources s) := by
  simp only [irqMask, flagSum, localSources, List.map_append, List.map_map, List.sum_append]
  rw [Nat.add_comm, Nat.mul_comm]
  rfl

theorem localSources_numbers (s : State) :
    (localSources s).map Prod.fst = blockSources.map IrqSrc.src ++ (List.range 8).map (32 + ·) := by
  simp only [localSources, List.map_append, List.map_map]
  rfl

theorem localSources_rising (s : State) : ((localSources s).map Prod.fst).Pairwise (· < ·) := by
  rw [localSources_numbers]
  decide

theorem localSources_below (s : State) : ∀ x ∈ localSources s, x.1 < 40 := by
  have numbers : ∀ n ∈ (localSources s).map Prod.fst, n < 40 := by
    rw [localSources_numbers]
    decide
  exact fun x mem => numbers x.1 (List.mem_map_of_mem mem)

/-- A source below the host rings' is pending as the blocks and CMD_INT_STATUS have it. -/
theorem bitSet_irqMask_local {s : State} {x : Nat × Bool} (mem : x ∈ localSources s) : bitSet (irqMask s) x.1 = x.2 := by
  rw [bitSet_eq_testBit, irqMask_eq, Nat.testBit_two_pow_mul_add _ (flagSum_lt (localSources_rising s) (localSources_below s)),
    if_pos (localSources_below s x mem), testBit_flagSum (localSources_rising s) mem]

theorem bitSet_irqMask_ring (s : State) {k : Nat} (ring : k < 8) : bitSet (irqMask s) (40 + k) = bitSet s.hb.ringIrq k := by
  rw [bitSet_eq_testBit, irqMask_eq, Nat.testBit_two_pow_mul_add _ (flagSum_lt (localSources_rising s) (localSources_below s)),
    if_neg (by omega), Nat.add_sub_cancel_left, ← bitSet_eq_testBit]
  exact bitSet_mod_two_pow ring

theorem blockPending_iff (s : State) (b : IrqSrc) : blockPending s b = true ↔
    ∃ i < b.count, (rd s b.en i * 2 ^ b.en.lo) &&& wordOf s b.bits i ≠ 0 := by
  simp [blockPending, instPending]

theorem cmdPending_iff (s : State) (k : Nat) : cmdPending s k = true ↔
    bitSet (rd s Reg.CMD_INT_EN.enable) k = true ∧ bitSet (wordOf s [Reg.CMD_INT_STATUS.cq, Reg.CMD_INT_STATUS.evr,
      Reg.CMD_INT_STATUS.spi_reply, Reg.CMD_INT_STATUS.evr_ovf] 0) k = true := by
  simp [cmdPending]

/-- Settles O31: the three groups of sources are the bits of the pending word, at numbers that rise. -/
theorem interruptSources : Obligations.InterruptSources := by
  refine fun s => ⟨fun k => ?_, fun b source => ?_, fun k => bitSet_irqMask_ring s k.isLt⟩
  · have mem : (32 + k.val, cmdPending s k) ∈ localSources s :=
      List.mem_append_right _ (List.mem_map.mpr ⟨k, List.mem_range.mpr k.isLt, rfl⟩)
    rw [bitSet_irqMask_local mem, cmdPending_iff]
  · have mem : (b.src, blockPending s b) ∈ localSources s := List.mem_append_left _ (List.mem_map_of_mem source)
    rw [bitSet_irqMask_local mem, blockPending_iff]

/-- Settles O29: the two branches of storing a record. -/
theorem eventBufferLatest : Obligations.EventBufferLatest := by
  refine fun s e => ⟨fun room => ?_, fun full => ?_⟩
  · simp [bufferStore, room]
  · simp [bufferStore, full]

end Sys2Proof.Machine

/-! SUPPORT. Fields written one after the other in one copy, and a queue pair and an event ring newly enabled (R403, R417). -/

namespace Sys2Proof.Machine

/-- Fields of copy `i` written in order. -/
def writeAll (ws : List (Fld × Nat)) (i : Nat) (s : State) : State := ws.foldl (fun s w => wr s w.1 w.2 i) s

theorem rd_writeAll_other {ws : List (Fld × Nat)} {g : Fld} {i k m : Nat} (s : State)
    (other : ∀ w ∈ ws, g.key k m ≠ w.1.key i 0) : rd (writeAll ws i s) g k m = rd s g k m := by
  induction ws generalizing s with
  | nil => rfl
  | cons w ws ih =>
    obtain ⟨here, later⟩ := List.forall_mem_cons.mp other
    exact (ih _ later).trans (rd_wr_other _ _ _ _ _ _ _ _ here)

/-- Each of fields apart from each other reads back what was written to it. -/
theorem rd_writeAll_mem {ws : List (Fld × Nat)} {w : Fld × Nat} {i : Nat} (s : State)
    (apart : ws.Pairwise (fun a b => a.1.key i 0 ≠ b.1.key i 0)) (mem : w ∈ ws) :
    rd (writeAll ws i s) w.1 i = w.2 % 2 ^ w.1.len := by
  induction ws generalizing s with
  | nil => exact absurd mem List.not_mem_nil
  | cons x ws ih =>
    obtain ⟨here, later⟩ := List.pairwise_cons.mp apart
    rcases List.mem_cons.mp mem with rfl | mem
    · exact (rd_writeAll_other _ here).trans (rd_wr_same ..)
    · exact ih _ later mem

/-- What enabling a queue pair writes (R403). -/
def enabledPair : List (Fld × Nat) :=
  [(Reg.CMD_QP_CTRL.en, 1), (Reg.CMD_QP_SQ_TAIL.tail, 0), (Reg.CMD_QP_SQ_HEAD.head, 0), (Reg.CMD_QP_CQ_TAIL.tail, 0),
    (Reg.CMD_QP_CQ_TAIL.phase, 1), (Reg.CMD_QP_CQ_HEAD.head, 0)]

theorem enabledPair_apart (q : Fin 4) : enabledPair.Pairwise (fun a b => a.1.key q 0 ≠ b.1.key q 0) := by
  revert q
  decide

/-- The registers of two queue pairs are apart. -/
theorem enabledPair_other {q r : Fin 4} (other : r ≠ q) : ∀ x ∈ enabledPair, ∀ w ∈ enabledPair, x.1.key r 0 ≠ w.1.key q 0 := by
  revert q r
  decide

theorem queueControl_enables {q : Nat} {s : State} (off : rdB s Reg.CMD_QP_CTRL.en q = false) :
    queueControl q true s = { writeAll enabledPair q s with cmd := { s.cmd with subs := Tab.del s.cmd.subs q } } := by
  simp only [queueControl, off]
  rfl

/-- Transports that hold nothing have nothing to go on with. -/
theorem pump_unheld {s : State} (held : s.cmd.held = []) (subs : s.cmd.subs = []) : pump s = s := by
  have offered : pumpHeld s = s := by
    have same : ({ s.cmd with held := [] } : CmdState) = s.cmd := by rw [← held]
    simp only [pumpHeld, held, List.foldl_nil, same]
  have nothing : ∀ q, Tab.get s.cmd.subs q [] = [] := fun q => by rw [subs]; rfl
  simp [pump, offered, nothing, fetchQueue]

/-- Writing registers leaves the events and the memory. -/
theorem writeAll_stands (ws : List (Fld × Nat)) (i : Nat) (s : State) :
    (writeAll ws i s).ev = s.ev ∧ (writeAll ws i s).mem = s.mem := by
  induction ws generalizing s with
  | nil => exact ⟨rfl, rfl⟩
  | cons w ws ih => exact ih (wr s w.1 w.2 i)

/-- What enabling an event ring writes (R417): first its size, where the word gives one of 16 to 4096. -/
def enabledRing (w : Nat) : List (Fld × Nat) :=
  (if decide (4 ≤ bitsOf w 1 4) && decide (bitsOf w 1 4 ≤ 12) then [(Reg.CMD_EVR_CFG.log2, bitsOf w 1 4)] else []) ++
    [(Reg.CMD_EVR_CFG.en, 1), (Reg.CMD_EVR_PUT.put, 0), (Reg.CMD_EVR_GET.get, 0)]

theorem enabledRing_apart (r : Fin 2) (w : Nat) : (enabledRing w).Pairwise (fun a b => a.1.key r 0 ≠ b.1.key r 0) := by
  have fields : ([Reg.CMD_EVR_CFG.log2, Reg.CMD_EVR_CFG.en, Reg.CMD_EVR_PUT.put, Reg.CMD_EVR_GET.get].map
      (·.key r 0)).Nodup := by
    revert r
    decide
  unfold enabledRing
  split
  · exact List.pairwise_map.mp fields
  · exact List.pairwise_map.mp (List.nodup_cons.mp fields).2

theorem eventRingControl_enables {w : Nat} (on : w % 2 = 1) (r : Nat) (s : State) :
    eventRingControl r w s = writeAll (enabledRing w) r s := by
  have bit : bitsOf w 0 1 = 1 := by simpa [bitsOf] using on
  have set : bitSet w 0 = true := by simpa [bitSet] using on
  simp only [eventRingControl, enabledRing, bit, set, if_true]
  split <;> rfl

/-- Settles O28: the pair's registers are written, each apart from the others and from those of other pairs, and the transports, which
hold nothing, have nothing to go on with; an event ring's are written in the same way. -/
theorem queuePairEnable : Obligations.QueuePairEnable := by
  refine ⟨?pair, ?ring⟩
  case pair =>
    rintro t q s v on rfl off held subs
    obtain ⟨-, -, -, -, -, row, -⟩ := commandsComplete
    have enabled := row t q true s on
    generalize arrive t s = v at *
    rw [queueControl_enables off] at enabled
    have idle : pump { writeAll enabledPair q v with cmd := { v.cmd with subs := Tab.del v.cmd.subs q } } = _ :=
      pump_unheld (by simp only [held]) (by simp only [subs, Tab.del])
    rw [idle] at enabled
    have own : ∀ x ∈ enabledPair, rd (writeAll enabledPair q v) x.1 q = x.2 % 2 ^ x.1.len :=
      fun x mem => rd_writeAll_mem v (enabledPair_apart q) mem
    have others : ∀ r : Fin 4, r ≠ q → ∀ x ∈ enabledPair, rd (writeAll enabledPair q v) x.1 r = rd v x.1 r :=
      fun r other x mem => rd_writeAll_other v (enabledPair_other other x mem)
    generalize writeAll enabledPair q v = w at *
    have shown : ∀ f i, rd (settle { w with cmd := { v.cmd with subs := Tab.del v.cmd.subs q } }) f i = rd w f i :=
      fun f i => (rd_settle ..).trans (rd_congr rfl ..)
    refine ⟨_, enabled, ?_⟩
    simp only [shown]
    simp only [enabledPair, List.forall_mem_cons] at own others
    obtain ⟨en, sqTail, sqHead, cqTail, phase, cqHead, -⟩ := own
    refine ⟨en, sqTail, sqHead, cqTail, phase, cqHead, fun r other => ?_⟩
    obtain ⟨en, -, sqHead, cqTail, -⟩ := others r other
    exact ⟨en, sqHead, cqTail⟩
  case ring =>
    rintro t r w s v on rfl en
    obtain ⟨-, -, -, -, -, -, row, -⟩ := commandsComplete
    have enabled := row t r w s on
    generalize arrive t s = v at *
    rw [eventRingControl_enables en] at enabled
    obtain ⟨ev, mem⟩ := writeAll_stands (enabledRing w.toNat) r v
    have settled := settle_untouched (writeAll (enabledRing w.toNat) r v)
    have own : ∀ x ∈ [(Reg.CMD_EVR_CFG.en, 1), (Reg.CMD_EVR_PUT.put, 0), (Reg.CMD_EVR_GET.get, 0)],
        rd (settle (writeAll (enabledRing w.toNat) r v)) x.1 r = x.2 % 2 ^ x.1.len := fun x mem =>
      (rd_settle ..).trans (rd_writeAll_mem v (enabledRing_apart r w.toNat) (List.mem_append_right _ mem))
    exact ⟨_, enabled, own (_, 1) (.head _), own (_, 0) (.tail _ (.head _)), own (_, 0) (.tail _ (.tail _ (.head _))),
      settled.ev.trans ev, settled.mem.trans mem⟩

end Sys2Proof.Machine

/-! SUPPORT. Command packets denied in RECOVERY (R454), held by a halted processor (R481, R482), and answered (R401). -/

namespace Sys2Proof.Machine

section
variable {t op : Nat} {c : Call} {p : Bytes} {s : State} {run : State → State}

/-- In RECOVERY the SP ROM denies what is not on its list. -/
theorem commandRow_denied (on : coreOn s = true) (recovery : s.bt.record.recovery = true) (taken : recoveryVia c.via = true)
    (unlisted : op ∉ recoveryOps) : commandRow t op c p s run = done (sendReply (tick t s) op c stDenied []) := by
  have inside : (tick t s).bt.record.recovery = true := recovery
  have denied : recoveryOps.contains op = false := by simpa using unlisted
  simp only [commandRow, coreOn_tick, on, inside, taken, denied, Bool.not_true, Bool.false_eq_true, if_false, if_true]

/-- In RECOVERY nothing is taken from the other transports. -/
theorem commandRow_untaken (on : coreOn s = true) (recovery : s.bt.record.recovery = true) (untaken : recoveryVia c.via = false) :
    commandRow t op c p s run = done (tick t s) := by
  have inside : (tick t s).bt.record.recovery = true := recovery
  simp only [commandRow, coreOn_tick, on, inside, untaken, Bool.not_true, Bool.not_false, Bool.false_eq_true, if_false, if_true]

/-- The state with a packet at the end of those held. -/
def holding (op : Nat) (c : Call) (p : Bytes) (s : State) : State :=
  { s with cmd := { s.cmd with held := s.cmd.held ++ [⟨c.via, packet c.flags op c.tag c.dst c.src 0 c.seq p, true⟩] } }

theorem commandRow_waits (on : coreOn s = true) (normal : s.bt.record.recovery = false)
    (waits : cpHalted s op = true ∨ (needsSp op c && halted s 2) = true) :
    commandRow t op c p s run = done (holding op c p (tick t s)) := by
  have outside : (tick t s).bt.record.recovery = false := normal
  have waiting : (cpHalted (tick t s) op || needsSp op c && halted (tick t s) 2) = true := Bool.or_eq_true_iff.mpr waits
  simp only [commandRow, coreOn_tick, on, outside, waiting, Bool.not_true, Bool.false_eq_true, if_false, if_true, holding]

end

/-- Settles O8: the two branches of RECOVERY, by the transport. -/
theorem recoveryDeniesCommands : Obligations.RecoveryDeniesCommands := by
  refine ⟨fun i t op c p s packet on recovery taken unlisted => ?_, fun i t op c p s packet on recovery untaken => ?_⟩
  · rw [exec_command i t op c p s packet, commandRow_denied on recovery taken unlisted, done]
  · rw [exec_command i t op c p s packet, commandRow_untaken on recovery untaken]
    obtain ⟨u, ends, untouched, -⟩ := (endsIdle_tick t s).untouched
    exact ⟨u, ends, untouched⟩

/-- Settles O9: the branch of a halted processor; the clock advances. Which processor executes an opcode, and that the packet held
keeps its shown authority, is log 16's choice. -/
theorem haltedProcessorHolds : Obligations.HaltedProcessorHolds := by
  intro i t op c p s packet on normal waits
  rw [exec_command i t op c p s packet, commandRow_waits on normal waits, done]
  exact ⟨_, rfl, { settle_untouched (holding op c p (tick t s)) with }⟩

/-- A command's answer is a reply put out, or its place among the long commands. -/
theorem answer_shown (op : Nat) (c : Call) (a : CmdAnswer) : (∃ st r, Out.reply op c st r ∈ (answer op c a).out) ∨
    ∃ l ∈ (answer op c a).cmd.long, l.opcode = op ∧ l.call = c := by
  rcases answer_cases op c a with ⟨st, r, -, replied⟩ | ⟨-, later⟩
  · rw [replied]
    exact .inl ⟨st, r, sendReply_mem ..⟩
  · rw [later]
    exact .inr ⟨⟨op, c, a.1.now⟩, List.mem_append_right _ (.head _), rfl, rfl⟩

/-- Settles O10: the effect of such a packet is an answer, which replies or stands among the long commands. -/
theorem commandsAnswered : Obligations.CommandsAnswered := by
  intro i t op c p s packet answered clean executes
  obtain ⟨a, effect⟩ := commandEffect_answer i t op c p (atWork t s) packet answered clean
  exact ⟨answer op c a, (exec_executes packet executes).trans (by rw [effect]), answer_shown op c a⟩

end Sys2Proof.Machine

/-! SUPPORT. Opcodes without parameters (R398, R399): each begins with its length check. -/

namespace Sys2Proof.Machine

section
variable {p : Bytes} {s : State} {a : CmdAnswer}

theorem answer_unwanted (op : Nat) (c : Call) (given : p.length ≠ 0) :
    answer op c (if p.length ≠ 0 then fail s stBadLength else a) = sendReply s op c stBadLength [] := by
  rw [if_pos given, answer_fail]

theorem ownAnswer_unwanted (op : Nat) (c : Call) (given : p.length ≠ 0) :
    ownAnswer op c (if p.length ≠ 0 then fail s stBadLength else a) = sendReply s op c stBadLength [] := by
  rw [if_pos given]
  rfl

end

/-- A packet with parameters for an opcode without them has a reply of BAD_LENGTH for its whole effect. -/
theorem commandEffect_unwanted {i : Instr} {t op : Nat} {c : Call} {p : Bytes} (s : State) (h : commandOf i = some (t, op, c, p))
    (mem : op ∈ parameterless) (given : p.length ≠ 0) : commandEffect i s = sendReply s op c stBadLength [] := by
  cases i
  case lcReturn | lcScrap => cases h; exact ownAnswer_unwanted _ _ given
  case lcInfo | lcRelock | lcTamperClear | sysInfo | sysNonce | updAbort | updConfirm | updStatus | lrCheckpoint | clTurnOpen |
      clTurnCommit | clTurnAbort | settingsSave | settingsInfo | peLoadClose =>
    cases h
    exact answer_unwanted _ _ given
  all_goals cases h
  all_goals exact absurd mem (by decide)

/-- Settles O12: the effect of such a packet is the reply of its length check, which comes before every other check (log 67). -/
theorem noParametersWanted : Obligations.NoParametersWanted := by
  intro i t op c p s packet mem executes given
  have length : p.length ≠ 0 := mt List.length_eq_zero_iff.mp given
  exact (exec_executes packet executes).trans (by rw [commandEffect_unwanted _ packet mem length])

end Sys2Proof.Machine

/-! SUPPORT. The reading opcodes (R400, R401): each answers from the state it is given and leaves it. -/

namespace Sys2Proof.Machine

/-- An answer that replies and leaves `s` as it is. -/
def Reads (s : State) (a : CmdAnswer) : Prop := ∃ st r, a = (s, some (st, r))

theorem reads_fail (s : State) (st : Nat) : Reads s (fail s st) := ⟨st, [], rfl⟩

theorem reads_okay (s : State) (r : Bytes) : Reads s (okay s r) := ⟨stOk, r, rfl⟩

/-- A check that a command's parameters fail leaves the state, and so does what follows it. -/
theorem reads_checked {s : State} {check : Prop} [Decidable check] {st : Nat} {a : CmdAnswer} (passed : ¬check → Reads s a) :
    Reads s (if check then fail s st else a) := by
  split
  · exact reads_fail s st
  · exact passed ‹_›

theorem Reads.answer {s : State} {a : CmdAnswer} (reads : Reads s a) (op : Nat) (c : Call) :
    ∃ st r, answer op c a = sendReply s op c st r := by
  obtain ⟨st, r, rfl⟩ := reads
  exact ⟨st, r, rfl⟩

section
variable (p : Bytes) (s : State)

theorem opFltRead_reads : Reads s (opFltRead p s) :=
  reads_checked fun _ => reads_checked fun _ => reads_checked fun _ => reads_checked fun _ => reads_okay ..

theorem opRuleRead_reads : Reads s (opRuleRead p s) := by
  refine reads_checked fun _ => reads_checked fun _ => ?_
  have shown : ∀ r : Option Bytes, Reads s (match r with | some r => okay s r | none => fail s stNotFound)
    | some r => reads_okay s r
    | none => reads_fail s stNotFound
  split
  · exact shown _
  · split
    · exact reads_fail ..
    · exact shown _

theorem opFtTableRead_reads : Reads s (opFtTableRead p s) := reads_checked fun _ => reads_checked fun _ => reads_okay ..

theorem opLpmFind_reads : Reads s (opLpmFind p s) := by
  refine reads_checked fun _ => ?_
  split
  · exact reads_fail ..
  · split
    · exact reads_fail ..
    · exact reads_okay ..

theorem opGclRead_reads : Reads s (opGclRead p s) := by
  refine reads_checked fun _ => reads_checked fun _ => ?_
  split
  · exact reads_fail ..
  · exact reads_checked fun _ => reads_okay ..

theorem opTableRead_reads : Reads s (opTableRead p s) := reads_checked fun _ => reads_checked fun _ => reads_okay ..

theorem opCanrtFind_reads : Reads s (opCanrtFind p s) := by
  refine reads_checked fun _ => reads_checked fun _ => ?_
  split
  · exact reads_fail ..
  · exact reads_okay ..

theorem opSlotRead_reads : Reads s (opSlotRead p s) := reads_checked fun _ => reads_okay ..

theorem opAgeQuery_reads : Reads s (opAgeQuery p s) := reads_checked fun _ => reads_okay ..

theorem opCkRead_reads : Reads s (opCkRead p s) := reads_checked fun _ => reads_okay ..

theorem opL2Find_reads : Reads s (opL2Find p s) := by
  refine reads_checked fun _ => ?_
  split
  · exact reads_fail ..
  · exact reads_okay ..

theorem opReadPage_reads : Reads s (opReadPage p s) := by
  refine reads_checked fun _ => ?_
  split
  · exact reads_fail ..
  · exact reads_okay ..

theorem opLcInfo_reads : Reads s (opLcInfo p s) := reads_checked fun _ => reads_okay ..

theorem opTopoRead_reads : Reads s (opTopoRead p s) := reads_checked fun _ => reads_checked fun _ => reads_okay ..

theorem opRouteRead_reads : Reads s (opRouteRead p s) := reads_checked fun _ => reads_checked fun _ => reads_okay ..

theorem opGrpState_reads : Reads s (opGrpState p s) := reads_checked fun _ => reads_checked fun _ => reads_okay ..

theorem opNodesRead_reads : Reads s (opNodesRead p s) := reads_checked fun _ => reads_checked fun _ => reads_okay ..

theorem opSchedRead_reads : Reads s (opSchedRead p s) := reads_checked fun _ => reads_checked fun _ => reads_okay ..

theorem opKeyInfo_reads : Reads s (opKeyInfo p s) := reads_checked fun _ => reads_okay ..

theorem opFvRead_reads : Reads s (opFvRead p s) := reads_checked fun _ => reads_checked fun _ => reads_okay ..

theorem opSwTableRead_reads : Reads s (opSwTableRead p s) := reads_checked fun _ => reads_checked fun _ => reads_okay ..

theorem opUpdStatus_reads : Reads s (opUpdStatus p s) := reads_checked fun _ => reads_okay ..

theorem opEcho_reads : Reads s (opEcho p s) := reads_checked fun _ => reads_okay ..

end

/-- The effect of a reading opcode's packet is its reply, from the state it finds at its instant. -/
theorem commandEffect_query {i : Instr} {t op : Nat} {c : Call} {p : Bytes} (s : State) (h : commandOf i = some (t, op, c, p))
    (mem : op ∈ queries) (clean : gatewayErrorsOf i = []) :
    ∃ st r, commandEffect i s = sendReply (if gatewayOps.contains op then channelsSync s else s) op c st r := by
  cases i
  case canFltRead => cases h; exact (opFltRead_reads ..).answer ..
  case clRuleRead => cases h; exact (opRuleRead_reads ..).answer ..
  case ftTableRead => cases h; exact (opFtTableRead_reads ..).answer ..
  case ftLpmFind => cases h; exact (opLpmFind_reads ..).answer ..
  case ethGclRead => cases h; exact (opGclRead_reads ..).answer ..
  case sgTableRead => cases h; exact (opTableRead_reads ..).answer ..
  case sgCanrtFind => cases h; exact (opCanrtFind_reads ..).answer ..
  case sgSlotRead g _ _ => cases h; obtain ⟨_, _⟩ := g; cases clean; exact (opSlotRead_reads ..).answer ..
  case sgAgeQuery g _ _ => cases h; obtain ⟨_, _⟩ := g; cases clean; exact (opAgeQuery_reads ..).answer ..
  case ckChRead => cases h; exact (opCkRead_reads ..).answer ..
  case ftL2Find => cases h; exact (opL2Find_reads ..).answer ..
  case lrReadPage => cases h; exact (opReadPage_reads ..).answer ..
  case lcInfo => cases h; exact (opLcInfo_reads ..).answer ..
  case tfTopoRead => cases h; exact (opTopoRead_reads ..).answer ..
  case tfRouteRead => cases h; exact (opRouteRead_reads ..).answer ..
  case pwrGrpState => cases h; exact (opGrpState_reads ..).answer ..
  case pwrNodesRead => cases h; exact (opNodesRead_reads ..).answer ..
  case pwrSchedRead => cases h; exact (opSchedRead_reads ..).answer ..
  case cxKeyInfo => cases h; exact (opKeyInfo_reads ..).answer ..
  case cxFvRead => cases h; exact (opFvRead_reads ..).answer ..
  case swTableRead => cases h; exact (opSwTableRead_reads ..).answer ..
  case updStatus => cases h; exact (opUpdStatus_reads ..).answer ..
  case sysEcho => cases h; exact (opEcho_reads ..).answer ..
  all_goals cases h
  all_goals exact absurd mem (by decide)

/-- A reply from a state leaves its memories and blocks. -/
theorem settle_sendReply_blocksStand (s : State) (op : Nat) (c : Call) (st : Nat) (r : Bytes) :
    BlocksStand s (settle (sendReply s op c st r)) :=
  (sendReply_frame s op c st r).blocksStand.trans (settle_untouched _).blocksStand

/-- Settles O11: the effect is a reply from the state found, and replies leave memories and blocks. -/
theorem queriesOnlyAnswer : Obligations.QueriesOnlyAnswer := by
  intro i t op c p s packet mem clean executes
  obtain ⟨st, r, effect⟩ := commandEffect_query (atWork t s) packet mem clean
  refine ⟨st, r, _, (exec_executes packet executes).trans (by rw [effect]; rfl), rfl, fun v found => ?_⟩
  have work : BlocksStand v (workOf op t s) := by
    rcases found with rfl | ⟨direct, rfl⟩
    · exact .refl _
    · rw [workOf, direct]
      exact atWork_blocksStand t v
  obtain ⟨dt, ev, mp, can, mem, sg, ba, cx, sw, ft, pe, cl, wk, bt, lc⟩ := work.trans (settle_sendReply_blocksStand _ op c st r)
  exact ⟨fun a => by rw [mem], fun a => by rw [ba], can, sg, cx, sw, ft, pe, cl, bt, wk, lc, dt, ev, mp⟩

end Sys2Proof.Machine
